-- ==== Sys2Proof/Word.lean ====
section
/-! DEFINITION. The bit-vector types of the HJ-412 model: the byte of the counter link and the 16-bit check
register of R193. Everything else the manual counts, weighs or compares is a Nat or an Int. -/

namespace Sys2Proof

/-- One byte of the counter link (R174). -/
abbrev Byte := BitVec 8

/-- The check register of R193. -/
abbrev Word16 := BitVec 16

/-- A set of the 128 beams of one array (R24): bit n stands for beam n. -/
abbrev BeamSet := BitVec 128

end Sys2Proof
end

