-- ==== Sys2Proof/Config.lean ====
section
/-! DEFINITION. The figures that the behaviour depends on (00_scope.md 0.11 and the rules named with each), and the
one value the manual leaves open that no command carries. -/

namespace Sys2Proof.Config

/-- Entries of one half of the sample ring (R7). -/
def halfSize : Nat := 8
/-- Invalid run that brings SENSOR (R4). -/
def sensorRun : Nat := 64
/-- Valid run that ends SENSOR (R5). -/
def recoveryRun : Nat := 8
/-- The zero limit of R12, in dg. -/
def zeroLimit : Int := 8000
/-- The range of an initial zero (R11), in dg. -/
def initialZeroLimit : Int := 40000
/-- Overload limit of R13, in dg. -/
def overload : Int := 400900
/-- Underload limit of R13, in dg. -/
def underload : Int := -400
/-- A rounded weight at most this is EMPTY (R13), in dg. -/
def emptyLimit : Int := 200
/-- Sequences between two WEIGHT notices (R20). -/
def noticeGap : Nat := 32

/-- Gate samples that accept a level (R25). -/
def gateSamples : Nat := 8
/-- Stall time (R33), in ms. -/
def stallMs : Nat := 5000
/-- Longest length of a measurement record (R34), in mm. -/
def maxLength : Nat := 2000
/-- End of a 16-bit saturating count. -/
def max16 : Nat := 65535

/-- Band records of a bank (R43). -/
def maxBands : Nat := 512
/-- Zone entries of a bank (R45). -/
def maxZones : Nat := 256

/-- Highest total (R81), in minor units. -/
def maxTotal : Nat := 999999

/-- Places of the quote table (R84). -/
def maxQuotes : Nat := 4
/-- Settle wait of a waiting RATE (R88), in ms. -/
def settleWaitMs : Nat := 3000

/-- Serials of a block (chapter 06). -/
def blockSize : Nat := 1000
/-- Highest block (R107). -/
def maxBlock : Nat := 9999
/-- Holdoff of a claim (R115), in ms. -/
def holdoffMs : Nat := 250
/-- Records of the conflict log (R130). -/
def maxLog : Nat := 8
/-- End of the overflow count (R130). -/
def maxOverflow : Nat := 255
/-- Blocks of a slot's owed HELD list (R121). -/
def maxOwedHeld : Nat := 4
/-- Blocks of a slot's owed SPENT list (R125). -/
def maxOwedSpent : Nat := 2
/-- Product slots (0.11). -/
def slots : Nat := 8

/-- Bag sequences of a ring (R140). -/
def maxBag : Nat := 9999
/-- Routes (0.11). -/
def routes : Nat := 32
/-- End of a row's count (R137). -/
def maxCount : Nat := 255

/-- Stations of a hall line (0.11). -/
def stations : Nat := 32
/-- Admission level of URGENT frames, and the size of the queue (R156). -/
def urgentLevel : Nat := 16
/-- Admission level of NORMAL frames (R156). -/
def normalLevel : Nat := 12
/-- Admission level of LOW frames (R156). -/
def lowLevel : Nat := 8
/-- Census (R154), in ms. -/
def censusMs : Nat := 1000
/-- Silence time (R167), in ms. -/
def silenceMs : Nat := 2000
/-- A LIVE entry of this age becomes SILENT (R166), in ms. -/
def silentMs : Nat := 6000
/-- End of a liveness age (R166), in ms. -/
def maxAgeMs : Nat := 65535000
/-- Failed attempts that set the line fault latch (R162). -/
def faultFailures : Nat := 16

/-- Outstanding requests before BUSY (R177). -/
def maxOutstanding : Nat := 8
/-- Messages in the output queue that shut out notices and BUSY refusals (R177, R179). -/
def noticeLevel : Nat := 23
/-- Gap that ends a message in reception (R175), in ms. -/
def gapMs : Nat := 20
/-- Start byte of a counter-link message (R194). -/
def startByte : Byte := 170

/-- FREE VALUE (log 13). R55 activates "a READY bank" of the heard version; when both banks are READY with it, the
manual does not say which. Draw n is true when bank B is the one. -/
opaque freeBankB : Nat → Bool

end Sys2Proof.Config
end

