-- ==== Sys2Proof/Syntax.lean ====
section
/-! DEFINITION. The commands the HJ-412 takes: one constructor of `Instr` per row of spec/opcode_table.json, with
the operands the rules give the row. A request's operands are its tag and the fields of its body as R195 lays them
out; each is a number of the width given there (WellFormed.lean). -/

namespace Sys2Proof

/-- The two levels of the light gate (R25). -/
inductive GateLevel where
  | clear | blocked
  deriving DecidableEq, Repr

/-- Directions of belt travel (R28). -/
inductive Direction where
  | forward | reverse
  deriving DecidableEq, Repr

/-- The order in which the two claimants of R96 and R158 to the room in the transmit queue are taken within one event:
serving of the pending order, and offering of owed items. DESIGN CHOICE (log 4): the command carries it. -/
inductive RoomOrder where
  | servingFirst | owedFirst
  deriving DecidableEq, Repr

/-- One product record of START (R195), 21 bytes. -/
structure ProductRecord where
  enabled       : Nat
  letter        : Nat
  first         : Nat
  count         : Nat
  volumetric    : Nat
  maxWeight     : Nat
  longSide      : Nat
  girth         : Nat
  absLength     : Nat
  absGirth      : Nat
  maxValue      : Nat
  deriving DecidableEq, Repr

/-- The body of START (R195), 235 bytes. -/
structure StartBody where
  office      : Nat
  group       : Nat
  divisor     : Nat
  ru          : Nat
  lowWater    : Nat
  strict      : Nat
  weightLimit : Nat
  itemLimit   : Nat
  quoteLife   : Nat
  settleCount : Nat
  settleBand  : Nat
  cellEnable  : Nat
  zeros       : List Int
  factors     : List Nat
  nominal     : Nat
  widthMask   : BeamSet
  heightMask  : BeamSet
  products    : List ProductRecord
  deriving DecidableEq, Repr

/-- The body of RATE (R195), 18 bytes. -/
structure RateBody where
  letter        : Nat
  destination   : Nat
  declaredValue : Nat
  flags         : Nat
  manualWeight  : Nat
  len1          : Nat
  len2          : Nat
  len3          : Nat
  deriving DecidableEq, Repr

/-- A request with its body (9.3, R195). `unknown` is a message that test 2 of R177 refuses: its kind is none of
the request kinds, or its body's length does not fit its kind. -/
inductive Request where
  | start (body : StartBody)
  | status (sect : Nat)
  | restart
  | zero
  | mapLoad (letter startBlock : Nat) (span : List Bool)
  | logTake
  | bankOpen (bank openDefault : Nat)
  | cell (letter zone bandCount : Nat)
  | band (u p0 i sw p1 : Nat)
  | zone (low high zone route flags : Nat)
  | surch (letter oversize irregular remoteRate insuranceUnit insurancePrice : Nat)
  | bankClose (version count sum : Nat)
  | swap (bank scope : Nat)
  | rate (body : RateBody)
  | commit (number : Nat)
  | cancel (number : Nat)
  | bagClose (route : Nat)
  | unknown (kind : Nat)
  deriving DecidableEq, Repr

/-- The kind byte of a request (R195). -/
def Request.kind : Request → Nat
  | .start _ => 1
  | .status _ => 2
  | .restart => 3
  | .zero => 4
  | .mapLoad _ _ _ => 5
  | .logTake => 6
  | .bankOpen _ _ => 7
  | .cell _ _ _ => 8
  | .band _ _ _ _ _ => 9
  | .zone _ _ _ _ _ => 10
  | .surch _ _ _ _ _ _ => 11
  | .bankClose _ _ _ => 12
  | .swap _ _ => 13
  | .rate _ => 14
  | .commit _ => 15
  | .cancel _ => 16
  | .bagClose _ => 17
  | .unknown k => k

/-- The commands: one constructor per row of spec/opcode_table.json. Requests carry their tag; heard frames carry
the sending station, the hall group and the contents (8.2); a command whose event reaches both claimants to the room in the
transmit queue carries the order in which they are taken (log 4). -/
inductive Instr where
  | powerOnReset (straps : Nat)
  | start (tag : Nat) (body : StartBody)
  | status (tag sect : Nat)
  | restart (tag : Nat)
  | zero (tag : Nat)
  | mapLoad (tag letter startBlock : Nat) (span : List Bool)
  | logTake (tag : Nat)
  | bankOpen (tag bank openDefault : Nat)
  | cell (tag letter zone bandCount : Nat)
  | band (tag u p0 i sw p1 : Nat)
  | zone (tag low high zone route flags : Nat)
  | surch (tag letter oversize irregular remoteRate insuranceUnit insurancePrice : Nat)
  | bankClose (tag version count sum : Nat)
  | swap (tag bank scope : Nat)
  | rate (tag : Nat) (body : RateBody)
  | commit (tag number : Nat)
  | cancel (tag number : Nat)
  | bagClose (tag route : Nat)
  | linkMessageDiscard
  | gapTimerExpiry
  | messageTransmissionBegin
  | messageTransmissionComplete
  | sampleSequenceStart
  | sequenceEnd (counts : List Int) (reference : Int)
  | waitingRateRelease
  | waitingRateScaleRefusal
  | settleWaitTimerExpiry
  | gateLevelAccepted (level : GateLevel)
  | encoderCount (direction : Direction) (widthBlocked heightBlocked : BeamSet)
  | encoderError
  | stallTimerExpiry
  | quoteExpiry (number : Nat)
  | commitCompletion (number : Nat)
  | holdoffExpiry (slot : Nat) (order : RoomOrder)
  | heardClaim (station group letter block : Nat) (order : RoomOrder)
  | heardHeld (station group letter block : Nat) (order : RoomOrder)
  | heardSpent (station group letter block : Nat) (order : RoomOrder)
  | heardHolds (station group letter : Nat) (blocks : List Nat) (order : RoomOrder)
  | heardPosted (station group letter serial route bag weight : Nat) (order : RoomOrder)
  | heardJoin (station group office : Nat)
  | heardBagnext (station group route bag : Nat)
  | heardCutover (station group version : Nat)
  | heardAlive (station group : Nat)
  | frameDiscard (levels : List Bool)
  | owedItemEntry
  | attemptBegin
  | arbitrationLost (field : Nat)
  | failedAttempt
  | transmitCompletion (acknowledged : Bool) (order : RoomOrder)
  | censusTimerExpiry (order : RoomOrder)
  | silenceTimerExpiry
  | livenessSilent (station : Nat)
  | gateSample (level : GateLevel)
  | byteReceived (byte : Byte) (framingError : Bool)
  | unknownRequestKind (tag kind : Nat)
  deriving DecidableEq, Repr

end Sys2Proof
end

