-- ==== Sys2Proof/Decode.lean ====
section
/-! DEFINITION. Words that spell a command by the table's bits: none, since no row of spec/opcode_table.json gives
bits (log 28). The byte layouts of the requests are in Machine/Operands.lean, those of the hall frames in
Machine/Layouts.lean. -/

namespace Sys2Proof

/-- The command a word of the table spells: no row gives bits (log 28). -/
def decodeTableWord (_nbits _w : Nat) : Option Instr := none

end Sys2Proof
end

