-- ==== Sys2Proof/Machine/State.lean ====
section
/-! DEFINITION. The state of the HJ-412 as plain data: the configuration taken at START, the eight blocks that hold
state, the queue of waiting commands, and the messages the part sends. Each field cites the rule that names it. -/

namespace Sys2Proof.Machine

/-! ### The configuration taken at START (R182) -/

/-- One enabled load cell (R1). -/
structure LoadCell where
  channel : Nat
  zero    : Int
  factor  : Nat
  deriving DecidableEq, Repr

/-- A product record as START configured it (4.1, R107). -/
structure Product where
  enabled    : Bool
  letter     : Nat
  first      : Nat
  count      : Nat
  volumetric : Bool
  maxWeight  : Nat
  longSide   : Nat
  girth      : Nat
  absLength  : Nat
  absGirth   : Nat
  maxValue   : Nat
  deriving DecidableEq, Repr

/-- The whole configuration (9.4), absent fields already replaced by their defaults. -/
structure Setup where
  office       : Nat
  group        : Nat
  divisor      : Nat
  roundingUnit : Nat
  lowWater     : Nat
  strictWindow : Bool
  weightLimit  : Nat
  itemLimit    : Nat
  quoteLife    : Nat
  settleCount  : Nat
  settleBand   : Nat
  cells        : List LoadCell
  nominal      : Nat
  widthMask    : BeamSet
  heightMask   : BeamSet
  products     : List Product
  deriving DecidableEq, Repr

/-! ### Weighing front end and dimension gauge (01, 02) -/

/-- Scale states (1.6), in the order of the table. -/
inductive ScaleState where
  | noZero | empty | moving | settled | range | sensor
  deriving DecidableEq, Repr

/-- The two halves of the sample ring (R7). -/
inductive Half where
  | first | second
  deriving DecidableEq, Repr

/-- A measurement record of the gauge (02). -/
structure Measurement where
  length    : Nat
  width     : Nat
  height    : Nat
  edge      : Bool
  irregular : Bool
  long      : Bool
  deriving DecidableEq, Repr

/-- A parcel record (1.7); the weight in grams. -/
structure Parcel where
  settleNumber : Nat
  weight       : Nat
  dims         : Option Measurement
  deriving DecidableEq, Repr

/-- State of the weighing front end (01). -/
structure Weighing where
  invalidRun     : Nat
  validRun       : Nat
  firstHalf      : List Int
  secondHalf     : List Int
  filling        : Half
  kept           : List Int
  zo             : Int
  zinit          : Option Int
  scale          : ScaleState
  settleNumber   : Nat
  parcel         : Option Parcel
  reportedState  : ScaleState
  reportedWeight : Option Int
  noticeGap      : Nat
  converting     : Bool
  deriving DecidableEq, Repr

/-- Pass states (R26). -/
inductive PassState where
  | idle | passing | stalled
  deriving DecidableEq, Repr

/-- State of the dimension gauge (02); the stall timer in ms. -/
structure Gauge where
  accepted      : GateLevel
  gateRun       : Nat
  pass          : PassState
  length        : Nat
  highWater     : Nat
  stallTimer    : Nat
  width         : Nat
  height        : Nat
  edge          : Bool
  irregular     : Bool
  scanCount     : Nat
  slot          : Option Measurement
  discardCount  : Nat
  replacedCount : Nat
  stallCount    : Nat
  encoderErrors : Nat
  deriving DecidableEq, Repr

/-! ### Tariff store (03) -/

/-- Bank states (3.1). -/
inductive BankState where
  | empty | loading | ready | active | retiring
  deriving DecidableEq, Repr

/-- The two banks. -/
inductive BankId where
  | a | b
  deriving DecidableEq, Repr

/-- A loaded cell (3.2): product slot, zone, index of its first band record, band count. -/
structure TariffCell where
  slot  : Nat
  zone  : Nat
  first : Nat
  count : Nat
  deriving DecidableEq, Repr

/-- A band record (3.2). -/
structure BandRecord where
  u  : Nat
  p0 : Nat
  i  : Nat
  sw : Nat
  p1 : Nat
  deriving DecidableEq, Repr

/-- A zone entry (3.2). -/
structure ZoneEntry where
  low         : Nat
  high        : Nat
  zone        : Nat
  route       : Nat
  remote      : Bool
  noInsurance : Bool
  deriving DecidableEq, Repr

/-- A product's surcharge record (3.2). -/
structure Surcharge where
  slot           : Nat
  oversize       : Nat
  irregular      : Nat
  remoteRate     : Nat
  insuranceUnit  : Nat
  insurancePrice : Nat
  deriving DecidableEq, Repr

/-- A tariff bank (3.1). -/
structure Bank where
  state       : BankState
  version     : Nat
  refs        : Nat
  openDefault : Bool
  cells       : List TariffCell
  bands       : List BandRecord
  zones       : List ZoneEntry
  surcharges  : List Surcharge
  deriving DecidableEq, Repr

/-- The open cell of the load cursor (3.3): bands still expected, and U of its last band. -/
structure OpenCell where
  slot     : Nat
  zone     : Nat
  expected : Nat
  lastU    : Option Nat
  deriving DecidableEq, Repr

/-- The load cursor (3.3). -/
structure Cursor where
  records    : Nat
  sum        : Nat
  cells      : Nat
  bands      : Nat
  zones      : Nat
  surcharges : Nat
  openCell   : Option OpenCell
  lastHigh   : Option Nat
  deriving DecidableEq, Repr

/-- State of the tariff store (03). -/
structure Tariff where
  bankA       : Bank
  bankB       : Bank
  cursor      : Cursor
  owedCutover : Option Nat
  deriving DecidableEq, Repr

/-! ### Quote table (05) and the rating unit's result (R81) -/

/-- Source of a computation's dimensions (R66). -/
inductive DimSource where
  | gauge | manual
  deriving DecidableEq, Repr

/-- Sorted dimensions a ≥ b ≥ c with their source and the gauge flags (R81); manual ones carry none (R66). -/
structure Dims where
  a         : Nat
  b         : Nat
  c         : Nat
  source    : DimSource
  edge      : Bool
  irregular : Bool
  long      : Bool
  deriving DecidableEq, Repr

/-- Price lines of a result (R81). -/
structure PriceLines where
  band      : Nat
  oversize  : Nat
  irregular : Nat
  remote    : Nat
  insurance : Nat
  rounding  : Int
  total     : Nat
  deriving DecidableEq, Repr

/-- Flags of a result (R81). -/
structure RateFlags where
  manualWeight : Bool
  manualDims   : Bool
  byVolume     : Bool
  large        : Bool
  irregular    : Bool
  remote       : Bool
  insured      : Bool
  deriving DecidableEq, Repr

/-- The rating unit's result record (R81). -/
structure RateResult where
  letter       : Nat
  destination  : Nat
  zone         : Nat
  route        : Nat
  bank         : BankId
  version      : Nat
  settleNumber : Option Nat
  wa           : Nat
  wc           : Nat
  wv           : Option Nat
  dims         : Option Dims
  declared     : Option Nat
  price        : PriceLines
  flags        : RateFlags
  deriving DecidableEq, Repr

/-- An outstanding request as its owner knows it: its place on the outstanding list (log 7) and its tag. -/
structure RequestRef where
  id  : Nat
  tag : Nat
  deriving DecidableEq, Repr

/-- State of a quote (5.1); a COMMITTING one knows the COMMIT it answers. -/
inductive QuoteState where
  | opened
  | committing (ref : RequestRef)
  deriving DecidableEq, Repr

/-- A quote record (5.1); the age timer of R91 in ms. -/
structure Quote where
  number : Nat
  state  : QuoteState
  ageMs  : Nat
  result : RateResult
  deriving DecidableEq, Repr

/-- The waiting RATE (R86); its settle wait timer in ms. -/
structure WaitingRate where
  ref   : RequestRef
  body  : RateBody
  timer : Nat
  deriving DecidableEq, Repr

/-- State of the quote table (05). -/
structure QuoteTable where
  records      : List Quote
  pendingOrder : List Nat
  nextNumber   : Nat
  waiting      : Option WaitingRate
  deriving DecidableEq, Repr

/-! ### Number allocator (06) -/

/-- Claim states (chapter 06); HOLDOFF with the remaining time in ms. -/
inductive Claim where
  | none
  | owed (block : Nat)
  | queued (block : Nat)
  | holdoff (block remaining : Nat)
  deriving DecidableEq, Repr

/-- Supply states (R111), in the order of the chapter's state table. -/
inductive Supply where
  | off | waiting | stocked | last | exhausted
  deriving DecidableEq, Repr

/-- The current block with its next offset (R110). -/
structure CurrentBlock where
  block : Nat
  next  : Nat
  deriving DecidableEq, Repr

/-- One product slot of the allocator (06). `marks` is the exclusion map, one flag per block of the window. -/
structure Slot where
  letter    : Nat
  enabled   : Bool
  first     : Nat
  count     : Nat
  marks     : List Bool
  current   : Option CurrentBlock
  reserve   : Option Nat
  claim     : Claim
  cursor    : Nat
  supply    : Supply
  owedHeld  : List Nat
  owedSpent : List Nat
  holdsOwed : Bool
  deriving DecidableEq, Repr

/-- Kinds of conflict log record (R130). -/
inductive ConflictKind where
  | conflict | stray | outOfWindow
  deriving DecidableEq, Repr

/-- A conflict log record (R130). -/
structure ConflictRecord where
  kind    : ConflictKind
  letter  : Nat
  block   : Nat
  serial  : Option Nat
  station : Nat
  deriving DecidableEq, Repr

/-- State of the number allocator (06): `column` is the peer holdings column, per station and then per slot. -/
structure Allocator where
  slots    : List Slot
  column   : List (List (List Nat))
  log      : List ConflictRecord
  overflow : Nat
  deriving DecidableEq, Repr

/-! ### Bag table (07) -/

/-- Follow states of a row (R138). -/
inductive Follow where
  | fresh | followed
  deriving DecidableEq, Repr

/-- A route row (R137) with its owed BAGNEXT (R146). -/
structure Row where
  seq    : Nat
  fill   : Nat
  count  : Nat
  follow : Follow
  owed   : Option Nat
  deriving DecidableEq, Repr

/-- State of the bag table (07). -/
structure BagTable where
  rows      : List Row
  lateCount : Nat
  deriving DecidableEq, Repr

/-! ### Hall line controller (08) -/

/-- Station states (8.1). -/
inductive StationState where
  | starting | joining | joined | muted
  deriving DecidableEq, Repr

/-- Frame classes (R160). -/
inductive FrameClass where
  | urgent | normal | low
  deriving DecidableEq, Repr

/-- Frame kinds, in the order of the table of 8.2. -/
inductive FrameKind where
  | join | holds | alive | claim | held | spent | posted | bagnext | cutover
  deriving DecidableEq, Repr

/-- The contents of a frame (8.2). -/
inductive FrameBody where
  | join (office : Nat)
  | holds (letter : Nat) (blocks : List Nat)
  | alive
  | claim (letter block : Nat)
  | held (letter block : Nat)
  | spent (letter block : Nat)
  | posted (letter serial route bag weight : Nat)
  | bagnext (route bag : Nat)
  | cutover (version : Nat)
  deriving DecidableEq, Repr

/-- The kind of a frame. -/
def FrameBody.kind : FrameBody → FrameKind
  | .join _ => .join
  | .holds _ _ => .holds
  | .alive => .alive
  | .claim _ _ => .claim
  | .held _ _ => .held
  | .spent _ _ => .spent
  | .posted _ _ _ _ _ => .posted
  | .bagnext _ _ => .bagnext
  | .cutover _ => .cutover

/-- The class the table of 8.2 gives each kind. -/
def FrameKind.frameClass : FrameKind → FrameClass
  | .claim | .held => .urgent
  | .alive => .low
  | .join | .holds | .spent | .posted | .bagnext | .cutover => .normal

/-- A frame (R155): sending station, hall group and contents; its kind and class follow from the contents. -/
structure Frame where
  station : Nat
  group   : Nat
  body    : FrameBody
  deriving DecidableEq, Repr

/-- The class of a frame. -/
def Frame.frameClass (f : Frame) : FrameClass := f.body.kind.frameClass

/-- A frame in the transmit queue, with its check once it has first been attempted (R155). -/
structure QueuedFrame where
  frame : Frame
  check : Option Word16
  deriving DecidableEq, Repr

/-- Liveness states (8.6). -/
inductive Liveness where
  | absent | live | silent
  deriving DecidableEq, Repr

/-- A liveness entry (R166); the age in ms. -/
structure Peer where
  liveness  : Liveness
  ageMs     : Nat
  lastGroup : Option Nat
  office    : Option Nat
  deriving DecidableEq, Repr

/-- State of the hall line controller (08); timers in ms. `ackDriven` tells whether this station drove the acknowledge slot
of the last frame it received (R163; log 24). -/
structure Hall where
  station        : Nat
  state          : StationState
  census         : Option Nat
  queue          : List QueuedFrame
  owedJoin       : Bool
  attempt        : Option Frame
  failures       : Nat
  lineFault      : Bool
  silence        : Nat
  peers          : List Peer
  receiveErrors  : Nat
  unacknowledged : Nat
  ackDriven      : Bool
  deriving DecidableEq, Repr

/-! ### Messages of the counter link (09, 10) -/

/-- Refusal reasons (R185), in the order of their codes (R196). -/
inductive Reason where
  | busy | badRequest | notStarted | already | noTariff | unknownProduct | unroutable | notServed | noDims
  | dimsUnsure | oversize | overweight | valueLimit | noInsurance | priceLimit | noParcel | unsettled | overload
  | sensor | noZero | zeroRange | quotesFull | noQuote | noNumbers | muted | restarted | cancelled | bankBusy
  | loadError | notLoading
  deriving DecidableEq, Repr

/-- Details of LOAD_ERROR (R196). -/
inductive LoadDetail where
  | sum | order | full
  deriving DecidableEq, Repr

/-- The LABEL record (R191): item number text as character codes, bag sequence, station, and the quote's fields. -/
structure LabelRecord where
  text        : List Nat
  quoteNumber : Nat
  bag         : Nat
  station     : Nat
  result      : RateResult
  deriving DecidableEq, Repr

/-- SCALE section of STATUS (R21). -/
structure ScaleReport where
  scale        : ScaleState
  weight       : Option Int
  stable       : Bool
  zo           : Int
  zinit        : Option Int
  settleNumber : Nat
  parcel       : Option Parcel
  deriving DecidableEq, Repr

/-- The pass fields of the GAUGE section (R38). -/
structure PassReport where
  length    : Nat
  width     : Nat
  height    : Nat
  scanCount : Nat
  edge      : Bool
  irregular : Bool
  deriving DecidableEq, Repr

/-- GAUGE section of STATUS (R38). -/
structure GaugeReport where
  pass          : PassState
  accepted      : GateLevel
  fields        : Option PassReport
  slot          : Option Measurement
  discardCount  : Nat
  replacedCount : Nat
  stallCount    : Nat
  encoderErrors : Nat
  deriving DecidableEq, Repr

/-- One bank of the TARIFF section (R60). -/
structure BankReport where
  state       : BankState
  version     : Nat
  refs        : Nat
  openDefault : Bool
  cells       : Nat
  bands       : Nat
  zones       : Nat
  surcharges  : Nat
  deriving DecidableEq, Repr

/-- The load in progress of the TARIFF section (R60); `expected` is present while a cell is open. -/
structure LoadReport where
  records  : Nat
  sum      : Nat
  expected : Option Nat
  deriving DecidableEq, Repr

/-- TARIFF section of STATUS (R60). -/
structure TariffReport where
  bankA       : BankReport
  bankB       : BankReport
  load        : Option LoadReport
  owedCutover : Option Nat
  deriving DecidableEq, Repr

/-- One quote of the QUOTES section (R103); `committing` tells its state. -/
structure QuoteReport where
  number     : Nat
  committing : Bool
  letter     : Nat
  bank       : BankId
  version    : Nat
  route      : Nat
  total      : Nat
  age        : Nat
  deriving DecidableEq, Repr

/-- QUOTES section of STATUS (R103); `waiting` is the waiting RATE's tag and its timer in ms. -/
structure QuotesReport where
  records      : List QuoteReport
  pendingOrder : List Nat
  nextNumber   : Nat
  waiting      : Option (Nat × Nat)
  deriving DecidableEq, Repr

/-- The configuration fields of one slot of the NUMBERS section, marked absent before START (R183). -/
structure SlotConfigReport where
  letter  : Nat
  enabled : Bool
  first   : Nat
  count   : Nat
  deriving DecidableEq, Repr

/-- One slot of the NUMBERS section (R132); `current` is the block with its serials left. -/
structure SlotReport where
  config    : Option SlotConfigReport
  supply    : Supply
  current   : Option (Nat × Nat)
  reserve   : Option Nat
  claim     : Claim
  cursor    : Option Nat
  free      : Nat
  owedHeld  : Nat
  owedSpent : Nat
  owedHolds : Nat
  deriving DecidableEq, Repr

/-- NUMBERS section of STATUS (R132, R183). -/
structure NumbersReport where
  slots    : List SlotReport
  logCount : Nat
  overflow : Nat
  deriving DecidableEq, Repr

/-- One station of the PEERS section (R132, R170): liveness entry, age in s, and its lists per product slot. -/
structure PeerReport where
  liveness  : Liveness
  age       : Nat
  lastGroup : Option Nat
  office    : Option Nat
  holdings  : List (List Nat)
  deriving DecidableEq, Repr

/-- BAGS section of STATUS (R149). -/
structure BagsReport where
  weightLimit : Option Nat
  itemLimit   : Option Nat
  rows        : List Row
  lateCount   : Nat
  deriving DecidableEq, Repr

/-- LINE section of STATUS (R170). In JOINING `census` tells whether the JOIN has been sent and the time the census
timer has run. -/
structure LineReport where
  station        : Nat
  group          : Option Nat
  state          : StationState
  census         : Option Nat
  queued         : Nat
  urgent         : Nat
  normal         : Nat
  low            : Nat
  head           : Option FrameKind
  owedJoin       : Bool
  attempting     : Bool
  failures       : Nat
  lineFault      : Bool
  receiveErrors  : Nat
  unacknowledged : Nat
  deriving DecidableEq, Repr

/-- LINK section of STATUS (R183). -/
structure LinkReport where
  started     : Bool
  outstanding : Nat
  output      : Nat
  noticeSeq   : Nat
  linkErrors  : Nat
  dropped     : Nat
  deriving DecidableEq, Repr

/-- One section of the STATUS report (R183). -/
inductive Report where
  | scale (r : ScaleReport)
  | gauge (r : GaugeReport)
  | tariff (r : TariffReport)
  | quotes (r : QuotesReport)
  | numbers (r : NumbersReport)
  | peers (r : List PeerReport)
  | bags (r : BagsReport)
  | line (r : LineReport)
  | link (r : LinkReport)
  deriving DecidableEq, Repr

/-- The bodies of DONE (9.3). `plain` is that of ZERO, BANKOPEN, CELL, BAND, ZONE, SURCH and CANCEL. -/
inductive DoneBody where
  | plain
  | start (station : Nat) (state : StationState)
  | status (report : Report)
  | restart (answered : Nat)
  | mapLoad (newly : Nat)
  | logTake (record : Option ConflictRecord) (overflow : Nat)
  | bank (bank : BankId) (version : Nat)
  | bagClose (route bag : Nat)
  deriving DecidableEq, Repr

/-- Replies (R178). -/
inductive Reply where
  | done (body : DoneBody)
  | quote (number station : Nat) (result : RateResult)
  | label (record : LabelRecord)
  | refused (reason : Reason) (detail : Option LoadDetail)
  deriving DecidableEq, Repr

/-- What a won block became (R119). -/
inductive Holding where
  | current | reserve
  deriving DecidableEq, Repr

/-- Causes of an activation (R56). -/
inductive ActivationCause where
  | swapLocal | swapHall
  | cutover (station : Nat)
  deriving DecidableEq, Repr

/-- Notices (R184). `muted` carries the kind of the frame that revealed the duplicate, absent for the word START. -/
inductive Notice where
  | weight (scale : ScaleState) (weight : Option Int) (stable : Bool)
  | blockWon (letter block : Nat) (holding : Holding)
  | excluded (letter block : Nat) (kind : FrameKind) (station : Nat)
  | lowNumbers (letter block left : Nat)
  | exhausted (letter : Nat)
  | conflict (kind : ConflictKind) (letter block : Nat)
  | tariffChanged (bank : BankId) (version : Nat) (previous : Option (Nat × BankState)) (cause : ActivationCause)
  | cutoverMissed (version station : Nat) (active : Option Nat)
  | joined (live : Nat)
  | lineFault (kind : FrameKind) (frameClass : FrameClass) (queued : Nat)
  | muted (station sender : Nat) (kind : Option FrameKind)
  deriving DecidableEq, Repr

/-- A message of the engine: a reply with its tag (and, but for a BUSY refusal of R177, the place of its request on the
outstanding list), or a notice with its sequence number. -/
inductive OutMsg where
  | reply (request : Option Nat) (tag : Nat) (body : Reply)
  | notice (seq : Nat) (body : Notice)
  deriving DecidableEq, Repr

/-- A message in the output queue with the check computed as it entered (R194). -/
structure OutEntry where
  msg   : OutMsg
  check : Word16
  deriving DecidableEq, Repr

/-! ### Counter link (09) -/

/-- Parser states (R175). -/
inductive ParserState where
  | hunt | length | content | check
  deriving DecidableEq, Repr

/-- An outstanding request (R177): tag and kind byte, with the model's own number of it (log 7). -/
structure Outstanding where
  id   : Nat
  tag  : Nat
  kind : Nat
  deriving DecidableEq, Repr

/-- State of the counter link (09); the gap timer in ms. `received` holds the bytes of the message in reception after
its start byte. -/
structure Link where
  parser      : ParserState
  received    : List Byte
  declared    : Nat
  gapTimer    : Nat
  outstanding : List Outstanding
  nextId      : Nat
  output      : List OutEntry
  onLine      : Option (List Byte)
  noticeSeq   : Nat
  linkErrors  : Nat
  dropped     : Nat
  deriving DecidableEq, Repr

/-! ### The whole machine -/

/-- What one event has produced so far (log 8): messages in the order of production, whether owed items are to be
offered (R157), and whether the pending order is to be served (R95). Clear between events. -/
structure Scratch where
  produced : List OutMsg
  offerDue : Bool
  serveDue : Bool
  deriving DecidableEq, Repr

/-- The HJ-412. `pending` is the queue of waiting commands, first in, first out; `draws` counts the free values drawn
(log 13). -/
structure State where
  setup    : Option Setup
  weighing : Weighing
  gauge    : Gauge
  tariff   : Tariff
  quotes   : QuoteTable
  alloc    : Allocator
  bags     : BagTable
  hall     : Hall
  link     : Link
  scratch  : Scratch
  draws    : Nat
  pending  : List Instr
  deriving DecidableEq, Repr

/-- The machine stops with a fault for no command: the spec names no condition that stops the part. No constructor. -/
inductive Fault where
  deriving DecidableEq, Repr

/-- Why a command has no meaning. -/
inductive Refusal where
  /-- Raised by an arm of `exec` whose command has no meaning yet; safe. No arm raises it. -/
  | notModelled (mnemonic : String)
  deriving DecidableEq, Repr

/-! ### Reset (R22, R39, R61, R104, R134, R150, R171, R188) -/

/-- R22. -/
def Weighing.reset : Weighing :=
  { invalidRun := 0, validRun := 0, firstHalf := [], secondHalf := [], filling := .first, kept := [], zo := 0,
    zinit := none, scale := .noZero, settleNumber := 0, parcel := none, reportedState := .noZero,
    reportedWeight := none, noticeGap := Config.noticeGap, converting := false }

/-- R39. -/
def Gauge.reset : Gauge :=
  { accepted := .clear, gateRun := 0, pass := .idle, length := 0, highWater := 0, stallTimer := 0, width := 0,
    height := 0, edge := false, irregular := false, scanCount := 0, slot := none, discardCount := 0,
    replacedCount := 0, stallCount := 0, encoderErrors := 0 }

/-- An EMPTY bank: no contents, version 0, open default clear, reference count 0 (3.1, R61). -/
def Bank.cleared : Bank :=
  { state := .empty, version := 0, refs := 0, openDefault := false, cells := [], bands := [], zones := [],
    surcharges := [] }

/-- The cleared load cursor (R41, R47). -/
def Cursor.cleared : Cursor :=
  { records := 0, sum := 0, cells := 0, bands := 0, zones := 0, surcharges := 0, openCell := none, lastHigh := none }

/-- R61. -/
def Tariff.reset : Tariff :=
  { bankA := .cleared, bankB := .cleared, cursor := .cleared, owedCutover := none }

/-- R104. -/
def QuoteTable.reset : QuoteTable :=
  { records := [], pendingOrder := [], nextNumber := 1, waiting := none }

/-- A product slot that is OFF (R134). -/
def Slot.off : Slot :=
  { letter := 0, enabled := false, first := 0, count := 0, marks := [], current := none, reserve := none,
    claim := .none, cursor := 0, supply := .off, owedHeld := [], owedSpent := [], holdsOwed := false }

/-- The empty peer holdings column: a list for each of 32 stations and 8 slots (R134). -/
def emptyColumn : List (List (List Nat)) := List.replicate Config.stations (List.replicate Config.slots [])

/-- R134. -/
def Allocator.reset : Allocator :=
  { slots := List.replicate Config.slots .off, column := emptyColumn, log := [], overflow := 0 }

/-- A row at power-on (R150). -/
def Row.reset : Row := { seq := 1, fill := 0, count := 0, follow := .fresh, owed := none }

/-- R150. -/
def BagTable.reset : BagTable := { rows := List.replicate Config.routes .reset, lateCount := 0 }

/-- A liveness entry at power-on (R166). -/
def Peer.reset : Peer := { liveness := .absent, ageMs := 0, lastGroup := none, office := none }

/-- R171, with the station number latched from the strap pins (R152). -/
def Hall.reset (straps : Nat) : Hall :=
  { station := straps, state := .starting, census := none, queue := [], owedJoin := false, attempt := none,
    failures := 0, lineFault := false, silence := 0, peers := List.replicate Config.stations .reset,
    receiveErrors := 0, unacknowledged := 0, ackDriven := false }

/-- R188. -/
def Link.reset : Link :=
  { parser := .hunt, received := [], declared := 0, gapTimer := 0, outstanding := [], nextId := 0, output := [],
    onLine := none, noticeSeq := 0, linkErrors := 0, dropped := 0 }

/-- Nothing produced, nothing due: the scratch between two events. -/
def Scratch.clear : Scratch := { produced := [], offerDue := false, serveDue := false }

/-- Power-on reset with the strap pins at `straps` and `pending` left waiting (R152, 0.12). -/
def State.powerOn (straps : Nat) (pending : List Instr) : State :=
  { setup := none, weighing := .reset, gauge := .reset, tariff := .reset, quotes := .reset, alloc := .reset,
    bags := .reset, hall := .reset straps, link := .reset, scratch := .clear, draws := 0, pending := pending }

/-- The machine right after power-on reset, its strap pins all low. DESIGN CHOICE, unsafe (log 5): the spec does not give
the pins' levels; POWER_ON_RESET latches any. -/
def State.reset : State := State.powerOn 0 []

end Sys2Proof.Machine
end

