-- ==== Sys2Proof/Machine/Flags.lean ====
section
/-! DEFINITION. The arithmetic terms of 0.8 and the conditions, flags and judgements that the rules compute from
state: rounding and the settled condition, what the host sees of the scale, the findings of a beam scan, the supply state,
the judgement of bag sequences, and the admission of a frame class. -/

namespace Sys2Proof.Machine

/-! ### Arithmetic terms (0.7, 0.8) -/

/-- A count that stays at `limit` when `n` would carry it past (0.7: saturates). -/
def sat (limit n : Nat) : Nat := min n limit

/-- The whole number nearest to n / d, an exact half going away from zero (0.8). -/
def roundDiv (n : Int) (d : Nat) : Int :=
  let q : Int := ((2 * n.natAbs + d) / (2 * d) : Nat)
  if n < 0 then -q else q

/-- a / b rounded up (0.8). -/
def ceilDiv (a b : Nat) : Nat := (a + b - 1) / b

/-- The nearest multiple of `unit`, ties up (0.8, R80). -/
def nearestMultiple (n unit : Nat) : Nat := (2 * n + unit) / (2 * unit) * unit

/-! ### The scale (01) -/

/-- The interval that applies to a half-mean, in dg (R9). -/
def interval (m : Int) : Nat := if m < 100000 then 20 else 100

/-- The rounded value of a half-mean: nearest multiple of its interval, an exact half away from zero (R9). -/
def rounded (m : Int) : Int :=
  let e := interval m
  let magnitude : Int := ((m.natAbs + e / 2) / e * e : Nat)
  if m < 0 then -magnitude else magnitude

/-- Largest minus smallest of a list (R10). -/
def spread : List Int → Int
  | [] => 0
  | x :: xs => xs.foldl max x - xs.foldl min x

/-- The settled condition (R10): S half-means are kept and differ by no more than B intervals. -/
def settledCondition (cfg : Setup) (kept : List Int) : Bool :=
  match kept.getLast? with
  | none => false
  | some m => decide (kept.length = cfg.settleCount) && decide (spread kept ≤ (cfg.settleBand * interval m : Nat))

/-- The weight field (R19): the rounded newest half-mean in grams, in EMPTY, SETTLED and MOVING. -/
def Weighing.weightField (w : Weighing) : Option Int :=
  match w.scale with
  | .empty | .settled | .moving => w.kept.getLast?.map fun m => rounded m / 10
  | .noZero | .range | .sensor => none

/-- The stable flag (R19). -/
def ScaleState.stable : ScaleState → Bool
  | .empty | .settled => true
  | .noZero | .moving | .range | .sensor => false

/-- A sequence is valid when its reference lies within 3% of the nominal count and no enabled cell is saturated (R3).
`counts` are the counts of channels 1..4. -/
def validSequence (cfg : Setup) (counts : List Int) (reference : Int) : Bool :=
  decide (100 * (reference - cfg.nominal).natAbs ≤ 3 * cfg.nominal)
    && cfg.cells.all fun c =>
      let x := counts.getD (c.channel - 1) 0
      decide (x ≠ -32768) && decide (x ≠ 32767)

/-- The sample weight W of a valid sequence, in dg (R6). -/
def sampleWeight (cfg : Setup) (counts : List Int) (zo : Int) : Int :=
  roundDiv ((cfg.cells.map fun c => (counts.getD (c.channel - 1) 0 - c.zero) * c.factor).sum) 4096 - zo

/-- The half-mean of a completed half (R8). -/
def halfMean (samples : List Int) : Int := roundDiv samples.sum 8

/-! ### Beam scans (R30 to R32) -/

/-- The blocked unmasked beams of an array, ascending. -/
def seenBeams (mask blocked : BeamSet) : List Nat :=
  (List.range 128).filter fun n => !mask.getLsbD n && blocked.getLsbD n

/-- The extent of an array at one scan, in mm (R30). -/
def scanExtent (mask blocked : BeamSet) : Nat :=
  match (seenBeams mask blocked).head?, (seenBeams mask blocked).getLast? with
  | some lo, some hi => (hi - lo + 1) * 5
  | _, _ => 0

/-- Beam 0 or beam 127 is unmasked and blocked (R31). -/
def scanEdge (mask blocked : BeamSet) : Bool :=
  (!mask.getLsbD 0 && blocked.getLsbD 0) || (!mask.getLsbD 127 && blocked.getLsbD 127)

/-- Two consecutive entries of a list are both unblocked. -/
def twoOpen : List Bool → Bool
  | x :: y :: rest => (!x && !y) || twoOpen (y :: rest)
  | _ => false

/-- Two or more consecutive unmasked beams between lo and hi are all unblocked; masked beams are passed over (R32). -/
def scanIrregular (mask blocked : BeamSet) : Bool :=
  match (seenBeams mask blocked).head?, (seenBeams mask blocked).getLast? with
  | some lo, some hi =>
    twoOpen (((List.range 128).filter fun n => !mask.getLsbD n && decide (lo < n ∧ n < hi)).map
      fun n => blocked.getLsbD n)
  | _, _ => false

/-! ### The number allocator (06) -/

/-- The number of free marks of a slot's window. -/
def Slot.free (k : Slot) : Nat := k.marks.count false

/-- The block lies inside the slot's window. -/
def Slot.inWindow (k : Slot) (block : Nat) : Bool := decide (k.first ≤ block ∧ block < k.first + k.count)

/-- The mark of a block of the window is set. -/
def Slot.marked (k : Slot) (block : Nat) : Bool := k.marks.getD (block - k.first) false

/-- The block is this station's current or reserve block. -/
def Slot.holds (k : Slot) (block : Nat) : Bool :=
  decide (k.current.map (·.block) = some block) || decide (k.reserve = some block)

/-- The blocks a slot holds, current first and then reserve (R128). -/
def Slot.heldBlocks (k : Slot) : List Nat := (k.current.map (·.block)).toList ++ k.reserve.toList

/-- Serials left in the current block. -/
def CurrentBlock.left (c : CurrentBlock) : Nat := Config.blockSize - c.next

/-- The supply state of a slot (R111): the first value of the table whose condition holds. -/
def Slot.supplyOf (k : Slot) : Supply :=
  if !k.enabled then .off
  else if k.current.isSome then (if k.free = 0 then .last else .stocked)
  else if k.claim = .none ∧ k.free = 0 then .exhausted
  else .waiting

/-- The block after `block`, wrapping to the first block of the window (R117, R119). -/
def Slot.after (k : Slot) (block : Nat) : Nat := if block + 1 < k.first + k.count then block + 1 else k.first

/-- The first free block from the search cursor upward, then from the first block of the window up to the cursor (R113). -/
def Slot.search (k : Slot) : Option Nat :=
  (((List.range k.count).drop (k.cursor - k.first) ++ (List.range k.count).take (k.cursor - k.first)).find?
    fun n => !k.marks.getD n true).map (k.first + ·)

/-- The need of a claim, for a slot of a JOINED station (R112). -/
def Slot.needsClaim (k : Slot) (lowWater : Nat) : Bool :=
  k.enabled && k.reserve.isNone && decide (k.claim = .none)
    && (match k.current with
        | none => true
        | some c => decide (c.left ≤ lowWater))

/-! ### The bag table (07) -/

/-- How a heard bag sequence stands to a row's (R140). -/
inductive Judgement where
  | equal | ahead | behind
  deriving DecidableEq, Repr

/-- The comparison round the ring of 9999 sequences (R140). -/
def judge (s m : Nat) : Judgement :=
  let d := (s + Config.maxBag - m) % Config.maxBag
  if d = 0 then .equal else if d ≤ 4999 then .ahead else .behind

/-- The next bag sequence; 9999 is followed by 1 (R137). -/
def nextBag (seq : Nat) : Nat := if seq < Config.maxBag then seq + 1 else 1

/-! ### The hall line (08) -/

/-- A class is admitted while the queue holds fewer frames than its level (R156). -/
def FrameClass.level : FrameClass → Nat
  | .urgent => Config.urgentLevel
  | .normal => Config.normalLevel
  | .low => Config.lowLevel

/-- The place of a class in the order of the queue (R156). -/
def FrameClass.rank : FrameClass → Nat
  | .urgent => 0 | .normal => 1 | .low => 2

/-- The class is admitted to a queue at this event (R156). -/
def admits (queue : List QueuedFrame) (c : FrameClass) : Bool := decide (queue.length < c.level)

end Sys2Proof.Machine
end

