-- ==== Sys2Proof/Machine/Layouts.lean ====
section
/-! DEFINITION. The wire layouts of chapter 10 that the part sends: the check (R193), the counter-link message with
the bodies of replies, notices and the LABEL record (R194, R196, R197), and the hall frame with its stuffing, its check and
the receiver's tests (R198, R199). -/

namespace Sys2Proof.Machine

/-! ### Numbers and the check (R193) -/

/-- `n` in `w` bytes, most significant first (R193). -/
def be : Nat → Nat → List Byte
  | 0, _ => []
  | w + 1, n => BitVec.ofNat 8 (n / 256 ^ w) :: be w n

/-- A signed number in two's complement in `w` bytes (R193). -/
def beInt (w : Nat) (i : Int) : List Byte := be w (i % (256 ^ w : Nat)).toNat

/-- `n` in `w` bits, most significant first (R193, R198). -/
def bitsOf : Nat → Nat → List Bool
  | 0, _ => []
  | w + 1, n => n.testBit w :: bitsOf w n

/-- The number a list of bits spells, most significant first. -/
def natOfBits (bits : List Bool) : Nat := bits.foldl (fun n b => 2 * n + b.toNat) 0

/-- The bits of a byte, most significant first (R194). -/
def byteBits (b : Byte) : List Bool := bitsOf 8 b.toNat

/-- One step of the check register: the top bit is compared with the incoming bit, the register moves up one place, and where
they differed it is combined with 4,129 (R193). -/
def checkStep (reg : Word16) (bit : Bool) : Word16 :=
  if reg.msb = bit then reg <<< 1 else (reg <<< 1) ^^^ 4129#16

/-- The check of R193 over the covered bits in the order they are sent. -/
def checkOf (bits : List Bool) : Word16 := bits.foldl checkStep 65535#16

/-! ### Fields of reply and notice bodies (R196) -/

/-- A yes-or-no byte (R193). -/
def flagByte (b : Bool) : List Byte := be 1 b.toNat

/-- An optional field of `w` bytes: a byte 1 and the field, or 0 and `w` zero bytes (R196). Every single field that can be
absent has its own presence byte, also where several are absent together; that byte is what a rule calls `whether` the thing
they describe is there (log 20). -/
def optional (w : Nat) : Option (List Byte) → List Byte
  | none => be 1 0 ++ be w 0
  | some bytes => be 1 1 ++ bytes

/-- A list, preceded by one byte giving the number of its entries (R196). What a rule gives `for each` bank, slot, station,
route, product or quote is such a list (log 20). -/
def listOf {α : Type} (entry : α → List Byte) (l : List α) : List Byte := be 1 l.length ++ l.flatMap entry

/-- Numbers of names, from 1 in the order of the defining table (R196). -/
def ScaleState.code : ScaleState → Nat
  | .noZero => 1 | .empty => 2 | .moving => 3 | .settled => 4 | .range => 5 | .sensor => 6

/-- R196, in the order of chapter 02's state table. -/
def PassState.code : PassState → Nat
  | .idle => 1 | .passing => 2 | .stalled => 3

/-- R196, in the order of chapter 02's state table. -/
def gateCode : GateLevel → Nat
  | .clear => 1 | .blocked => 2

/-- R196, in the order of 3.1. -/
def BankState.code : BankState → Nat
  | .empty => 1 | .loading => 2 | .ready => 3 | .active => 4 | .retiring => 5

/-- A = 1, B = 2 (R195, R197). -/
def BankId.code : BankId → Nat
  | .a => 1 | .b => 2

/-- R196, in the order in which the supply state row of chapter 06's first table lists the names, OFF among them (DESIGN
CHOICE, log 20: R111's own table does not list OFF). -/
def Supply.code : Supply → Nat
  | .off => 1 | .waiting => 2 | .stocked => 3 | .last => 4 | .exhausted => 5

/-- R196, in the order in which the claim row of chapter 06's first table lists the names. -/
def Claim.code : Claim → Nat
  | .none => 1 | .owed _ => 2 | .queued _ => 3 | .holdoff _ _ => 4

/-- The block of a claim that is not NONE. -/
def Claim.block? : Claim → Option Nat
  | .none => Option.none
  | .owed b | .queued b | .holdoff b _ => some b

/-- The remaining holdoff of a claim in HOLDOFF. -/
def Claim.remaining? : Claim → Option Nat
  | .holdoff _ r => some r
  | .none | .owed _ | .queued _ => Option.none

/-- R196. The kinds have no defining table; they are numbered in the order in which R130's sentence names them (DESIGN CHOICE,
log 20). -/
def ConflictKind.code : ConflictKind → Nat
  | .conflict => 1 | .stray => 2 | .outOfWindow => 3

/-- R196, in the order of chapter 07's table of row fields. -/
def Follow.code : Follow → Nat
  | .fresh => 1 | .followed => 2

/-- R196, in the order of 8.1. -/
def StationState.code : StationState → Nat
  | .starting => 1 | .joining => 2 | .joined => 3 | .muted => 4

/-- R196, in the order of 8.6. -/
def Liveness.code : Liveness → Nat
  | .absent => 1 | .live => 2 | .silent => 3

/-- The kind field of a hall frame (R198); the same numbers R196 gives the names of 8.2. -/
def FrameKind.code : FrameKind → Nat
  | .join => 1 | .holds => 2 | .alive => 3 | .claim => 4 | .held => 5 | .spent => 6 | .posted => 7 | .bagnext => 8
  | .cutover => 9

/-- The class field of a hall frame (R160, R198). -/
def FrameClass.code : FrameClass → Nat
  | .urgent => 0 | .normal => 1 | .low => 2

/-- Reason codes (R196). -/
def Reason.code : Reason → Nat
  | .busy => 1 | .badRequest => 2 | .notStarted => 3 | .already => 4 | .noTariff => 5 | .unknownProduct => 6
  | .unroutable => 7 | .notServed => 8 | .noDims => 9 | .dimsUnsure => 10 | .oversize => 11 | .overweight => 12
  | .valueLimit => 13 | .noInsurance => 14 | .priceLimit => 15 | .noParcel => 16 | .unsettled => 17
  | .overload => 18 | .sensor => 19 | .noZero => 20 | .zeroRange => 21 | .quotesFull => 22 | .noQuote => 23
  | .noNumbers => 24 | .muted => 25 | .restarted => 26 | .cancelled => 27 | .bankBusy => 28 | .loadError => 29
  | .notLoading => 30

/-- Detail codes (R196). -/
def LoadDetail.code : LoadDetail → Nat
  | .sum => 1 | .order => 2 | .full => 3

/-- The record of a LOGTAKE reply (R130, R131): kind, letter, block, serial, station, each absent without a record. -/
def conflictBytes (r : Option ConflictRecord) : List Byte :=
  optional 1 (r.map fun x => be 1 x.kind.code) ++ optional 1 (r.map fun x => be 1 x.letter)
    ++ optional 2 (r.map fun x => be 2 x.block) ++ optional 3 ((r.bind (·.serial)).map (be 3))
    ++ optional 1 (r.map fun x => be 1 x.station)

/-! ### STATUS sections (R183) -/

/-- R21. -/
def ScaleReport.bytes (r : ScaleReport) : List Byte :=
  be 1 r.scale.code ++ optional 3 (r.weight.map (beInt 3)) ++ flagByte r.stable ++ beInt 3 r.zo
    ++ optional 3 (r.zinit.map (beInt 3)) ++ be 2 r.settleNumber
    ++ optional 2 (r.parcel.map fun p => be 2 p.weight) ++ optional 1 (r.parcel.map fun p => flagByte p.dims.isSome)

/-- The measurement slot: length, width, height, EDGE, IRREGULAR, LONG (R38), each absent while it is empty. -/
def slotBytes (m : Option Measurement) : List Byte :=
  optional 2 (m.map fun x => be 2 x.length) ++ optional 2 (m.map fun x => be 2 x.width)
    ++ optional 2 (m.map fun x => be 2 x.height) ++ optional 1 (m.map fun x => flagByte x.edge)
    ++ optional 1 (m.map fun x => flagByte x.irregular) ++ optional 1 (m.map fun x => flagByte x.long)

/-- The six pass fields (R38), each absent in IDLE. -/
def passBytes (p : Option PassReport) : List Byte :=
  optional 2 (p.map fun x => be 2 x.length) ++ optional 2 (p.map fun x => be 2 x.width)
    ++ optional 2 (p.map fun x => be 2 x.height) ++ optional 2 (p.map fun x => be 2 x.scanCount)
    ++ optional 1 (p.map fun x => flagByte x.edge) ++ optional 1 (p.map fun x => flagByte x.irregular)

/-- R38. -/
def GaugeReport.bytes (r : GaugeReport) : List Byte :=
  be 1 r.pass.code ++ be 1 (gateCode r.accepted) ++ passBytes r.fields ++ slotBytes r.slot ++ be 2 r.discardCount
    ++ be 2 r.replacedCount ++ be 2 r.stallCount ++ be 2 r.encoderErrors

/-- One bank of R60. -/
def BankReport.bytes (b : BankReport) : List Byte :=
  be 1 b.state.code ++ be 2 b.version ++ be 1 b.refs ++ flagByte b.openDefault ++ be 1 b.cells ++ be 2 b.bands
    ++ be 2 b.zones ++ be 1 b.surcharges

/-- R60. The two banks, A and then B, are a list with its count byte 2 (DESIGN CHOICE, log 20). -/
def TariffReport.bytes (r : TariffReport) : List Byte :=
  listOf BankReport.bytes [r.bankA, r.bankB]
    ++ optional 2 (r.load.map fun l => be 2 l.records) ++ optional 2 (r.load.map fun l => be 2 l.sum)
    ++ optional 1 ((r.load.bind (·.expected)).map (be 1)) ++ optional 2 (r.owedCutover.map (be 2))

/-- One quote of R103. -/
def QuoteReport.bytes (q : QuoteReport) : List Byte :=
  be 2 q.number ++ be 1 (if q.committing then 2 else 1) ++ be 1 q.letter ++ be 1 q.bank.code ++ be 2 q.version
    ++ be 1 q.route ++ be 3 q.total ++ be 2 q.age

/-- R103. -/
def QuotesReport.bytes (r : QuotesReport) : List Byte :=
  listOf QuoteReport.bytes r.records ++ listOf (be 2) r.pendingOrder ++ be 2 r.nextNumber
    ++ optional 1 (r.waiting.map fun w => be 1 w.1) ++ optional 2 (r.waiting.map fun w => be 2 w.2)

/-- The four configuration fields of a slot (R132), each absent before START (R183). -/
def slotConfigBytes (c : Option SlotConfigReport) : List Byte :=
  optional 1 (c.map fun x => be 1 x.letter) ++ optional 1 (c.map fun x => flagByte x.enabled)
    ++ optional 2 (c.map fun x => be 2 x.first) ++ optional 2 (c.map fun x => be 2 x.count)

/-- One slot of R132. -/
def SlotReport.bytes (r : SlotReport) : List Byte :=
  slotConfigBytes r.config ++ be 1 r.supply.code ++ optional 2 (r.current.map fun c => be 2 c.1)
    ++ optional 2 (r.current.map fun c => be 2 c.2) ++ optional 2 (r.reserve.map (be 2)) ++ be 1 r.claim.code
    ++ optional 2 (r.claim.block?.map (be 2)) ++ optional 1 (r.claim.remaining?.map (be 1))
    ++ optional 2 (r.cursor.map (be 2)) ++ be 2 r.free ++ be 1 r.owedHeld ++ be 1 r.owedSpent ++ be 1 r.owedHolds

/-- R132. -/
def NumbersReport.bytes (r : NumbersReport) : List Byte :=
  listOf SlotReport.bytes r.slots ++ be 1 r.logCount ++ be 1 r.overflow

/-- One station of the PEERS section (R132, R170). The place in the section's list tells the station: ascending, this one left
out. -/
def PeerReport.bytes (r : PeerReport) : List Byte :=
  be 1 r.liveness.code ++ be 2 r.age ++ optional 1 (r.lastGroup.map (be 1))
    ++ optional 2 (r.office.map (be 2)) ++ listOf (listOf (be 2)) r.holdings

/-- One row of R149. -/
def Row.bytes (r : Row) : List Byte :=
  be 2 r.seq ++ be 2 r.fill ++ be 1 r.count ++ be 1 r.follow.code ++ optional 2 (r.owed.map (be 2))

/-- R149. -/
def BagsReport.bytes (r : BagsReport) : List Byte :=
  optional 2 (r.weightLimit.map (be 2)) ++ optional 1 (r.itemLimit.map (be 1)) ++ listOf Row.bytes r.rows
    ++ be 2 r.lateCount

/-- R170. The three counts per class are single fields, URGENT, NORMAL and LOW, with no count byte before them (DESIGN CHOICE,
log 20). -/
def LineReport.bytes (r : LineReport) : List Byte :=
  be 1 r.station ++ optional 1 (r.group.map (be 1)) ++ be 1 r.state.code ++ optional 2 (r.census.map (be 2))
    ++ be 1 r.queued ++ be 1 r.urgent ++ be 1 r.normal ++ be 1 r.low
    ++ optional 1 (r.head.map fun k => be 1 k.code) ++ flagByte r.owedJoin ++ flagByte r.attempting
    ++ be 1 r.failures ++ flagByte r.lineFault ++ be 2 r.receiveErrors ++ be 2 r.unacknowledged

/-- The LINK section (R183). -/
def LinkReport.bytes (r : LinkReport) : List Byte :=
  flagByte r.started ++ be 1 r.outstanding ++ be 1 r.output ++ be 1 r.noticeSeq ++ be 2 r.linkErrors
    ++ be 2 r.dropped

/-- One section of the report (R183). -/
def Report.bytes : Report → List Byte
  | .scale r => r.bytes
  | .gauge r => r.bytes
  | .tariff r => r.bytes
  | .quotes r => r.bytes
  | .numbers r => r.bytes
  | .peers r => listOf PeerReport.bytes r
  | .bags r => r.bytes
  | .line r => r.bytes
  | .link r => r.bytes

/-! ### Replies, LABEL and notices (R196, R197) -/

/-- A byte of flags, the first flag its least significant bit (R193). -/
def flagsByte (flags : List Bool) : List Byte := be 1 (natOfBits flags.reverse)

/-- The 74 bytes of a LABEL body (R197). A QUOTE has the same layout with text and bag sequence all 0 (R196). -/
def labelBody (text : List Nat) (number bag station : Nat) (r : RateResult) : List Byte :=
  text.flatMap (be 1) ++ be 2 number
    ++ flagsByte [r.settleNumber.isSome, r.wv.isSome, r.dims.isSome, r.declared.isSome]
    ++ be 1 r.letter ++ be 4 r.destination ++ be 1 r.zone ++ be 1 r.route ++ be 2 bag
    ++ be 1 r.bank.code ++ be 2 r.version ++ be 1 station ++ be 2 (r.settleNumber.getD 0)
    ++ be 2 r.wa ++ be 2 r.wc ++ be 2 (r.wv.getD 0)
    ++ (match r.dims with
        | none => be 7 0
        | some d => be 2 d.a ++ be 2 d.b ++ be 2 d.c
            ++ flagsByte [decide (d.source = .manual), d.edge, d.irregular, d.long])
    ++ be 4 (r.declared.getD 0) ++ be 4 r.price.band ++ be 4 r.price.oversize ++ be 4 r.price.irregular
    ++ be 4 r.price.remote ++ be 4 r.price.insurance ++ beInt 1 r.price.rounding ++ be 4 r.price.total
    ++ flagsByte [r.flags.manualWeight, r.flags.manualDims, r.flags.byVolume, r.flags.large, r.flags.irregular,
        r.flags.remote, r.flags.insured]

/-- The body of a DONE (9.3, R196). -/
def DoneBody.bytes : DoneBody → List Byte
  | .plain => []
  | .start station state => be 1 station ++ be 1 state.code
  | .status report => report.bytes
  | .restart answered => be 1 answered
  | .mapLoad newly => be 1 newly
  | .logTake record overflow => conflictBytes record ++ be 1 overflow
  | .bank named version => be 1 named.code ++ be 2 version
  | .bagClose route bag => be 1 route ++ be 2 bag

/-- The kind byte of a reply (R196). -/
def Reply.kindByte : Reply → Nat
  | .done _ => 128 | .quote _ _ _ => 129 | .label _ => 130 | .refused _ _ => 131

/-- The body of a reply (R196). -/
def Reply.bytes : Reply → List Byte
  | .done body => body.bytes
  | .quote number station r => labelBody (List.replicate 13 0) number 0 station r
  | .label l => labelBody l.text l.quoteNumber l.bag l.station l.result
  | .refused reason detail => be 1 reason.code ++ be 1 ((detail.map LoadDetail.code).getD 0)

/-- The kind byte of a notice (R196). -/
def Notice.kindByte : Notice → Nat
  | .weight _ _ _ => 192 | .blockWon _ _ _ => 193 | .excluded _ _ _ _ => 194 | .lowNumbers _ _ _ => 195
  | .exhausted _ => 196 | .conflict _ _ _ => 197 | .tariffChanged _ _ _ _ => 198 | .cutoverMissed _ _ _ => 199
  | .joined _ => 200 | .lineFault _ _ _ => 201 | .muted _ _ _ => 202

/-- The cause of an activation (R56): SWAP LOCAL 1, SWAP HALL 2, CUTOVER 3 with the station (log 20). -/
def ActivationCause.bytes : ActivationCause → List Byte
  | .swapLocal => be 1 1 ++ optional 1 none
  | .swapHall => be 1 2 ++ optional 1 none
  | .cutover station => be 1 3 ++ optional 1 (some (be 1 station))

/-- The body of a notice: the fields its rule lists, in order (R196; log 20). -/
def Notice.bytes : Notice → List Byte
  | .weight scale w stable => be 1 scale.code ++ optional 3 (w.map (beInt 3)) ++ flagByte stable
  | .blockWon letter block holding => be 1 letter ++ be 2 block ++ be 1 (if holding = .current then 1 else 2)
  | .excluded letter block kind station => be 1 letter ++ be 2 block ++ be 1 kind.code ++ be 1 station
  | .lowNumbers letter block left => be 1 letter ++ be 2 block ++ be 2 left
  | .exhausted letter => be 1 letter
  | .conflict kind letter block => be 1 kind.code ++ be 1 letter ++ be 2 block
  | .tariffChanged bank version previous cause =>
      be 1 bank.code ++ be 2 version ++ optional 2 (previous.map fun p => be 2 p.1)
        ++ optional 1 (previous.map fun p => be 1 p.2.code) ++ cause.bytes
  | .cutoverMissed version station active => be 2 version ++ be 1 station ++ optional 2 (active.map (be 2))
  | .joined live => be 1 live
  | .lineFault kind frameClass queued => be 1 kind.code ++ be 1 frameClass.code ++ be 1 queued
  | .muted station sender kind =>
      be 1 station ++ be 1 sender ++ be 1 (match kind with | none => 10 | some k => k.code)

/-- The content bytes of a message (R194). -/
def OutMsg.content : OutMsg → List Byte
  | .reply _ tag body => be 1 tag ++ be 1 body.kindByte ++ body.bytes
  | .notice seq body => be 1 body.kindByte ++ be 1 seq ++ body.bytes

/-- Length and content: the bytes the check covers (R194). -/
def covered (content : List Byte) : List Byte := be 2 content.length ++ content

/-- A message as it enters the output queue, its check computed at that event (R194). -/
def OutEntry.of (msg : OutMsg) : OutEntry :=
  { msg := msg, check := checkOf ((covered msg.content).flatMap byteBits) }

/-- The bytes of a message on the line (R194). -/
def OutEntry.bytes (e : OutEntry) : List Byte :=
  Config.startByte :: covered e.msg.content ++ be 2 e.check.toNat

/-- A whole counter-link message with the given content (R194), in either direction. -/
def linkMessage (content : List Byte) : List Byte :=
  Config.startByte :: covered content ++ be 2 (checkOf ((covered content).flatMap byteBits)).toNat

/-! ### The hall frame (R198, R199) -/

/-- The content bits of a frame (R198). -/
def FrameBody.bits : FrameBody → List Bool
  | .join office => bitsOf 16 office
  | .holds letter blocks =>
      bitsOf 8 letter ++ bitsOf 8 blocks.length ++ bitsOf 16 (blocks.getD 0 0) ++ bitsOf 16 (blocks.getD 1 0)
  | .alive => []
  | .claim letter block | .held letter block | .spent letter block => bitsOf 8 letter ++ bitsOf 16 block
  | .posted letter serial route bag weight =>
      bitsOf 8 letter ++ bitsOf 24 serial ++ bitsOf 8 route ++ bitsOf 16 bag ++ bitsOf 16 weight
  | .bagnext route bag => bitsOf 8 route ++ bitsOf 16 bag
  | .cutover version => bitsOf 16 version

/-- The content length of a kind (R198). -/
def FrameKind.contentBits : FrameKind → Nat
  | .join => 16 | .holds => 48 | .alive => 0 | .claim => 24 | .held => 24 | .spent => 24 | .posted => 72
  | .bagnext => 24 | .cutover => 16

/-- The bits the check covers: class, station, kind, group, contents (R198). -/
def Frame.coveredBits (f : Frame) : List Bool :=
  bitsOf 3 f.frameClass.code ++ bitsOf 5 f.station ++ bitsOf 4 f.body.kind.code ++ bitsOf 4 f.group ++ f.body.bits

/-- The check of a frame (R198). -/
def Frame.check (f : Frame) : Word16 := checkOf f.coveredBits

/-- The arbitration field: class followed by station number (R160). -/
def Frame.arbitration (f : Frame) : Nat := f.frameClass.code * 32 + f.station

/-- Bit stuffing (R199): after five consecutive bits of equal level a bit of the opposite level is inserted, and it counts as
the first of the next run. `level` and `run` describe the run so far. The inserted bit also follows the last check bit
when that ends a run of five (DEDUCED, log 19). -/
def stuff (level : Bool) (run : Nat) : List Bool → List Bool
  | [] => []
  | b :: bs =>
    let n := if b = level then run + 1 else 1
    if n = 5 then b :: (!b) :: stuff (!b) 1 bs else b :: stuff b n bs

/-- The levels of a whole frame on the line (true is recessive, a 1 bit), with the acknowledge slot at `ack` (R198). -/
def Frame.levels (f : Frame) (ack : Bool) : List Bool :=
  stuff true 0 (f.coveredBits ++ bitsOf 16 f.check.toNat) ++ ack :: List.replicate 8 true

/-- Why a receiver discards a frame (R164, R199). -/
inductive DiscardCause where
  | length | sixEqual | frameClass | kind | holdsCount | check | delimiter
  deriving DecidableEq, Repr

/-- Takes `n` bits off a stuffed sequence, removing the stuff bits (R199). It gives the bits, the run they end in, and
the levels that follow. -/
def destuff : Nat → Bool → Nat → List Bool → Except DiscardCause (List Bool × Bool × Nat × List Bool)
  | 0, level, run, rest => .ok ([], level, run, rest)
  | _ + 1, _, _, [] => .error .length
  | n + 1, level, run, b :: rest =>
    let k := if b = level then run + 1 else 1
    if k = 5 then
      match rest with
      | [] => .error .length
      | c :: rest' =>
        if c = b then .error .sixEqual
        else match destuff n c 1 rest' with
          | .ok (bits, out) => .ok (b :: bits, out)
          | .error e => .error e
    else match destuff n b k rest with
      | .ok (bits, out) => .ok (b :: bits, out)
      | .error e => .error e

/-- The kind a kind field names; 0 and 10..15 name none (R198, R199). -/
def FrameKind.ofCode : Nat → Option FrameKind
  | 1 => some .join | 2 => some .holds | 3 => some .alive | 4 => some .claim | 5 => some .held | 6 => some .spent
  | 7 => some .posted | 8 => some .bagnext | 9 => some .cutover | _ => none

/-- The number held in `w` bits from bit `at_` of the contents. -/
def bitField (bits : List Bool) (at_ w : Nat) : Nat := natOfBits ((bits.drop at_).take w)

/-- The contents of a received frame of a kind (R198); `none` when a HOLDS names more than 2 blocks (R199). -/
def FrameBody.ofBits (kind : FrameKind) (bits : List Bool) : Option FrameBody :=
  match kind with
  | .join => some (.join (bitField bits 0 16))
  | .holds =>
    let n := bitField bits 8 8
    if n > 2 then none
    else some (.holds (bitField bits 0 8) ([bitField bits 16 16, bitField bits 32 16].take n))
  | .alive => some .alive
  | .claim => some (.claim (bitField bits 0 8) (bitField bits 8 16))
  | .held => some (.held (bitField bits 0 8) (bitField bits 8 16))
  | .spent => some (.spent (bitField bits 0 8) (bitField bits 8 16))
  | .posted => some (.posted (bitField bits 0 8) (bitField bits 8 24) (bitField bits 32 8) (bitField bits 40 16)
      (bitField bits 56 16))
  | .bagnext => some (.bagnext (bitField bits 0 8) (bitField bits 8 16))
  | .cutover => some (.cutover (bitField bits 0 16))

/-- A receiver's tests on the levels of a frame from its first class bit on (R164, R199): the frame, or why it is
discarded. The acknowledge slot may have either level. -/
def receive (levels : List Bool) : Except DiscardCause Frame :=
  match destuff 16 true 0 levels with
  | .error e => .error e
  | .ok (header, level, run, rest) =>
    match FrameKind.ofCode (bitField header 8 4) with
    | none => .error .kind
    | some kind =>
      if bitField header 0 3 ≠ kind.frameClass.code then .error .frameClass
      else match destuff (kind.contentBits + 16) level run rest with
        | .error e => .error e
        | .ok (body, _, _, ending) =>
          match FrameBody.ofBits kind (body.take kind.contentBits) with
          | none => .error .holdsCount
          | some contents =>
            if natOfBits (body.drop kind.contentBits)
                ≠ (checkOf (header ++ body.take kind.contentBits)).toNat then .error .check
            else if ending = [] then .error .length
            else if ending.drop 1 ≠ List.replicate 8 true then .error .delimiter
            else .ok { station := bitField header 3 5, group := bitField header 12 4, body := contents }

end Sys2Proof.Machine
end

