-- ==== Sys2Proof/Machine/Ops.lean ====
section
/-! DEFINITION. The named operations over the state that several blocks share: producing messages and moving them into
the output queue (R178, R179, R184), banks and product slots by name, the transmit queue (R155, R156, R158), the liveness
columns (R166), and the passing of time (log 1, log 2). -/

namespace Sys2Proof.Machine

/-! ### Configuration -/

/-- START has been accepted (R181, R188). -/
def State.started (s : State) : Bool := s.setup.isSome

/-- The low-water mark (R107). -/
def State.lowWater (s : State) : Nat := (s.setup.map (·.lowWater)).getD 0

/-- The configured products, none before START. -/
def State.products (s : State) : List Product := (s.setup.map (·.products)).getD []

/-! ### Messages (R178, R179, R184) -/

/-- Produces a message within the event in progress (log 8). -/
def State.produce (m : OutMsg) (s : State) : State :=
  { s with scratch := { s.scratch with produced := s.scratch.produced ++ [m] } }

/-- The one reply to a request (R178). -/
def State.reply (r : RequestRef) (body : Reply) (s : State) : State := s.produce (.reply (some r.id) r.tag body)

/-- The reply DONE. -/
def State.done (r : RequestRef) (body : DoneBody) (s : State) : State := s.reply r (.done body)

/-- The reply REFUSED with a reason (R185). -/
def State.refuse (r : RequestRef) (reason : Reason) (s : State) : State := s.reply r (.refused reason none)

/-- A notice with the next sequence number, which wraps from 255 to 0 (R184). -/
def State.notify (n : Notice) (s : State) : State :=
  { s.produce (.notice s.link.noticeSeq n) with link := { s.link with noticeSeq := (s.link.noticeSeq + 1) % 256 } }

/-- The message is a reply. -/
def OutMsg.isReply : OutMsg → Bool
  | .reply _ _ _ => true
  | .notice _ _ => false

/-- The message answers the request with this number. -/
def OutMsg.answers (id : Nat) : OutMsg → Bool
  | .reply request _ _ => request == some id
  | .notice _ _ => false

/-- R179: a request's own reply, when it is produced in the event that takes the request, enters before any notice of that
event; the other messages keep their order. -/
def ownFirst (own : Nat) (msgs : List OutMsg) : List OutMsg :=
  let before := msgs.takeWhile fun m => !m.answers own
  match msgs.dropWhile fun m => !m.answers own with
  | [] => msgs
  | mine :: rest => before.takeWhile OutMsg.isReply ++ mine :: (before.dropWhile OutMsg.isReply ++ rest)

/-- One message enters the output queue: a reply always, a notice while fewer than 23 messages are held (R179). -/
def Link.accept (l : Link) (m : OutMsg) : Link :=
  if m.isReply || decide (l.output.length < Config.noticeLevel) then { l with output := l.output ++ [OutEntry.of m] }
  else { l with dropped := sat Config.max16 (l.dropped + 1) }

/-- The end of an event: what it produced enters the output queue, and the scratch is clear again (log 8). -/
def State.flush (own : Nat) (s : State) : State :=
  { s with link := (ownFirst own s.scratch.produced).foldl Link.accept s.link, scratch := .clear }

/-! ### Banks and product slots -/

/-- The other bank. -/
def BankId.other : BankId → BankId
  | .a => .b
  | .b => .a

/-- The bank a request names by 1 or 2 (R195). -/
def BankId.ofCode : Nat → Option BankId
  | 1 => some .a
  | 2 => some .b
  | _ => none

/-- A bank of the store. -/
def State.bank (s : State) : BankId → Bank
  | .a => s.tariff.bankA
  | .b => s.tariff.bankB

/-- Replaces a bank. -/
def State.setBank (id : BankId) (bank : Bank) (s : State) : State :=
  match id with
  | .a => { s with tariff := { s.tariff with bankA := bank } }
  | .b => { s with tariff := { s.tariff with bankB := bank } }

/-- The bank in the given state; at most one bank is LOADING, and at most one is ACTIVE (3.1). -/
def State.bankIn (s : State) (state : BankState) : Option BankId :=
  if s.tariff.bankA.state = state then some .a else if s.tariff.bankB.state = state then some .b else none

/-- The ACTIVE bank. -/
def State.activeBank (s : State) : Option BankId := s.bankIn .active

/-- The enabled product slot with this letter (R126). -/
def State.slotOf (s : State) (letter : Nat) : Option Nat :=
  s.alloc.slots.findIdx? fun k => k.enabled && k.letter == letter

/-- The product slot START configured with this letter, enabled or not (3.2, R68). -/
def State.productIndex (s : State) (letter : Nat) : Option Nat := s.products.findIdx? fun p => p.letter == letter

/-- Changes one product slot of the allocator. -/
def State.modifySlot (k : Nat) (f : Slot → Slot) (s : State) : State :=
  { s with alloc := { s.alloc with slots := s.alloc.slots.modify k f } }

/-- Changes one route row. -/
def State.modifyRow (r : Nat) (f : Row → Row) (s : State) : State :=
  { s with bags := { s.bags with rows := s.bags.rows.modify r f } }

/-- Changes one liveness entry. -/
def State.modifyPeer (n : Nat) (f : Peer → Peer) (s : State) : State :=
  { s with hall := { s.hall with peers := s.hall.peers.modify n f } }

/-! ### What an event makes due (log 8) -/

/-- Owed items are to be offered in this event (R157). -/
def State.dueOffer (s : State) : State := { s with scratch := { s.scratch with offerDue := true } }

/-- The pending order is to be served in this event (R95). -/
def State.dueServe (s : State) : State := { s with scratch := { s.scratch with serveDue := true } }

/-- The station may owe frames: it is not MUTED (R133, R145, R53). -/
def State.mayOwe (s : State) : Bool := decide (s.hall.state ≠ .muted)

/-- The station sends: JOINING or JOINED (R157, R159, R167). -/
def State.sends (s : State) : Bool := decide (s.hall.state = .joining) || decide (s.hall.state = .joined)

/-! ### The transmit queue (R155, R156, R158) -/

/-- A frame with this station's number and group (R155). -/
def State.buildFrame (s : State) (body : FrameBody) : Frame :=
  { station := s.hall.station, group := (s.setup.map (·.group)).getD 0, body := body }

/-- The place of a frame that enters: after every frame of its own and earlier classes, before those of later ones
(R156). -/
def insertFrame (queue : List QueuedFrame) (f : QueuedFrame) : List QueuedFrame :=
  let goesBefore := fun g : QueuedFrame => decide (g.frame.frameClass.rank ≤ f.frame.frameClass.rank)
  queue.takeWhile goesBefore ++ f :: queue.dropWhile goesBefore

/-- A frame is built and enters the queue (R155, R156); the caller has tested its admission. -/
def State.enqueue (body : FrameBody) (s : State) : State :=
  { s with hall := { s.hall with queue := insertFrame s.hall.queue { frame := s.buildFrame body, check := none } } }

/-- A frame with these contents waits in the queue (R121). -/
def State.isQueued (s : State) (body : FrameBody) : Bool := s.hall.queue.any fun q => decide (q.frame.body = body)

/-- The frame may be withdrawn: it has these contents, and it is not the one being attempted (R158). -/
def State.withdrawable (s : State) (body : FrameBody) (q : QueuedFrame) : Bool :=
  decide (q.frame.body = body) && decide (s.hall.attempt ≠ some q.frame)

/-- Withdrawal of a frame by its owner: it leaves its place, and the fall makes an offering and a serving due (R158). -/
def State.withdraw (body : FrameBody) (s : State) : State :=
  if s.hall.queue.any (s.withdrawable body) then
    State.dueServe (State.dueOffer
      { s with hall := { s.hall with queue := s.hall.queue.eraseP (s.withdrawable body) } })
  else s

/-! ### The passing of time (log 1, log 2) -/

/-- A running timer moves on by `d` and stays at its limit, where its expiry is waiting to be taken. -/
def runTo (limit t d : Nat) : Nat := if t < limit then min (t + d) limit else t

/-- An OPEN quote ages, up to the quote life (R91). -/
def Quote.elapse (life d : Nat) (q : Quote) : Quote :=
  match q.state with
  | .opened => { q with ageMs := runTo (life * 1000) q.ageMs d }
  | .committing _ => q

/-- A holdoff runs down (R115). -/
def Claim.elapse (d : Nat) : Claim → Claim
  | .holdoff block remaining => .holdoff block (remaining - d)
  | .none => .none
  | .owed block => .owed block
  | .queued block => .queued block

/-- A liveness entry ages while LIVE or SILENT (R166). A LIVE age stays at 6 s until LIVENESS_SILENT is taken. -/
def Peer.elapse (d : Nat) (p : Peer) : Peer :=
  match p.liveness with
  | .absent => p
  | .live => { p with ageMs := runTo Config.silentMs p.ageMs d }
  | .silent => { p with ageMs := runTo Config.maxAgeMs p.ageMs d }

/-- `d` ms pass: every running timer moves on (R33, R86, R91, R115, R154, R166, R167, R175). -/
def State.elapse (d : Nat) (s : State) : State :=
  { s with
    gauge := { s.gauge with
      stallTimer := if s.gauge.pass = .passing then runTo Config.stallMs s.gauge.stallTimer d
        else s.gauge.stallTimer }
    quotes := { s.quotes with
      records := s.quotes.records.map (Quote.elapse ((s.setup.map (·.quoteLife)).getD 0) d)
      waiting := s.quotes.waiting.map fun w => { w with timer := runTo Config.settleWaitMs w.timer d } }
    alloc := { s.alloc with slots := s.alloc.slots.map fun k => { k with claim := k.claim.elapse d } }
    hall := { s.hall with
      census := s.hall.census.map fun t => runTo Config.censusMs t d
      silence := if s.sends then runTo Config.silenceMs s.hall.silence d else s.hall.silence
      peers := s.hall.peers.map (Peer.elapse d) }
    link := { s.link with
      gapTimer := if s.link.parser = .hunt then s.link.gapTimer else runTo Config.gapMs s.link.gapTimer d } }

/-- One millisecond passes: the step on an empty queue (DESIGN CHOICE, log 1). -/
def State.tick (s : State) : State := s.elapse 1

end Sys2Proof.Machine
end

