-- ==== Sys2Proof/Machine/Bags.lean ====
section
/-! DEFINITION. The dispatch bag table (07): own commits, heard POSTED and BAGNEXT frames, and BAGCLOSE. -/

namespace Sys2Proof.Machine

/-- A parcel of weight `w` is added to a row's bag; fill and count saturate (R137). -/
def Row.add (w : Nat) (r : Row) : Row :=
  { r with fill := sat Config.max16 (r.fill + w), count := sat Config.maxCount (r.count + 1) }

/-- A row takes the bag `seq` with one parcel of weight `w` (R139, R141). -/
def Row.openWith (seq w : Nat) (r : Row) : Row := { r with seq := seq, fill := sat Config.max16 w, count := 1 }

/-- A row takes the bag `seq`, empty (R142, R145). -/
def Row.openEmpty (seq : Nat) (r : Row) : Row := { r with seq := seq, fill := 0, count := 0 }

/-- The row has learned the hall's bag (R138). -/
def Row.followed (r : Row) : Row := { r with follow := .followed }

/-- The row after an own parcel of weight `wa` is assigned to it (R139). -/
def Row.assign (weightLimit itemLimit wa : Nat) (r : Row) : Row :=
  Row.followed
    (if r.count = 0 then r.openWith r.seq wa
     else if r.count + 1 > itemLimit ∨ r.fill + wa > weightLimit then r.openWith (nextBag r.seq) wa
     else r.add wa)

/-- The row of a route (R136). -/
def State.row (s : State) (route : Nat) : Row := (s.bags.rows[route]?).getD .reset

/-- Step 2 of a completion: the parcel is assigned to a bag of the route (R139). The parcel's bag is the row's sequence
afterwards. -/
def State.assignBag (route wa : Nat) (s : State) : State :=
  s.modifyRow route (Row.assign ((s.setup.map (·.weightLimit)).getD 0) ((s.setup.map (·.itemLimit)).getD 0) wa)

/-- Route and bag sequence of a heard frame lie in range (R143). -/
def bagInRange (route bag : Nat) : Bool := decide (route < Config.routes ∧ 1 ≤ bag ∧ bag ≤ Config.maxBag)

/-- A heard POSTED judged behind is counted (R144). -/
def State.countLate (s : State) : State :=
  { s with bags := { s.bags with lateCount := sat Config.max16 (s.bags.lateCount + 1) } }

/-- A heard POSTED at the bag table (R141, R143). -/
def State.postedAtBags (route bag w : Nat) (s : State) : State :=
  if bagInRange route bag then
    match (s.row route).follow with
    | .fresh => s.modifyRow route fun r => (r.openWith bag w).followed
    | .followed =>
      match judge bag (s.row route).seq with
      | .equal => s.modifyRow route (Row.add w)
      | .ahead => s.modifyRow route (Row.openWith bag w)
      | .behind => s.countLate
  else s

/-- A heard BAGNEXT (R142, R143). -/
def State.bagnextHeard (route bag : Nat) (s : State) : State :=
  if bagInRange route bag then
    match (s.row route).follow with
    | .fresh => s.modifyRow route fun r => (r.openEmpty bag).followed
    | .followed =>
      match judge bag (s.row route).seq with
      | .ahead => s.modifyRow route (Row.openEmpty bag)
      | .equal | .behind => s
  else s

/-- BAGCLOSE for a route in range (R145, R146); in MUTED no BAGNEXT is owed. -/
def State.bagClose (r : RequestRef) (route : Nat) (s : State) : State :=
  let next := nextBag (s.row route).seq
  let s1 := (s.modifyRow route fun x => (x.openEmpty next).followed).done r (.bagClose route next)
  if s.mayOwe then (s1.modifyRow route fun x => { x with owed := some next }).dueOffer else s1

/-- Muting cancels every owed BAGNEXT (R146). -/
def State.muteBags (s : State) : State :=
  { s with bags := { s.bags with rows := s.bags.rows.map fun r => { r with owed := none } } }

end Sys2Proof.Machine
end

