-- ==== Sys2Proof/Machine/Tariff.lean ====
section
/-! DEFINITION. The tariff store (03): loading a bank record by record, SWAP and the heard CUTOVER, the references of
quotes, and the lookups of the rating unit. -/

namespace Sys2Proof.Machine

/-! ### Loading (3.3) -/

/-- A structural fault ends the load: the LOADING bank becomes EMPTY, the cursor is cleared, and the request is refused
LOAD_ERROR with its detail (R47). The same is the end of a BANKCLOSE with a bad count or sum (R49). -/
def State.failLoad (id : BankId) (r : RequestRef) (detail : LoadDetail) (s : State) : State :=
  (({ s with tariff := { s.tariff with cursor := .cleared } }).setBank id .cleared).reply r
    (.refused .loadError (some detail))

/-- BANKOPEN (R41). A flag byte other than 0 and 1 is out of range (DEDUCED, log 21). -/
def State.bankOpen (r : RequestRef) (bank openDefault : Nat) (s : State) : State :=
  match BankId.ofCode bank with
  | none => s.refuse r .badRequest
  | some id =>
    if openDefault > 1 then s.refuse r .badRequest
    else if ((s.bank id).state = .empty ∨ (s.bank id).state = .ready) ∧ (s.bank id.other).state ≠ .loading then
      (({ s with tariff := { s.tariff with cursor := .cleared } }).setBank id
        { Bank.cleared with state := .loading, openDefault := decide (openDefault = 1) }).done r .plain
    else s.refuse r .bankBusy

/-- A record that passed its tests is counted and summed (R42, R50). -/
def Cursor.count (c : Cursor) (value : Nat) : Cursor :=
  { c with records := c.records + 1, sum := (c.sum + value) % 65536 }

/-- A record that passed its tests is loaded into the LOADING bank, and the reply is DONE (R42). -/
def State.load (id : BankId) (r : RequestRef) (bank : Bank) (cursor : Cursor) (s : State) : State :=
  (({ s with tariff := { s.tariff with cursor := cursor } }).setBank id bank).done r .plain

/-- CELL (R42, R43). -/
def State.loadCell (r : RequestRef) (letter zone bandCount : Nat) (s : State) : State :=
  match s.bankIn .loading with
  | none => s.refuse r .notLoading
  | some id =>
    let b := s.bank id
    let c := s.tariff.cursor
    match s.productIndex letter with
    | none => s.refuse r .badRequest
    | some slot =>
      if zone > 15 ∨ bandCount < 1 ∨ bandCount > 12 then s.refuse r .badRequest
      else if c.openCell.isSome ∨ (b.cells.any fun x => decide (x.slot = slot ∧ x.zone = zone)) then
        s.failLoad id r .order
      else if c.bands + bandCount > Config.maxBands then s.failLoad id r .full
      else s.load id r
        { b with cells := b.cells ++ [{ slot := slot, zone := zone, first := c.bands, count := bandCount }] }
        { c.count (letter + zone + bandCount) with
          cells := c.cells + 1
          openCell := some { slot := slot, zone := zone, expected := bandCount, lastU := none } }

/-- BAND (R42, R44). -/
def State.loadBand (r : RequestRef) (u p0 i sw p1 : Nat) (s : State) : State :=
  match s.bankIn .loading with
  | none => s.refuse r .notLoading
  | some id =>
    let b := s.bank id
    let c := s.tariff.cursor
    if u < 1 ∨ u > 999999 ∨ p0 > 999999 ∨ i > 999999 ∨ sw > 999999 ∨ p1 > 999999 then s.refuse r .badRequest
    else match c.openCell with
      | none => s.failLoad id r .order
      | some cell =>
        if (match cell.lastU with | none => false | some last => decide (u ≤ last)) then s.failLoad id r .order
        else s.load id r
          { b with bands := b.bands ++ [{ u := u, p0 := p0, i := i, sw := sw, p1 := p1 }] }
          { c.count (u + p0 + i + sw + p1) with
            bands := c.bands + 1
            openCell :=
              if cell.expected ≤ 1 then none else some { cell with expected := cell.expected - 1, lastU := some u } }

/-- ZONE (R42, R45); flag bits other than REMOTE and NO_INSURANCE are out of range (R193). -/
def State.loadZone (r : RequestRef) (low high zone route flags : Nat) (s : State) : State :=
  match s.bankIn .loading with
  | none => s.refuse r .notLoading
  | some id =>
    let b := s.bank id
    let c := s.tariff.cursor
    if low > 999999 ∨ high > 999999 ∨ high < low ∨ zone > 15 ∨ route > 31 ∨ flags > 3 then s.refuse r .badRequest
    else if c.openCell.isSome ∨ (match c.lastHigh with | none => false | some h => decide (low ≤ h)) = true then
      s.failLoad id r .order
    else if c.zones ≥ Config.maxZones then s.failLoad id r .full
    else s.load id r
      { b with zones := b.zones ++
          [{ low := low, high := high, zone := zone, route := route, remote := flags.testBit 0,
             noInsurance := flags.testBit 1 }] }
      { c.count (low + high + zone + route + flags) with zones := c.zones + 1, lastHigh := some high }

/-- SURCH (R42, R46). -/
def State.loadSurch (r : RequestRef) (letter oversize irregular remoteRate insuranceUnit insurancePrice : Nat)
    (s : State) : State :=
  match s.bankIn .loading with
  | none => s.refuse r .notLoading
  | some id =>
    let b := s.bank id
    let c := s.tariff.cursor
    match s.productIndex letter with
    | none => s.refuse r .badRequest
    | some slot =>
      if oversize > 999999 ∨ irregular > 999999 ∨ remoteRate > 500 ∨ insuranceUnit < 1 ∨ insuranceUnit > 1000000
          ∨ insurancePrice > 999999 then s.refuse r .badRequest
      else if c.openCell.isSome ∨ (b.surcharges.any fun x => decide (x.slot = slot)) then s.failLoad id r .order
      else s.load id r
        { b with surcharges := b.surcharges ++
            [{ slot := slot, oversize := oversize, irregular := irregular, remoteRate := remoteRate,
               insuranceUnit := insuranceUnit, insurancePrice := insurancePrice }] }
        { c.count (letter + oversize + irregular + remoteRate + insuranceUnit + insurancePrice) with
          surcharges := c.surcharges + 1 }

/-- BANKCLOSE (R48, R49). -/
def State.bankClose (r : RequestRef) (version count sum : Nat) (s : State) : State :=
  match s.bankIn .loading with
  | none => s.refuse r .notLoading
  | some id =>
    let c := s.tariff.cursor
    if c.openCell.isSome then s.failLoad id r .order
    else if count ≠ c.records ∨ sum ≠ c.sum then s.failLoad id r .sum
    else (({ s with tariff := { s.tariff with cursor := .cleared } }).setBank id
        { s.bank id with state := .ready, version := version, refs := 0 }).done r (.bank id version)

/-! ### Making a bank active (3.5, 3.6) -/

/-- What a bank that was ACTIVE becomes at an activation (R52). -/
def Bank.displaced (b : Bank) : Bank := if b.refs > 0 then { b with state := .retiring } else .cleared

/-- Activation of a READY bank with its TARIFFCHANGED notice (R52, R56). -/
def State.activate (id : BankId) (cause : ActivationCause) (s : State) : State :=
  let old := s.bank id.other
  let s' := s.setBank id { s.bank id with state := .active }
  if old.state = .active then
    (s'.setBank id.other old.displaced).notify
      (.tariffChanged id (s.bank id).version (some (old.version, old.displaced.state)) cause)
  else s'.notify (.tariffChanged id (s.bank id).version none cause)

/-- SWAP (R51, R53). Scope 1 is LOCAL and 2 is HALL (R195); in MUTED no CUTOVER is owed. -/
def State.swap (r : RequestRef) (bank scope : Nat) (s : State) : State :=
  match BankId.ofCode bank with
  | none => s.refuse r .badRequest
  | some id =>
    if scope ≠ 1 ∧ scope ≠ 2 then s.refuse r .badRequest
    else match (s.bank id).state with
      | .active => s.refuse r .already
      | .loading | .retiring => s.refuse r .bankBusy
      | .empty => s.refuse r .noTariff
      | .ready =>
        let version := (s.bank id).version
        let s' := (s.done r (.bank id version)).activate id (if scope = 2 then .swapHall else .swapLocal)
        if scope = 2 ∧ s.mayOwe = true then
          State.dueOffer { s' with tariff := { s'.tariff with owedCutover := some version } }
        else s'

/-- The READY bank of version `v` that a heard CUTOVER activates. When both banks are READY with it the manual does not
say which: a free value (log 13). -/
def State.readyBank (s : State) (v : Nat) : Option BankId :=
  let isReady := fun b : Bank => decide (b.state = .ready ∧ b.version = v)
  match isReady s.tariff.bankA, isReady s.tariff.bankB with
  | true, true => some (if Config.freeBankB s.draws then .b else .a)
  | true, false => some .a
  | false, true => some .b
  | false, false => none

/-- A heard CUTOVER (R55, R56). -/
def State.cutoverHeard (station v : Nat) (s : State) : State :=
  if (s.activeBank.map fun id => (s.bank id).version) = some v then s
  else match s.readyBank v with
    | some id => ({ s with draws := s.draws + 1 }).activate id (.cutover station)
    | none => s.notify (.cutoverMissed v station (s.activeBank.map fun id => (s.bank id).version))

/-! ### References of quotes (R54) -/

/-- A quote computed under the bank is stored. -/
def State.takeRef (id : BankId) (s : State) : State :=
  s.setBank id { s.bank id with refs := (s.bank id).refs + 1 }

/-- A quote computed under the bank is removed; the last one empties a RETIRING bank, without a notice (R54). -/
def State.dropRef (id : BankId) (s : State) : State :=
  let b := s.bank id
  if b.state = .retiring ∧ b.refs ≤ 1 then s.setBank id .cleared
  else s.setBank id { b with refs := b.refs - 1 }

/-! ### Lookups (3.7) -/

/-- The answer of a zone lookup (R57). -/
structure ZoneAnswer where
  zone        : Nat
  route       : Nat
  remote      : Bool
  noInsurance : Bool
  deriving DecidableEq, Repr

/-- Zone lookup (R57): `none` when the destination is unroutable. -/
def Bank.lookupZone (b : Bank) (d : Nat) : Option ZoneAnswer :=
  match b.zones.find? fun z => decide (z.low ≤ d ∧ d ≤ z.high) with
  | some z => some { zone := z.zone, route := z.route, remote := z.remote, noInsurance := z.noInsurance }
  | none => if b.openDefault then some { zone := 0, route := 0, remote := false, noInsurance := false } else none

/-- The cell of a product slot and zone (R58, R70). -/
def Bank.lookupCell (b : Bank) (slot zone : Nat) : Option TariffCell :=
  b.cells.find? fun c => decide (c.slot = slot ∧ c.zone = zone)

/-- The first band, in order, whose U is not below `wc`, with its lower limit; `low` is the U of the band before (R58). -/
def firstBand (wc : Nat) : Nat → List BandRecord → Option (BandRecord × Nat)
  | _, [] => none
  | low, b :: rest => if wc ≤ b.u then some (b, low) else firstBand wc b.u rest

/-- Band lookup in a cell (R58, R75). -/
def Bank.lookupBand (b : Bank) (cell : TariffCell) (wc : Nat) : Option (BandRecord × Nat) :=
  firstBand wc 0 ((b.bands.drop cell.first).take cell.count)

/-- Surcharge lookup (R59). -/
def Bank.lookupSurcharge (b : Bank) (slot : Nat) : Option Surcharge :=
  b.surcharges.find? fun x => decide (x.slot = slot)

/-! ### RESTART (R62) -/

/-- RESTART at the tariff store: a LOADING bank becomes EMPTY and the cursor is cleared. The references fall as the quotes
are removed (R105). -/
def State.restartTariff (s : State) : State :=
  match s.bankIn .loading with
  | none => { s with tariff := { s.tariff with cursor := .cleared } }
  | some id => ({ s with tariff := { s.tariff with cursor := .cleared } }).setBank id .cleared

end Sys2Proof.Machine
end

