-- ==== Sys2Proof/Machine/Rating.lean ====
section
/-! DEFINITION. The rating unit (04): one computation through its fourteen stages, whole at one event, and holding nothing
afterwards (R63). -/

namespace Sys2Proof.Machine

/-- The RATE carries MANUAL_WEIGHT (R195). -/
def manualWeightFlag (body : RateBody) : Bool := body.flags.testBit 0

/-- The RATE carries MANUAL_DIMS (R195). -/
def manualDimsFlag (body : RateBody) : Bool := body.flags.testBit 1

/-- The counter link's field checks of a RATE (R65, R181); the letter is not among them: one that names no enabled slot
fails at stage 1 (R68). A flag whose weight or length is 0 carries no value (R195). -/
def rateFieldsGood (body : RateBody) : Bool :=
  decide (body.destination ≤ 999999) && decide (body.declaredValue ≤ 9999999)
    && decide (body.flags ≤ 3)
    && (!manualWeightFlag body || decide (1 ≤ body.manualWeight ∧ body.manualWeight ≤ 40000))
    && (!manualDimsFlag body ||
        [body.len1, body.len2, body.len3].all fun x => decide (1 ≤ x ∧ x ≤ Config.maxLength))

/-- Three lengths sorted into a ≥ b ≥ c (4.5). -/
def sortDims (x y z : Nat) (source : DimSource) (edge irregular long : Bool) : Dims :=
  let a := max x (max y z)
  let c := min x (min y z)
  { a := a, b := x + y + z - a - c, c := c, source := source, edge := edge, irregular := irregular, long := long }

/-- The dimensions of a measurement record, sorted, with its flags (R66, R71). -/
def Measurement.dims (m : Measurement) : Dims := sortDims m.length m.width m.height .gauge m.edge m.irregular m.long

/-- Settle number, actual weight and dimensions of a computation (R66). Without manual weight a parcel record is always
present; `none` stands for its absence, which no computation meets. -/
def rateInputs (parcel : Option Parcel) (body : RateBody) : Option (Option Nat × Nat × Option Dims) :=
  let manual : Option Dims :=
    if manualDimsFlag body then some (sortDims body.len1 body.len2 body.len3 .manual false false false) else none
  if manualWeightFlag body then some (none, body.manualWeight, manual)
  else parcel.map fun p =>
    (some p.settleNumber, p.weight, if manualDimsFlag body then manual else p.dims.map Measurement.dims)

/-- Stage 4: dimensions required and trusted (R71). -/
def dimsRefusal (p : Product) (dims : Option Dims) : Option Reason :=
  if p.volumetric then
    match dims with
    | none => some .noDims
    | some d => if d.source = .gauge ∧ d.edge = true then some .dimsUnsure else none
  else none

/-- The girth measure G = a + 2 × (b + c) (4.5). -/
def Dims.girth (d : Dims) : Nat := d.a + 2 * (d.b + d.c)

/-- Stage 5: beyond an absolute limit (R72). -/
def oversizeRefusal (p : Product) (dims : Option Dims) : Bool :=
  match dims with
  | none => false
  | some d => decide (d.a > p.absLength ∨ d.girth > p.absGirth)

/-- Stage 5: a large parcel (R72). -/
def largeFinding (p : Product) (dims : Option Dims) : Bool :=
  match dims with
  | none => false
  | some d => decide (d.a > p.longSide ∨ d.girth > p.girth)

/-- Stage 6: the volumetric weight, present when the product's volumetric flag is set (R73). -/
def volumetricWeight (p : Product) (divisor : Nat) (dims : Option Dims) : Option Nat :=
  if p.volumetric then some (match dims with | none => 0 | some d => ceilDiv (d.a * d.b * d.c) divisor) else none

/-- Stage 9: the band price (R76). -/
def bandPrice (b : BandRecord) (low wc : Nat) : Nat :=
  let steps := if b.sw = 0 ∨ wc ≤ low + b.i then 0 else ceilDiv (wc - low - b.i) b.sw
  b.p0 + steps * b.p1

/-- Stage 10: the remote line (R78). -/
def remoteLine (price rate : Nat) : Nat := (price * rate + 500) / 1000

/-- Stage 11: the insurance line, or the refusal (R79). -/
def insuranceLine (p : Product) (z : ZoneAnswer) (surcharge : Option Surcharge) (v : Nat) : Except Reason Nat :=
  if v = 0 then .ok 0
  else if v > p.maxValue then .error .valueLimit
  else if z.noInsurance then .error .noInsurance
  else match surcharge with
    | none => .error .noInsurance
    | some x => .ok (ceilDiv v x.insuranceUnit * x.insurancePrice)

/-- The gauge's IRREGULAR finding (R77). -/
def irregularFinding (dims : Option Dims) : Bool :=
  match dims with
  | none => false
  | some d => decide (d.source = .gauge) && d.irregular

/-- Stages 9 to 14 for the chosen band: price lines, total and price limit, and the result record (R76 to R81). -/
def priceResult (cfg : Setup) (p : Product) (id : BankId) (version : Nat) (body : RateBody) (z : ZoneAnswer)
    (settleNumber : Option Nat) (wa wc : Nat) (wv : Option Nat) (dims : Option Dims) (band : BandRecord) (low : Nat)
    (surcharge : Option Surcharge) : Except Reason RateResult :=
  let price := bandPrice band low wc
  let large := largeFinding p dims
  let irregular := irregularFinding dims
  let oversizeLine := if large then (surcharge.map (·.oversize)).getD 0 else 0
  let irregularLine := if irregular then (surcharge.map (·.irregular)).getD 0 else 0
  let remote := if z.remote then (surcharge.map fun x => remoteLine price x.remoteRate).getD 0 else 0
  match insuranceLine p z surcharge body.declaredValue with
  | .error e => .error e
  | .ok insurance =>
    let subtotal := price + oversizeLine + irregularLine + remote + insurance
    let total := nearestMultiple subtotal cfg.roundingUnit
    if total > Config.maxTotal then .error .priceLimit
    else .ok
      { letter := body.letter, destination := body.destination, zone := z.zone, route := z.route, bank := id,
        version := version, settleNumber := settleNumber, wa := wa, wc := wc, wv := wv, dims := dims,
        declared := if body.declaredValue = 0 then none else some body.declaredValue,
        price := { band := price, oversize := oversizeLine, irregular := irregularLine, remote := remote,
                   insurance := insurance, rounding := (total : Int) - subtotal, total := total },
        flags := { manualWeight := manualWeightFlag body, manualDims := manualDimsFlag body,
                   byVolume := decide (wv.getD 0 > wa), large := large, irregular := irregular, remote := z.remote,
                   insured := decide (body.declaredValue > 0) } }

/-- Stages 2 to 8 for a product slot: the first failing stage decides (R67, R69 to R75). -/
def rateProduct (cfg : Setup) (p : Product) (slot : Nat) (id : BankId) (bank : Bank) (body : RateBody)
    (settleNumber : Option Nat) (wa : Nat) (dims : Option Dims) : Except Reason RateResult :=
  match bank.lookupZone body.destination with
  | none => .error .unroutable
  | some z =>
    match bank.lookupCell slot z.zone with
    | none => .error .notServed
    | some cell =>
      match dimsRefusal p dims with
      | some reason => .error reason
      | none =>
        if oversizeRefusal p dims then .error .oversize
        else
          let wv := volumetricWeight p cfg.divisor dims
          let wc := max wa (wv.getD 0)
          if wc > p.maxWeight then .error .overweight
          else match bank.lookupBand cell wc with
            | none => .error .overweight
            | some (band, low) =>
              priceResult cfg p id bank.version body z settleNumber wa wc wv dims band low
                (bank.lookupSurcharge slot)

/-- One computation, read from the ACTIVE bank, the configuration, the RATE and the parcel record as they stand (R63,
R67, R68). It is called only while a bank is ACTIVE and, without manual weight, a parcel record is present; the two
answers that stand for their absence are the refusals the quote table gives in those cases (R85). -/
def State.compute (s : State) (body : RateBody) : Except Reason RateResult :=
  match s.activeBank, s.setup with
  | some id, some cfg =>
    match s.productIndex body.letter, rateInputs s.weighing.parcel body with
    | some slot, some (settleNumber, wa, dims) =>
      match s.products[slot]? with
      | some p =>
        if p.enabled then rateProduct cfg p slot id (s.bank id) body settleNumber wa dims
        else .error .unknownProduct
      | none => .error .unknownProduct
    | none, _ => .error .unknownProduct
    | some _, none => .error .noParcel
  | _, _ => .error .noTariff

end Sys2Proof.Machine
end

