-- ==== Sys2Proof/Machine/Quotes.lean ====
section
/-! DEFINITION. The quote table (05) but for completion: storing a rating's outcome, the waiting RATE, expiry, CANCEL, and
the ways a COMMIT's wait ends without a label. -/

namespace Sys2Proof.Machine

/-- The quote with this number. -/
def State.quote? (s : State) (number : Nat) : Option Quote :=
  s.quotes.records.find? fun q : Quote => q.number == number

/-- The quote number after `n`; 65535 is followed by 1 (R90). -/
def nextQuoteNumber (n : Nat) : Nat := if n < Config.max16 then n + 1 else 1

/-- The counter passes over numbers still held (R90); each held number can be met once, so `fuel` is their count. -/
def skipHeld (held : List Nat) : Nat → Nat → Nat
  | 0, n => n
  | fuel + 1, n => if held.contains n then skipHeld held fuel (nextQuoteNumber n) else n

/-- The quote number counter after a quote is stored with the number `n`; `held` are the numbers in the table (R90). -/
def advanceCounter (held : List Nat) (n : Nat) : Nat := skipHeld held held.length (nextQuoteNumber n)

/-- The outcome of a computation reaches the quote table (R82, R89). -/
def State.storeOutcome (r : RequestRef) (outcome : Except Reason RateResult) (s : State) : State :=
  match outcome with
  | .error reason => s.refuse r reason
  | .ok result =>
    if s.quotes.records.length ≥ Config.maxQuotes then s.refuse r .quotesFull
    else
      let number := s.quotes.nextNumber
      let quote : Quote := { number := number, state := .opened, ageMs := 0, result := result }
      let records := s.quotes.records ++ [quote]
      let s' := { s with quotes := { s.quotes with
        records := records, nextNumber := advanceCounter (records.map Quote.number) number } }
      (s'.takeRef result.bank).reply r (.quote number s.hall.station result)

/-- RATE at the quote table (R85, R86). -/
def State.takeRate (r : RequestRef) (body : RateBody) (s : State) : State :=
  if s.activeBank = none then s.refuse r .noTariff
  else if manualWeightFlag body then s.storeOutcome r (s.compute body)
  else match s.weighing.scale with
    | .noZero => s.refuse r .noZero
    | .range => s.refuse r .overload
    | .sensor => s.refuse r .sensor
    | .empty => s.refuse r .noParcel
    | .settled => s.storeOutcome r (s.compute body)
    | .moving =>
      match s.quotes.waiting with
      | none => { s with quotes := { s.quotes with waiting := some { ref := r, body := body, timer := 0 } } }
      | some _ => s.refuse r .busy

/-- The waiting RATE becomes absent. -/
def State.clearWaiting (s : State) : State := { s with quotes := { s.quotes with waiting := none } }

/-- The refusal a transition of the scale gives the waiting RATE (R88). -/
def scaleRefusal : ScaleState → Option Reason
  | .empty => some .noParcel
  | .range => some .overload
  | .sensor => some .sensor
  | .noZero | .moving | .settled => none

/-- An entry into SETTLED releases the waiting RATE (R87). -/
def State.releaseWaiting (s : State) : State :=
  match s.quotes.waiting with
  | none => s
  | some w => s.clearWaiting.storeOutcome w.ref (s.clearWaiting.compute w.body)

/-- A transition into EMPTY, RANGE or SENSOR refuses the waiting RATE (R88). -/
def State.refuseWaiting (scale : ScaleState) (s : State) : State :=
  match s.quotes.waiting, scaleRefusal scale with
  | some w, some reason => s.clearWaiting.refuse w.ref reason
  | _, _ => s

/-- The front end tells the quote table of a transition of the scale (R13, R87, R88). -/
def State.tellScale (scale : ScaleState) (s : State) : State :=
  match scale with
  | .settled => s.releaseWaiting
  | .empty | .range | .sensor => s.refuseWaiting scale
  | .noZero | .moving => s

/-- A quote leaves the table and the pending order, and its bank's reference is dropped (R54, R101). -/
def State.removeQuote (q : Quote) (s : State) : State :=
  State.dropRef q.result.bank
    { s with quotes := { s.quotes with
        records := s.quotes.records.eraseP fun x : Quote => x.number == q.number
        pendingOrder := s.quotes.pendingOrder.erase q.number } }

/-- CANCEL (R92). -/
def State.takeCancel (r : RequestRef) (number : Nat) (s : State) : State :=
  match s.quote? number with
  | none => s.refuse r .noQuote
  | some q =>
    match q.state with
    | .opened => (s.removeQuote q).done r .plain
    | .committing commit => ((s.removeQuote q).refuse commit .cancelled).done r .plain

/-- Changes the quote with this number. -/
def State.modifyQuote (number : Nat) (f : Quote → Quote) (s : State) : State :=
  { s with quotes := { s.quotes with
      records := s.quotes.records.map fun q => if q.number = number then f q else q } }

/-- A COMMITTING quote leaves the pending order and returns to OPEN with its age timer at 0, its COMMIT refused (R99,
R100). -/
def State.reopen (reason : Reason) (s : State) (number : Nat) : State :=
  match s.quote? number with
  | none => s
  | some q =>
    match q.state with
    | .opened => s
    | .committing commit =>
      let s' := s.modifyQuote number fun x => { x with state := .opened, ageMs := 0 }
      ({ s' with quotes := { s'.quotes with pendingOrder := s'.quotes.pendingOrder.erase number } }).refuse
        commit reason

/-- The quote with this number is of the product. -/
def State.quoteHasLetter (s : State) (letter number : Nat) : Bool :=
  decide ((s.quote? number).map (·.result.letter) = some letter)

/-- Exhaustion refuses NO_NUMBERS to the product's COMMITTING quotes, in pending order (R99). -/
def State.refuseNoNumbers (letter : Nat) (s : State) : State :=
  (s.quotes.pendingOrder.filter (s.quoteHasLetter letter)).foldl (State.reopen .noNumbers) s

/-- Muting refuses MUTED to every COMMITTING quote, in pending order (R100). -/
def State.refuseMuted (s : State) : State := s.quotes.pendingOrder.foldl (State.reopen .muted) s

/-- RESTART refuses one COMMITTING quote's COMMIT (R105). -/
def State.restartCommit (s : State) (number : Nat) : State :=
  match s.quote? number with
  | none => s
  | some q =>
    match q.state with
    | .opened => s
    | .committing commit => s.refuse commit .restarted

/-- RESTART at the quote table, in the order of R105: the waiting RATE, the COMMITs in pending order, then every record and
its reference. -/
def State.restartQuotes (s : State) : State :=
  let s1 := match s.quotes.waiting with
    | none => s
    | some w => s.clearWaiting.refuse w.ref .restarted
  let s2 := s1.quotes.pendingOrder.foldl State.restartCommit s1
  let s3 := s2.quotes.records.foldl (fun t q => t.dropRef q.result.bank) s2
  { s3 with quotes := { s3.quotes with records := [], pendingOrder := [] } }

/-- The quote with this number is COMMITTING. -/
def State.isCommitting (s : State) (number : Nat) : Bool :=
  match s.quote? number with
  | none => false
  | some q => decide (q.state ≠ .opened)

/-- The requests RESTART answers: the waiting RATE and the COMMITs of COMMITTING quotes (R186). -/
def State.restartAnswers (s : State) : Nat :=
  s.quotes.waiting.toList.length + (s.quotes.pendingOrder.filter s.isCommitting).length

end Sys2Proof.Machine
end

