-- ==== Sys2Proof/Machine/Numbers.lean ====
section
/-! DEFINITION. The number allocator (06): windows and marks, holdings and supply, claims and their races, answering,
withdrawal, spending, the effects of heard frames, and the conflict log. -/

namespace Sys2Proof.Machine

/-! ### Configuration and supply -/

/-- A product slot at the acceptance of START (R107). -/
def Slot.configured (p : Product) : Slot :=
  if p.enabled then
    { letter := p.letter, enabled := true, first := p.first, count := p.count,
      marks := List.replicate p.count false, current := none, reserve := none, claim := .none, cursor := p.first,
      supply := .waiting, owedHeld := [], owedSpent := [], holdsOwed := false }
  else { Slot.off with letter := p.letter, first := p.first, count := p.count }

/-- The supply state is re-evaluated, with the notice of a change to LAST or EXHAUSTED; exhaustion is told to the quote
table (R111, R99). -/
def State.reviewSupply (k : Nat) (s : State) : State :=
  match s.alloc.slots[k]? with
  | none => s
  | some sl =>
    let v := sl.supplyOf
    let s' := s.modifySlot k fun x => { x with supply := v }
    if v = .last ∧ sl.supply ≠ .last then
      match sl.current with
      | none => s'
      | some c => s'.notify (.lowNumbers sl.letter c.block c.left)
    else if v = .exhausted ∧ sl.supply ≠ .exhausted then
      (s'.notify (.exhausted sl.letter)).refuseNoNumbers sl.letter
    else s'

/-! ### Claims (6.3) -/

/-- Sets the mark of a block of the window; a mark is never cleared (R108). -/
def Slot.setMark (block : Nat) (k : Slot) : Slot := { k with marks := k.marks.set (block - k.first) true }

/-- The need of a claim is tested; when it is found, a block is chosen, marked and owed (R112, R113). -/
def State.testNeed (k : Nat) (s : State) : State :=
  match s.alloc.slots[k]? with
  | none => s
  | some sl =>
    if s.hall.state = .joined ∧ sl.needsClaim s.lowWater = true then
      match sl.search with
      | none => s.reviewSupply k
      | some b =>
        ((s.modifySlot k fun x => { x.setMark b with claim := .owed b }).dueOffer).reviewSupply k
    else s

/-- A claim ends as lost (R117). -/
def State.loseClaim (k block : Nat) (s : State) : State :=
  match s.alloc.slots[k]? with
  | none => s
  | some sl =>
    let s1 := if sl.claim = .queued block then s.withdraw (.claim sl.letter block) else s
    let s2 := s1.withdraw (.held sl.letter block)
    let s3 := s2.modifySlot k fun x =>
      { x with claim := .none, owedHeld := x.owedHeld.erase block, cursor := x.after block }
    (s3.reviewSupply k).testNeed k

/-- A HELD is owed for the block, once at a time and up to four blocks of a slot; in MUTED none is (R121, R133). -/
def State.oweHeld (k block : Nat) (s : State) : State :=
  match s.alloc.slots[k]? with
  | none => s
  | some sl =>
    if s.mayOwe = true ∧ sl.owedHeld.contains block = false ∧ s.isQueued (.held sl.letter block) = false
        ∧ sl.owedHeld.length < Config.maxOwedHeld then
      (s.modifySlot k fun x => { x with owedHeld := x.owedHeld ++ [block] }).dueOffer
    else s

/-- A claim in HOLDOFF is won (R119). -/
def State.winClaim (k block : Nat) (s : State) : State :=
  match s.alloc.slots[k]? with
  | none => s
  | some sl =>
    let s1 := s.modifySlot k fun x =>
      if x.current.isNone then
        { x with current := some { block := block, next := 0 }, claim := .none, cursor := x.after block }
      else { x with reserve := some block, claim := .none, cursor := x.after block }
    let s2 := s1.notify (.blockWon sl.letter block (if sl.current.isNone then .current else .reserve))
    let s3 := (s2.reviewSupply k).testNeed k
    if sl.current.isNone then s3.dueServe else s3

/-! ### The conflict log (R130, R131) -/

/-- A record is logged; the first of an empty log sends a CONFLICT notice; beyond eight it is only counted (R130). -/
def State.logConflict (r : ConflictRecord) (s : State) : State :=
  if s.alloc.log.length < Config.maxLog then
    let s' := { s with alloc := { s.alloc with log := s.alloc.log ++ [r] } }
    if s.alloc.log = [] then s'.notify (.conflict r.kind r.letter r.block) else s'
  else { s with alloc := { s.alloc with overflow := sat Config.maxOverflow (s.alloc.overflow + 1) } }

/-- LOGTAKE (R131). -/
def State.logTake (r : RequestRef) (s : State) : State :=
  match s.alloc.log with
  | [] => s.done r (.logTake none s.alloc.overflow)
  | oldest :: rest =>
    ({ s with alloc := { s.alloc with
        log := rest, overflow := if rest = [] then 0 else s.alloc.overflow } }).done r
      (.logTake (some oldest) s.alloc.overflow)

/-! ### Withdrawal and spending (6.4, 6.5) -/

/-- The current block leaves the holdings; a reserve is promoted with next offset 0 (R110). -/
def Slot.promote (k : Slot) : Slot :=
  { k with current := k.reserve.map fun b => { block := b, next := 0 }, reserve := none }

/-- Withdrawal of a held block (R123). -/
def State.withdrawBlock (k block : Nat) (s : State) : State :=
  match s.alloc.slots[k]? with
  | none => s
  | some sl =>
    let s1 :=
      if sl.current.map (·.block) = some block then
        let t := s.modifySlot k Slot.promote
        if sl.reserve.isSome then t.dueServe else t
      else s.modifySlot k fun x => { x with reserve := none }
    ((s1.oweHeld k block).reviewSupply k).testNeed k

/-- A SPENT is owed; a full list drops its oldest (R125). -/
def Slot.oweSpent (block : Nat) (k : Slot) : Slot :=
  { k with owedSpent :=
      if k.owedSpent.length < Config.maxOwedSpent then k.owedSpent ++ [block] else k.owedSpent.drop 1 ++ [block] }

/-- The serial the current block issues next (R124). -/
def CurrentBlock.serial (c : CurrentBlock) : Nat := c.block * Config.blockSize + c.next

/-- The next serial of the current block is issued; the last one spends the block (R124, R125). The caller has tested that
one is left (R96). -/
def State.issueSerial (k : Nat) (c : CurrentBlock) (s : State) : State :=
  if c.next + 1 < Config.blockSize then
    ((s.modifySlot k fun x => { x with current := some { c with next := c.next + 1 } }).testNeed k).reviewSupply k
  else
    (((s.modifySlot k fun x => x.promote.oweSpent c.block).dueOffer).testNeed k).reviewSupply k

/-! ### Heard frames (6.6) -/

/-- A heard frame names a block of an enabled slot: its mark is set with an EXCLUDED notice, or it is logged as outside the
window (R126). -/
def State.markHeard (k : Nat) (kind : FrameKind) (station : Nat) (serial : Option Nat) (s : State) (block : Nat) :
    State :=
  match s.alloc.slots[k]? with
  | none => s
  | some sl =>
    if sl.inWindow block then
      if sl.marked block then s
      else (s.modifySlot k (Slot.setMark block)).notify (.excluded sl.letter block kind station)
    else if (s.setup.map (·.strictWindow)) = some true then
      s.logConflict { kind := .outOfWindow, letter := sl.letter, block := block, serial := serial, station := station }
    else s

/-- The marks of a heard frame are set in turn, then the supply state is re-evaluated (R126). -/
def State.marksHeard (k : Nat) (kind : FrameKind) (station : Nat) (serial : Option Nat) (blocks : List Nat)
    (s : State) : State :=
  (blocks.foldl (State.markHeard k kind station serial) s).reviewSupply k

/-- A heard frame that names a claimed block ends the claim as lost, whatever its state but NONE (R116). -/
def State.loseIfClaimed (k : Nat) (blocks : List Nat) (s : State) : State :=
  match s.alloc.slots[k]? with
  | none => s
  | some sl =>
    match sl.claim.block? with
    | none => s
    | some b => if blocks.contains b then s.loseClaim k b else s

/-- Changes the list of one peer and slot in the peer holdings column. -/
def State.modifyColumn (station k : Nat) (f : List Nat → List Nat) (s : State) : State :=
  { s with alloc := { s.alloc with column := s.alloc.column.modify station fun row => row.modify k f } }

/-- A block is added to a peer's list as newest; a list of two others drops its oldest (R127). -/
def addHeld (block : Nat) (l : List Nat) : List Nat :=
  if l.contains block then l else if l.length < 2 then l ++ [block] else l.drop (l.length - 1) ++ [block]

/-- The blocks a peer is believed to hold (R127). -/
def State.peerBlocks (s : State) (station k : Nat) : List Nat := ((s.alloc.column[station]?.getD [])[k]?).getD []

/-- A heard CLAIM at the allocator (R116, R118, R121, R126, R127). -/
def State.claimHeard (station letter block : Nat) (s : State) : State :=
  match s.slotOf letter with
  | none => s
  | some k =>
    let s1 := s.marksHeard k .claim station none [block]
    let s2 := match s1.alloc.slots[k]? with
      | none => s1
      | some sl =>
        if sl.claim = Claim.owed block ∨ sl.claim = Claim.queued block then s1.loseClaim k block
        else if sl.holds block = true ∨ sl.claim.block? = some block then s1.oweHeld k block
        else s1
    s2.modifyColumn station k (addHeld block)

/-- A heard HELD at the allocator (R116, R122, R126, R127). -/
def State.heldHeard (station letter block : Nat) (s : State) : State :=
  match s.slotOf letter with
  | none => s
  | some k =>
    let s1 := (s.marksHeard k .held station none [block]).loseIfClaimed k [block]
    let s2 := match s1.alloc.slots[k]? with
      | none => s1
      | some sl =>
        if sl.holds block then
          (s1.withdrawBlock k block).logConflict
            { kind := .conflict, letter := letter, block := block, serial := none, station := station }
        else s1
    let s3 := (List.range Config.stations).foldl
      (fun t n => if n = station then t else t.modifyColumn n k fun l => l.erase block) s2
    s3.modifyColumn station k (addHeld block)

/-- A heard SPENT at the allocator (R116, R126, R127). -/
def State.spentHeard (station letter block : Nat) (s : State) : State :=
  match s.slotOf letter with
  | none => s
  | some k =>
    ((s.marksHeard k .spent station none [block]).loseIfClaimed k [block]).modifyColumn station k
      fun l => l.erase block

/-- A heard HOLDS at the allocator (R116, R126, R127). The column's lists hold no duplicates (log 22). -/
def State.holdsHeard (station letter : Nat) (blocks : List Nat) (s : State) : State :=
  match s.slotOf letter with
  | none => s
  | some k =>
    ((s.marksHeard k .holds station none blocks).loseIfClaimed k blocks).modifyColumn station k
      fun _ => blocks.eraseDups

/-- The POSTED check (R129). -/
def State.checkPosted (k station letter serial : Nat) (s : State) : State :=
  let block := serial / Config.blockSize
  match s.alloc.slots[k]? with
  | none => s
  | some sl =>
    let record := fun kind => ConflictRecord.mk kind letter block (some serial) station
    if sl.holds block then (s.logConflict (record .conflict)).withdrawBlock k block
    else if (s.peerBlocks station k).contains block then s
    else s.logConflict (record .stray)

/-- A heard POSTED at the allocator (R116, R126, R129). -/
def State.postedHeard (station letter serial : Nat) (s : State) : State :=
  match s.slotOf letter with
  | none => s
  | some k =>
    let block := serial / Config.blockSize
    ((s.marksHeard k .posted station (some serial) [block]).loseIfClaimed k [block]).checkPosted k station letter serial

/-- A heard JOIN owes a HOLDS for every enabled slot (R128); in MUTED none (R133). -/
def State.joinHeard (s : State) : State :=
  if s.mayOwe then
    State.dueOffer { s with alloc := { s.alloc with
      slots := s.alloc.slots.map fun k => if k.enabled then { k with holdsOwed := true } else k } }
  else s

/-! ### MAPLOAD (R109) -/

/-- The blocks a MAPLOAD marks: those whose flag is set and that lie inside the window. -/
def Slot.mapBlocks (k : Slot) (startBlock : Nat) (span : List Bool) : List Nat :=
  ((List.range span.length).filter fun n => span.getD n false && k.inWindow (startBlock + n)).map (startBlock + ·)

/-- MAPLOAD at the allocator (R109). -/
def State.mapLoad (r : RequestRef) (letter startBlock : Nat) (span : List Bool) (s : State) : State :=
  if startBlock > Config.maxBlock then s.refuse r .badRequest
  else match s.slotOf letter with
    | none => s.refuse r .unknownProduct
    | some k =>
      match s.hall.state with
      | .joined => s.refuse r .already
      | .muted => s.refuse r .muted
      | .starting | .joining =>
        match s.alloc.slots[k]? with
        | none => s
        | some sl =>
          let blocks := sl.mapBlocks startBlock span
          let newly := (blocks.filter fun b => !sl.marked b).length
          ((s.modifySlot k fun x => blocks.foldl (fun y b => y.setMark b) x).done r (.mapLoad newly)).reviewSupply k

/-! ### Muting (R133) -/

/-- What muting does to one slot's owed items and claim (R133). -/
def Slot.muted (k : Slot) : Slot :=
  { k with
    owedHeld := [], owedSpent := [], holdsOwed := false
    claim := match k.claim with
      | .holdoff block remaining => .holdoff block remaining
      | .none | .owed _ | .queued _ => .none }

/-- Muting at the allocator: owed items and unsent claims end, and the supply of each slot is re-evaluated (R111, R133;
DEDUCED, log 11). Where several slots become EXHAUSTED, their notices and refusals come in ascending slot order (DESIGN
CHOICE, log 38). -/
def State.muteNumbers (s : State) : State :=
  (List.range Config.slots).foldl (fun t k => t.reviewSupply k)
    { s with alloc := { s.alloc with slots := s.alloc.slots.map Slot.muted } }

end Sys2Proof.Machine
end

