-- ==== Sys2Proof/Machine/Owed.lean ====
section
/-! DEFINITION. Owed items and their entry into the transmit queue (R157): which items the station owes, in the order they
are taken, and what each entry does at its owner (R114, R121, R125, R128, R53, R146, R153). -/

namespace Sys2Proof.Machine

/-- An item a block owes the hall (R157). -/
inductive OwedItem where
  | held (k block : Nat)
  | claim (k block : Nat)
  | join
  | holds (k : Nat)
  | spent (k block : Nat)
  | cutover (version : Nat)
  | bagnext (route bag : Nat)
  deriving DecidableEq, Repr

/-- The class of an owed item (8.2). -/
def OwedItem.frameClass : OwedItem → FrameClass
  | .held _ _ | .claim _ _ => .urgent
  | .join | .holds _ | .spent _ _ | .cutover _ | .bagnext _ _ => .normal

/-- The owed CLAIM of a slot (R114). -/
def Slot.owedClaim (k : Slot) : List Nat :=
  match k.claim with
  | .owed b => [b]
  | .none | .queued _ | .holdoff _ _ => []

/-- The slots with their indexes, ascending. -/
def State.indexedSlots (s : State) : List (Nat × Slot) := (List.range s.alloc.slots.length).zip s.alloc.slots

/-- The owed items of the station in the order of R157. -/
def State.owedItems (s : State) : List OwedItem :=
  (s.indexedSlots.flatMap fun x => x.2.owedHeld.map (OwedItem.held x.1))
    ++ (s.indexedSlots.flatMap fun x => x.2.owedClaim.map (OwedItem.claim x.1))
    ++ (if s.hall.owedJoin then [OwedItem.join] else [])
    ++ (s.indexedSlots.flatMap fun x => if x.2.holdsOwed then [OwedItem.holds x.1] else [])
    ++ (s.indexedSlots.flatMap fun x => x.2.owedSpent.map (OwedItem.spent x.1))
    ++ s.tariff.owedCutover.toList.map OwedItem.cutover
    ++ ((List.range s.bags.rows.length).zip s.bags.rows).flatMap fun x => x.2.owed.toList.map (OwedItem.bagnext x.1)

/-- The letter of a product slot. -/
def State.letterOf (s : State) (k : Nat) : Nat := ((s.alloc.slots[k]?).map (·.letter)).getD 0

/-- An owed item ceases to be owed, and its owner makes its change (R53, R114, R121, R125, R128, R146, R153). -/
def State.settleItem (i : OwedItem) (s : State) : State :=
  match i with
  | .held k b => s.modifySlot k fun x => { x with owedHeld := x.owedHeld.erase b }
  | .claim k b => s.modifySlot k fun x => { x with claim := .queued b }
  | .join => { s with hall := { s.hall with owedJoin := false } }
  | .holds k => s.modifySlot k fun x => { x with holdsOwed := false }
  | .spent k b => s.modifySlot k fun x => { x with owedSpent := x.owedSpent.erase b }
  | .cutover _ => { s with tariff := { s.tariff with owedCutover := none } }
  | .bagnext r _ => s.modifyRow r fun x => { x with owed := none }

/-- The contents of an owed item's frame, taken from its owner at the entry (R155). -/
def State.itemBody (s : State) : OwedItem → FrameBody
  | .held k b => .held (s.letterOf k) b
  | .claim k b => .claim (s.letterOf k) b
  | .join => .join ((s.setup.map (·.office)).getD 0)
  | .holds k => .holds (s.letterOf k) (((s.alloc.slots[k]?).map Slot.heldBlocks).getD [])
  | .spent k b => .spent (s.letterOf k) b
  | .cutover v => .cutover v
  | .bagnext r b => .bagnext r b

/-- An owed item is offered: it enters when its class is admitted, and stays owed when it is not (R156, R157). -/
def State.offerItem (s : State) (i : OwedItem) : State :=
  if admits s.hall.queue i.frameClass then (s.enqueue (s.itemBody i)).settleItem i else s

/-- An offering of the owed items, while JOINING or JOINED (R157). An item not admitted stays owed; since the queue only
grows meanwhile, no later item of its class, nor a NORMAL one after an URGENT one, is admitted either. -/
def State.offerOwed (s : State) : State := if s.sends then s.owedItems.foldl State.offerItem s else s

/-- The offering within a completion of the CLAIM and SPENTs its first step made owed (R97, R157). -/
def State.offerSlot (k : Nat) (s : State) : State :=
  match s.alloc.slots[k]? with
  | none => s
  | some sl =>
    (sl.owedClaim.map (OwedItem.claim k) ++ sl.owedSpent.map (OwedItem.spent k)).foldl State.offerItem s

end Sys2Proof.Machine
end

