-- ==== Sys2Proof/Machine/Commit.lean ====
section
/-! DEFINITION. COMMIT, the serving of the pending order and the completion of a quote (R93 to R98), the item number and
the LABEL record (R190 to R192), and the end of an event, where what it made due is done (R95, R157, R158, R179). -/

namespace Sys2Proof.Machine

/-! ### The item number and the LABEL record (10.1, 10.2) -/

/-- The decimal digits of `n` in `w` places, with leading zeros (R190). -/
def digits : Nat → Nat → List Nat
  | 0, _ => []
  | w + 1, n => n / 10 ^ w % 10 :: digits w n

/-- The weights of the check digit (R190). -/
def checkWeights : List Nat := [7, 3, 1, 7, 3, 1, 7, 3, 1, 7, 3]

/-- The check digit over the four office digits and the seven serial digits (R190). -/
def checkDigit (office serial : Nat) : Nat :=
  (10 - ((digits 4 office ++ digits 7 serial).zipWith (· * ·) checkWeights).sum % 10) % 10

/-- The item number text, one character code per place (R190, R197). -/
def itemNumber (office letter serial : Nat) : List Nat :=
  (digits 4 office).map (48 + ·) ++ [64 + letter] ++ (digits 7 serial).map (48 + ·) ++ [48 + checkDigit office serial]

/-- The LABEL record of a completion (R191). -/
def State.labelRecord (s : State) (q : Quote) (serial bag : Nat) : LabelRecord :=
  { text := itemNumber ((s.setup.map (·.office)).getD 0) q.result.letter serial, quoteNumber := q.number, bag := bag,
    station := s.hall.station, result := q.result }

/-! ### Completion and serving -/

/-- The slot and current block a COMMITTING quote would draw from, when the three conditions of R96 hold. -/
def State.completable (s : State) (q : Quote) : Option (Nat × CurrentBlock) :=
  if s.hall.state = .joined ∧ admits s.hall.queue .normal = true then
    match s.slotOf q.result.letter with
    | none => none
    | some k =>
      match (s.alloc.slots[k]?).bind (·.current) with
      | none => none
      | some c => if c.next < Config.blockSize then some (k, c) else none
  else none

/-- Step 1 of a completion, and whether it made an item owed (R97). -/
def State.drawSerial (k : Nat) (c : CurrentBlock) (s : State) : State × Bool :=
  let s' := ({ s with scratch := { s.scratch with offerDue := false } }).issueSerial k c
  ({ s' with scratch := { s'.scratch with offerDue := s.scratch.offerDue } }, s'.scratch.offerDue)

/-- The completion of a COMMITTING quote (R97): serial, bag, POSTED, LABEL, removal. The quote leaves the table before its
serial is drawn, so that the exhaustion its own last serial may bring does not refuse it (DEDUCED, log 10); its reference
is dropped with the other effects of the removal. Owed items of step 1 are offered after POSTED has entered. -/
def State.complete (q : Quote) (commit : RequestRef) (k : Nat) (c : CurrentBlock) (s : State) : State :=
  let s0 := { s with quotes := { s.quotes with
    records := s.quotes.records.eraseP fun x : Quote => x.number == q.number
    pendingOrder := s.quotes.pendingOrder.erase q.number } }
  let drawn := s0.drawSerial k c
  let s2 := drawn.1.assignBag q.result.route q.result.wa
  let bag := (s2.row q.result.route).seq
  let s3 := s2.enqueue (.posted q.result.letter c.serial q.result.route bag q.result.wa)
  let s4 := if drawn.2 then s3.offerSlot k else s3
  (s4.reply commit (.label (s4.labelRecord q c.serial bag))).dropRef q.result.bank

/-- One entry of the pending order is judged, and completes when it can (R96). -/
def State.judgeEntry (s : State) (number : Nat) : State :=
  match s.quote? number with
  | none => s
  | some q =>
    match q.state with
    | .opened => s
    | .committing commit =>
      match s.completable q with
      | none => s
      | some (k, c) => s.complete q commit k c

/-- Serving: every entry of the pending order is judged once, from the oldest (R96). -/
def State.serve (s : State) : State := s.quotes.pendingOrder.foldl State.judgeEntry s

/-- COMMIT (R93). -/
def State.takeCommit (r : RequestRef) (number : Nat) (s : State) : State :=
  match s.quote? number with
  | none => s.refuse r .noQuote
  | some q =>
    if q.state ≠ .opened then s.refuse r .already
    else if s.hall.state = .muted then s.refuse r .muted
    else if ((s.slotOf q.result.letter).bind fun k => (s.alloc.slots[k]?).map (·.supply)) = some .exhausted then
      s.refuse r .noNumbers
    else
      let s' := s.modifyQuote number fun x => { x with state := .committing r }
      State.dueServe { s' with quotes := { s'.quotes with pendingOrder := s'.quotes.pendingOrder ++ [number] } }

/-! ### The end of an event -/

/-- The pending order is served if the event made it due (R95). -/
def State.serveIfDue (s : State) : State := if s.scratch.serveDue then s.serve else s

/-- The owed items are offered if the event made it due (R157). -/
def State.offerIfDue (s : State) : State := if s.scratch.offerDue then s.offerOwed else s

/-- The two claimants to the room in the queue are taken in the given order (R96, R158). -/
def State.settleRoom (order : RoomOrder) (s : State) : State :=
  match order with
  | .servingFirst => s.serveIfDue.offerIfDue
  | .owedFirst => s.offerIfDue.serveIfDue

/-- The end of an event that took the request `own`, if it took one: what it made due is done, and what it produced enters
the output queue (log 8). -/
def State.finish (own : Nat) (order : RoomOrder) (s : State) : State := (s.settleRoom order).flush own

end Sys2Proof.Machine
end

