-- ==== Sys2Proof/Machine/Weighing.lean ====
section
/-! DEFINITION. The weighing front end (01): the end of a sample sequence with everything it brings about (sensor fault,
the sample ring, the scale states, parcel records, zero tracking, WEIGHT notices), the ZERO request, and RESTART. -/

namespace Sys2Proof.Machine

/-- Changes the weighing front end. -/
def State.onWeighing (f : Weighing → Weighing) (s : State) : State := { s with weighing := f s.weighing }

/-- The ring is emptied, the first half filling at position 0, and no half-mean is kept (R4, R7, R23). -/
def Weighing.emptyRing (w : Weighing) : Weighing :=
  { w with firstHalf := [], secondHalf := [], filling := .first, kept := [] }

/-- Zo changes by `d`, and every held sample and kept half-mean is reduced by it (R12). -/
def Weighing.shiftZero (d : Int) (w : Weighing) : Weighing :=
  { w with
    zo := w.zo + d
    firstHalf := w.firstHalf.map (· - d)
    secondHalf := w.secondHalf.map (· - d)
    kept := w.kept.map (· - d) }

/-- A new zero offset within 8,000 dg of Zinit (R12, R17, R18). -/
def Weighing.withinZeroLimit (w : Weighing) (zo : Int) : Bool :=
  match w.zinit with
  | none => false
  | some z => decide (z - Config.zeroLimit ≤ zo ∧ zo ≤ z + Config.zeroLimit)

/-- The newest half-mean. -/
def Weighing.newest (w : Weighing) : Int := w.kept.getLast?.getD 0

/-- The scale state becomes `new`; a transition is told to the quote table (R13). -/
def State.enterScale (new : ScaleState) (s : State) : State :=
  let s' := s.onWeighing fun w => { w with scale := new }
  if s.weighing.scale = new then s' else s'.tellScale new

/-- An entry into SETTLED: settle number, parcel record, the gauge's slot, and the word to the quote table (R14, R37). -/
def State.enterSettled (s : State) : State :=
  let number := (s.weighing.settleNumber + 1) % 65536
  let parcel : Parcel :=
    { settleNumber := number, weight := (rounded s.weighing.newest / 10).toNat, dims := s.gauge.slot }
  let s' := s.onWeighing fun w => { w with settleNumber := number, parcel := some parcel }
  ({ s' with gauge := { s'.gauge with slot := none } }).enterScale .settled

/-- A half that leaves the scale SETTLED updates the stable weight (R15). -/
def State.updateParcel (s : State) : State :=
  s.onWeighing fun w =>
    { w with parcel := w.parcel.map fun p => { p with weight := (rounded w.newest / 10).toNat } }

/-- Zero tracking (R17). -/
def State.trackZero (s : State) : State :=
  let m := s.weighing.newest
  if -10 ≤ m ∧ m ≤ 10 ∧ m ≠ 0 ∧ s.weighing.withinZeroLimit (s.weighing.zo + m) = true then
    s.onWeighing (Weighing.shiftZero m)
  else s

/-- The state evaluation in a zeroed state (R13, R14, R15, R17). -/
def State.evaluate (cfg : Setup) (s : State) : State :=
  let m := s.weighing.newest
  let present := s.weighing.scale
  if m > Config.overload ∨ m < Config.underload then s.enterScale .range
  else if present = .range then s.enterScale .moving
  else if settledCondition cfg s.weighing.kept then
    if rounded m ≤ Config.emptyLimit then (s.enterScale .empty).trackZero
    else if present = .settled then s.updateParcel
    else s.enterSettled
  else s.enterScale .moving

/-- The initial zero test in NOZERO (R11). -/
def State.initialZero (cfg : Setup) (s : State) : State :=
  let m := s.weighing.newest
  if settledCondition cfg s.weighing.kept = true ∧ -Config.initialZeroLimit ≤ m ∧ m ≤ Config.initialZeroLimit then
    (s.onWeighing fun w => { w.shiftZero m with zinit := some m, zo := m }).enterScale .empty
  else s

/-- Keeps the newest `n` entries. -/
def keepNewest (n : Nat) (l : List Int) : List Int := l.drop (l.length - n)

/-- The filled half completes: the other half is emptied and becomes the filling one (R7), and the half-mean is kept (R8). -/
def Weighing.completeHalf (cfg : Setup) (w : Weighing) : Weighing :=
  match w.filling with
  | .first =>
    { w with secondHalf := [], filling := .second,
             kept := keepNewest cfg.settleCount (w.kept ++ [halfMean w.firstHalf]) }
  | .second =>
    { w with firstHalf := [], filling := .first,
             kept := keepNewest cfg.settleCount (w.kept ++ [halfMean w.secondHalf]) }

/-- A sample enters the filling half (R7). -/
def Weighing.push (x : Int) (w : Weighing) : Weighing :=
  match w.filling with
  | .first => { w with firstHalf := w.firstHalf ++ [x] }
  | .second => { w with secondHalf := w.secondHalf ++ [x] }

/-- The samples of the filling half; their number is the fill position (R7). -/
def Weighing.fillingHalf (w : Weighing) : List Int :=
  match w.filling with
  | .first => w.firstHalf
  | .second => w.secondHalf

/-- The evaluation that the completion of a half brings (R8). -/
def State.halfComplete (cfg : Setup) (s : State) : State :=
  match s.weighing.scale with
  | .noZero => s.initialZero cfg
  | .empty | .moving | .settled | .range => s.evaluate cfg
  | .sensor => s

/-- A sample enters the ring, and the eighth of a half completes it (R7, R8). -/
def State.takeSample (cfg : Setup) (x : Int) (s : State) : State :=
  let s1 := s.onWeighing (Weighing.push x)
  if s1.weighing.fillingHalf.length ≥ Config.halfSize then
    (s1.onWeighing (Weighing.completeHalf cfg)).halfComplete cfg
  else s1

/-- The WEIGHT notice limiter at the end of a sequence (R20). It comes before the disposal of the sequence's sample, so a
change is seen at the end of the next sequence (DEDUCED, log 9). -/
def State.weightNotice (s : State) : State :=
  let w := { s.weighing with noticeGap := sat Config.noticeGap (s.weighing.noticeGap + 1) }
  let s' := { s with weighing := w }
  if w.noticeGap = Config.noticeGap ∧ (w.scale ≠ w.reportedState ∨ w.weightField ≠ w.reportedWeight) then
    (s'.onWeighing fun x =>
      { x with reportedState := w.scale, reportedWeight := w.weightField, noticeGap := 0 }).notify
        (.weight w.scale w.weightField w.scale.stable)
  else s'

/-- An invalid sequence (R4, R5). -/
def State.invalidSequence (s : State) : State :=
  if s.weighing.scale = .sensor then s.onWeighing fun w => { w with validRun := 0 }
  else
    let s' := s.onWeighing fun w => { w with invalidRun := w.invalidRun + 1 }
    if s'.weighing.invalidRun ≥ Config.sensorRun then
      (s'.onWeighing fun w => { w.emptyRing with validRun := 0, invalidRun := Config.sensorRun }).enterScale .sensor
    else s'

/-- A valid sequence (R4, R5, R6). -/
def State.validSample (cfg : Setup) (counts : List Int) (s : State) : State :=
  if s.weighing.scale = .sensor then
    let s' := s.onWeighing fun w => { w with validRun := w.validRun + 1 }
    if s'.weighing.validRun ≥ Config.recoveryRun then
      (s'.onWeighing fun w => { w.emptyRing with invalidRun := 0, validRun := 0 }).enterScale
        (if s.weighing.zinit.isSome then .moving else .noZero)
    else s'
  else
    (s.onWeighing fun w => { w with invalidRun := 0 }).takeSample cfg (sampleWeight cfg counts s.weighing.zo)

/-- The end of a sample sequence (R2 to R8, R20). Before START no sequence runs (R1). -/
def State.sequenceEnd (counts : List Int) (reference : Int) (s : State) : State :=
  match s.setup with
  | none => s
  | some cfg =>
    let s' := s.weightNotice.onWeighing fun w => { w with converting := false }
    if validSequence cfg counts reference then s'.validSample cfg counts else s'.invalidSequence

/-- ZERO (R18). -/
def State.takeZero (r : RequestRef) (s : State) : State :=
  match s.weighing.scale with
  | .empty | .settled =>
    if s.weighing.withinZeroLimit (s.weighing.zo + s.weighing.newest) then
      ((s.onWeighing (Weighing.shiftZero s.weighing.newest)).enterScale .empty).done r .plain
    else s.refuse r .zeroRange
  | .noZero | .moving | .range | .sensor => s.refuse r .unsettled

/-- RESTART at the front end (R23). The quote table is not told of the change of state. -/
def State.restartWeighing (s : State) : State :=
  s.onWeighing fun w =>
    { w.emptyRing with
      invalidRun := 0, validRun := 0, parcel := none
      scale := if w.zinit.isSome then .moving else .noZero }

/-! ### Meanings -/

/-- SAMPLE_SEQUENCE_START: a sequence begins converting (R1, R2). Nothing the rules name changes but that it runs (log
14). -/
def execSampleSequenceStart (s : State) : Host.Outcome State Fault Refusal :=
  .next (if s.started then s.onWeighing fun w => { w with converting := true } else s)

/-- SEQUENCE_END (R2): `counts` are the counts of channels 1..4, of which only the enabled are read. -/
def execSequenceEnd (counts : List Int) (reference : Int) (s : State) : Host.Outcome State Fault Refusal :=
  .next ((s.sequenceEnd counts reference).finish s.link.nextId .owedFirst)

end Sys2Proof.Machine
end

