-- ==== Sys2Proof/Machine/Events.lean ====
section
/-! DEFINITION. Meanings of the quote table's and the allocator's own events: the end of a waiting RATE, the expiry of a
quote, a completion, and the expiry of a holdoff. An event whose condition does not hold in the state does not occur: the
state is unchanged (log 3). -/

namespace Sys2Proof.Machine

/-- WAITING_RATE_RELEASE (R87). An entry into SETTLED releases the waiting RATE within SEQUENCE_END; the command does so in
a state that is SETTLED while a RATE waits (log 16). -/
def execWaitingRateRelease (s : State) : Host.Outcome State Fault Refusal :=
  .next (if s.weighing.scale = .settled then s.releaseWaiting.finish s.link.nextId .owedFirst else s)

/-- WAITING_RATE_SCALE_REFUSAL (R88). A transition refuses the waiting RATE within SEQUENCE_END; the command does so in a
state that is EMPTY, RANGE or SENSOR while a RATE waits (log 16). -/
def execWaitingRateScaleRefusal (s : State) : Host.Outcome State Fault Refusal :=
  .next (if (scaleRefusal s.weighing.scale).isSome then
    (s.refuseWaiting s.weighing.scale).finish s.link.nextId .owedFirst else s)

/-- SETTLE_WAIT_TIMER_EXPIRY (R88): the clock runs to the timer's 3 s (log 2), and the waiting RATE is refused. -/
def execSettleWaitTimerExpiry (s : State) : Host.Outcome State Fault Refusal :=
  match s.quotes.waiting with
  | none => .next s
  | some w =>
    .next (((s.elapse (Config.settleWaitMs - w.timer)).clearWaiting.refuse w.ref .unsettled).finish
      s.link.nextId .owedFirst)

/-- The quote life in ms (R83, R91). -/
def State.lifeMs (s : State) : Nat := (s.setup.map (·.quoteLife)).getD 0 * 1000

/-- QUOTE_EXPIRY (R91): the clock runs to the OPEN quote's life (log 2), and the quote is removed. -/
def execQuoteExpiry (number : Nat) (s : State) : Host.Outcome State Fault Refusal :=
  match s.quote? number with
  | none => .next s
  | some q =>
    if q.state = .opened then .next ((s.elapse (s.lifeMs - q.ageMs)).removeQuote q) else .next s

/-- COMMIT_COMPLETION (R97). Completions are made by the servings of R95 within the events that cause them; the command makes
one of the named quote when the three conditions of R96 hold (log 16). -/
def execCommitCompletion (number : Nat) (s : State) : Host.Outcome State Fault Refusal :=
  .next ((s.judgeEntry number).finish s.link.nextId .owedFirst)

/-- HOLDOFF_EXPIRY (R119): the clock runs to the end of the slot's holdoff (log 2), and the claim is won. -/
def execHoldoffExpiry (slot : Nat) (order : RoomOrder) (s : State) : Host.Outcome State Fault Refusal :=
  match s.alloc.slots[slot]? with
  | none => .next s
  | some sl =>
    match sl.claim with
    | .holdoff block remaining => .next (((s.elapse remaining).winClaim slot block).finish s.link.nextId order)
    | .none | .owed _ | .queued _ => .next s

end Sys2Proof.Machine
end

