-- ==== Sys2Proof/Machine/Gauge.lean ====
section
/-! DEFINITION. The dimension gauge (02): gate debounce, passes, belt travel, beam scans, the stall timer, and the
measurement slot. -/

namespace Sys2Proof.Machine

/-- Changes the gauge. -/
def State.onGauge (f : Gauge → Gauge) (s : State) : State := { s with gauge := f s.gauge }

/-- A pass begins (R27). -/
def Gauge.beginPass (g : Gauge) : Gauge :=
  { g with
    pass := .passing, length := 0, highWater := 0, stallTimer := 0, width := 0, height := 0, scanCount := 0
    edge := false, irregular := false }

/-- The measurement record of a completing pass (R34). -/
def Gauge.measure (g : Gauge) : Measurement :=
  { length := min g.length Config.maxLength, width := g.width, height := g.height, edge := g.edge,
    irregular := g.irregular, long := decide (g.length > Config.maxLength) }

/-- A record is placed in the slot; an older one is displaced and counted (R36). -/
def Gauge.place (m : Measurement) (g : Gauge) : Gauge :=
  { g with
    slot := some m
    replacedCount := if g.slot.isSome then sat Config.max16 (g.replacedCount + 1) else g.replacedCount }

/-- A pass completes: it is discarded and counted, or its record is placed (R34, R35). -/
def Gauge.completePass (g : Gauge) : Gauge :=
  let g' := { g with pass := PassState.idle }
  if g.length = 0 ∨ g.width = 0 ∨ g.height = 0 then
    { g' with discardCount := sat Config.max16 (g.discardCount + 1) }
  else g'.place g.measure

/-- A new accepted gate level acts on the pass state (R26). -/
def Gauge.acceptLevel (level : GateLevel) (g : Gauge) : Gauge :=
  let g' := { g with accepted := level, gateRun := 0 }
  match g.pass, level with
  | .idle, .blocked => g'.beginPass
  | .passing, .clear => g'.completePass
  | .stalled, .clear => { g' with pass := .idle }
  | .idle, .clear | .passing, .blocked | .stalled, .blocked => g'

/-- One gate sample (R25). -/
def Gauge.sample (level : GateLevel) (g : Gauge) : Gauge :=
  if level = g.accepted then { g with gateRun := 0 }
  else if g.gateRun + 1 ≥ Config.gateSamples then g.acceptLevel level
  else { g with gateRun := g.gateRun + 1 }

/-- A beam scan of both arrays (R30, R31, R32). -/
def Gauge.scan (widthMask heightMask widthBlocked heightBlocked : BeamSet) (g : Gauge) : Gauge :=
  { g with
    width := max g.width (scanExtent widthMask widthBlocked)
    height := max g.height (scanExtent heightMask heightBlocked)
    scanCount := sat Config.max16 (g.scanCount + 1)
    edge := g.edge || scanEdge widthMask widthBlocked || scanEdge heightMask heightBlocked
    irregular := g.irregular || scanIrregular widthMask widthBlocked || scanIrregular heightMask heightBlocked }

/-- A forward count in PASSING: an advance restarts the stall timer and scans at each new 5 mm (R29). -/
def Gauge.forward (cfg : Setup) (widthBlocked heightBlocked : BeamSet) (g : Gauge) : Gauge :=
  let n := sat Config.max16 (g.length + 1)
  let g' := { g with length := n }
  if n > g.highWater then
    let g'' := { g' with highWater := n, stallTimer := 0 }
    if n % 5 = 0 then g''.scan cfg.widthMask cfg.heightMask widthBlocked heightBlocked else g''
  else g'

/-- An encoder count (R29). -/
def Gauge.encoderCount (cfg : Setup) (direction : Direction) (widthBlocked heightBlocked : BeamSet) (g : Gauge) :
    Gauge :=
  match g.pass, direction with
  | .passing, .forward => g.forward cfg widthBlocked heightBlocked
  | .passing, .reverse => { g with length := g.length - 1 }
  | .idle, _ | .stalled, _ => g

/-- RESTART at the gauge (R40). -/
def Gauge.restart (g : Gauge) : Gauge :=
  { g with slot := none, pass := if g.pass = .passing then .stalled else g.pass }

/-! ### Meanings -/

/-- GATE_SAMPLE (R25): the eighth differing sample in succession accepts the level, at that event (R26). -/
def execGateSample (level : GateLevel) (s : State) : Host.Outcome State Fault Refusal :=
  .next (if s.started then s.onGauge (Gauge.sample level) else s)

/-- GATE_LEVEL_ACCEPTED (R25, R26): the gate samples that the acceptance of `level` still needs, up to and with the one
that accepts it (log 15). A level that is already accepted is no change. -/
def execGateLevelAccepted (level : GateLevel) (s : State) : Host.Outcome State Fault Refusal :=
  .next (if s.started && decide (s.gauge.accepted ≠ level) then s.onGauge (Gauge.acceptLevel level) else s)

/-- ENCODER_COUNT (R28, R29). The beam levels are those at the event; they are read when the count calls for a scan. -/
def execEncoderCount (direction : Direction) (widthBlocked heightBlocked : BeamSet) (s : State) :
    Host.Outcome State Fault Refusal :=
  match s.setup with
  | none => .next s
  | some cfg => .next (s.onGauge (Gauge.encoderCount cfg direction widthBlocked heightBlocked))

/-- ENCODER_ERROR (R28). -/
def execEncoderError (s : State) : Host.Outcome State Fault Refusal :=
  .next (if s.started then
    s.onGauge fun g => { g with encoderErrors := sat Config.max16 (g.encoderErrors + 1) } else s)

/-- STALL_TIMER_EXPIRY (R33): the clock runs to the timer's 5 s (log 2), and the pass is abandoned. -/
def execStallTimerExpiry (s : State) : Host.Outcome State Fault Refusal :=
  .next (if s.gauge.pass = .passing then
    (s.elapse (Config.stallMs - s.gauge.stallTimer)).onGauge fun g =>
      { g with pass := .stalled, stallCount := sat Config.max16 (g.stallCount + 1) }
    else s)

end Sys2Proof.Machine
end

