-- ==== Sys2Proof/Machine/Hall.lean ====
section
/-! DEFINITION. The hall line controller (08): attempts and their ends, the census, liveness, the frames it hears and hands to
their owners, the duplicate station and muting. -/

namespace Sys2Proof.Machine

/-- Changes the hall line controller. -/
def State.onHall (f : Hall → Hall) (s : State) : State := { s with hall := f s.hall }

/-! ### Muting (R169) -/

/-- Entry into MUTED at a duplicate detection: the steps of R169 in order. `sender` is the number of the frame's sending
station; `kind` is the kind of the frame, absent for START. -/
def State.enterMuted (sender : Nat) (kind : Option FrameKind) (s : State) : State :=
  let s1 := s.onHall fun h =>
    { h with state := .muted, census := none, queue := [], attempt := none, owedJoin := false, silence := 0 }
  let s2 := ({ s1 with tariff := { s1.tariff with owedCutover := none } }).muteBags.muteNumbers
  let s3 := s2.onHall fun h => { h with failures := 0, lineFault := false }
  (s3.notify (.muted s3.hall.station sender kind)).refuseMuted

/-! ### START at the controller (R153) -/

/-- Step 1 of R153 for one liveness entry. -/
def Peer.keepGroup (group : Nat) (p : Peer) : Peer :=
  if p.lastGroup = some group then p else { p with liveness := .absent, ageMs := 0, office := none }

/-- An entry becomes ABSENT (R153). -/
def Peer.forget (p : Peer) : Peer := { p with liveness := .absent, ageMs := 0, office := none }

/-- The acceptance of START at the controller (R153). -/
def State.joinHall (group : Nat) (s : State) : State :=
  let s1 := s.onHall fun h => { h with peers := h.peers.map (Peer.keepGroup group) }
  let own := s1.hall.station
  if ((s1.hall.peers[own]?).map (·.liveness)) = some .live then
    (s1.enterMuted own none).modifyPeer own Peer.forget
  else
    ((s1.modifyPeer own Peer.forget).onHall fun h =>
      { h with state := .joining, owedJoin := true, silence := 0 }).dueOffer

/-! ### Hearing (R165, R168) -/

/-- The sending station's liveness entry at a frame credited to it (R165, R166). -/
def State.credit (f : Frame) (s : State) : State :=
  s.modifyPeer f.station fun p =>
    { liveness := .live, ageMs := 0, lastGroup := some f.group,
      office := match f.body with
        | .join office => some office
        | .holds _ _ | .alive | .claim _ _ | .held _ _ | .spent _ _ | .posted _ _ _ _ _ | .bagnext _ _ | .cutover _ =>
          p.office }

/-- A heard frame is handed, by its kind, to its owners (8.2). A POSTED goes to the bag table and to the allocator (log
12). -/
def State.hand (f : Frame) (s : State) : State :=
  match f.body with
  | .join _ => s.joinHeard
  | .holds letter blocks => s.holdsHeard f.station letter blocks
  | .alive => s
  | .claim letter block => s.claimHeard f.station letter block
  | .held letter block => s.heldHeard f.station letter block
  | .spent letter block => s.spentHeard f.station letter block
  | .posted letter serial route bag weight =>
    (s.postedAtBags route bag weight).postedHeard f.station letter serial
  | .bagnext route bag => s.bagnextHeard route bag
  | .cutover version => s.cutoverHeard f.station version

/-- A frame received with a good check (R165, R168). -/
def State.hear (f : Frame) (s : State) : State :=
  if s.hall.state = .starting then s.credit f
  else if (s.setup.map (·.group)) ≠ some f.group then s
  else if f.station = s.hall.station then
    if s.hall.state = .muted then s else s.enterMuted f.station (some f.body.kind)
  else (s.credit f).hand f

/-- The acknowledge slot of a frame received up to there with a good check is driven, but in MUTED (R163). -/
def State.acknowledge (good : Bool) (s : State) : State :=
  s.onHall fun h => { h with ackDriven := good && decide (h.state ≠ .muted) }

/-- The meaning of a good frame: it is acknowledged and heard, and the event ends (R95, R157, R158, R163, R179). -/
def hearFrame (f : Frame) (order : RoomOrder) (s : State) : State :=
  ((s.acknowledge true).hear f).finish s.link.nextId order

/-- HEARD_CLAIM (R116, R118, R121). -/
def execHeardClaim (station group letter block : Nat) (order : RoomOrder) (s : State) :
    Host.Outcome State Fault Refusal :=
  .next (hearFrame { station := station, group := group, body := .claim letter block } order s)

/-- HEARD_HELD (R116, R122). -/
def execHeardHeld (station group letter block : Nat) (order : RoomOrder) (s : State) :
    Host.Outcome State Fault Refusal :=
  .next (hearFrame { station := station, group := group, body := .held letter block } order s)

/-- HEARD_SPENT (R116, R126). -/
def execHeardSpent (station group letter block : Nat) (order : RoomOrder) (s : State) :
    Host.Outcome State Fault Refusal :=
  .next (hearFrame { station := station, group := group, body := .spent letter block } order s)

/-- HEARD_HOLDS (R116, R127). -/
def execHeardHolds (station group letter : Nat) (blocks : List Nat) (order : RoomOrder) (s : State) :
    Host.Outcome State Fault Refusal :=
  .next (hearFrame { station := station, group := group, body := .holds letter blocks } order s)

/-- HEARD_POSTED (R116, R129, R141). -/
def execHeardPosted (station group letter serial route bag weight : Nat) (order : RoomOrder) (s : State) :
    Host.Outcome State Fault Refusal :=
  .next (hearFrame { station := station, group := group, body := .posted letter serial route bag weight } order s)

/-- HEARD_JOIN (R128). -/
def execHeardJoin (station group office : Nat) (s : State) : Host.Outcome State Fault Refusal :=
  .next (hearFrame { station := station, group := group, body := .join office } .owedFirst s)

/-- HEARD_BAGNEXT (R142). -/
def execHeardBagnext (station group route bag : Nat) (s : State) : Host.Outcome State Fault Refusal :=
  .next (hearFrame { station := station, group := group, body := .bagnext route bag } .owedFirst s)

/-- HEARD_CUTOVER (R55). -/
def execHeardCutover (station group version : Nat) (s : State) : Host.Outcome State Fault Refusal :=
  .next (hearFrame { station := station, group := group, body := .cutover version } .owedFirst s)

/-- HEARD_ALIVE (R165). -/
def execHeardAlive (station group : Nat) (s : State) : Host.Outcome State Fault Refusal :=
  .next (hearFrame { station := station, group := group, body := .alive } .owedFirst s)

/-- FRAME_DISCARD (R164, R199): the levels received fail the receiver's tests, and the frame is counted. A dominant
delimiter or end-field bit comes after the acknowledge slot of a good check (R163). A frame with a good check that fails for its
class field or its HOLDS number of blocks is not acknowledged (DESIGN CHOICE, log 39). Levels that pass the tests are no
discard (log 3). -/
def execFrameDiscard (levels : List Bool) (s : State) : Host.Outcome State Fault Refusal :=
  match receive levels with
  | .error cause =>
    .next ((s.acknowledge (decide (cause = .delimiter))).onHall fun h =>
      { h with receiveErrors := sat Config.max16 (h.receiveErrors + 1) })
  | .ok _ => .next s

/-! ### Sending (R157 to R163) -/

/-- OWED_ITEM_ENTRY (R157): an offering of the owed items. The events that make one due make it themselves (log 16). -/
def execOwedItemEntry (s : State) : Host.Outcome State Fault Refusal := .next s.offerOwed

/-- The check is computed when the frame is first attempted (R155). -/
def QueuedFrame.withCheck (q : QueuedFrame) : QueuedFrame :=
  { q with check := some (q.check.getD q.frame.check) }

/-- ATTEMPT_BEGIN (R159): the line is idle, and an attempt begins with the head of the queue (log 17). -/
def execAttemptBegin (s : State) : Host.Outcome State Fault Refusal :=
  .next (if s.sends && s.hall.attempt.isNone then
    match s.hall.queue with
    | [] => s
    | q :: rest => s.onHall fun h => { h with attempt := some q.frame, queue := q.withCheck :: rest }
  else s)

/-- ARBITRATION_LOST (R160): a lower arbitration field is on the line; the attempt ends without failure. -/
def execArbitrationLost (field : Nat) (s : State) : Host.Outcome State Fault Refusal :=
  match s.hall.attempt with
  | none => .next s
  | some f => .next (if field < f.arbitration then s.onHall fun h => { h with attempt := none } else s)

/-- A failed attempt (R161, R162). -/
def State.failAttempt (f : Frame) (s : State) : State :=
  let n := sat Config.faultFailures (s.hall.failures + 1)
  let s' := s.onHall fun h => { h with attempt := none, failures := n }
  if n = Config.faultFailures ∧ s.hall.lineFault = false then
    (s'.onHall fun h => { h with lineFault := true }).notify
      (.lineFault f.body.kind f.frameClass s.hall.queue.length)
  else s'

/-- FAILED_ATTEMPT (R160, R161, R162): a bit error or an arbitration fault. -/
def execFailedAttempt (s : State) : Host.Outcome State Fault Refusal :=
  match s.hall.attempt with
  | none => .next s
  | some f => .next ((s.failAttempt f).finish s.link.nextId .owedFirst)

/-- The completion of this station's CLAIM puts its claim into HOLDOFF (R115). -/
def State.claimSent (letter block : Nat) (s : State) : State :=
  match s.slotOf letter with
  | none => s
  | some k => s.modifySlot k fun x =>
      if x.claim = .queued block then { x with claim := .holdoff block Config.holdoffMs } else x

/-- What a transmit completion tells the owner: a CLAIM's allocator and a JOIN's controller; for every other kind nothing
(R115, R154, R163). -/
def State.frameSent (f : Frame) (s : State) : State :=
  match f.body with
  | .claim letter block => s.claimSent letter block
  | .join _ => s.onHall fun h => if h.state = .joining then { h with census := some 0 } else h
  | .holds _ _ | .alive | .held _ _ | .spent _ _ | .posted _ _ _ _ _ | .bagnext _ _ | .cutover _ => s

/-- A transmit completion (R163): the frame leaves the queue, and the fall makes an offering and a serving due (R158). -/
def State.transmitted (f : Frame) (acknowledged : Bool) (s : State) : State :=
  ((s.onHall fun h =>
    { h with
      queue := h.queue.eraseP fun q => decide (q.frame = f)
      attempt := none, failures := 0, lineFault := false, silence := 0
      unacknowledged := if acknowledged then h.unacknowledged else sat Config.max16 (h.unacknowledged + 1) }
    ).frameSent f).dueOffer.dueServe

/-- TRANSMIT_COMPLETION (R163); `acknowledged` is what the acknowledge slot read. -/
def execTransmitCompletion (acknowledged : Bool) (order : RoomOrder) (s : State) :
    Host.Outcome State Fault Refusal :=
  match s.hall.attempt with
  | none => .next s
  | some f => .next ((s.transmitted f acknowledged).finish s.link.nextId order)

/-! ### Timers (R154, R166, R167) -/

/-- The peers that are LIVE (R154). -/
def Hall.livePeers (h : Hall) : Nat := (h.peers.filter fun p => decide (p.liveness = .live)).length

/-- The census expires (R154). The needs of the slots are tested in ascending slot order (DESIGN CHOICE, log 38). -/
def State.endCensus (s : State) : State :=
  let s1 := s.onHall fun h => { h with census := none, state := .joined }
  let s2 := s1.notify (.joined s1.hall.livePeers)
  ((List.range Config.slots).foldl (fun t k => t.testNeed k) s2).dueServe

/-- CENSUS_TIMER_EXPIRY (R154): the clock runs to the census timer's 1 s (log 2). -/
def execCensusTimerExpiry (order : RoomOrder) (s : State) : Host.Outcome State Fault Refusal :=
  match s.hall.census with
  | none => .next s
  | some t => .next ((s.elapse (Config.censusMs - t)).endCensus.finish s.link.nextId order)

/-- SILENCE_TIMER_EXPIRY (R167): the clock runs to the silence timer's 2 s (log 2), and an ALIVE is offered. -/
def execSilenceTimerExpiry (s : State) : Host.Outcome State Fault Refusal :=
  .next (if s.sends then
    let s1 := (s.elapse (Config.silenceMs - s.hall.silence)).onHall fun h => { h with silence := 0 }
    if s1.isQueued .alive = false ∧ admits s1.hall.queue .low = true then s1.enqueue .alive else s1
  else s)

/-- LIVENESS_SILENT (R166): the clock runs to the LIVE entry's 6 s (log 2), and it becomes SILENT. -/
def execLivenessSilent (station : Nat) (s : State) : Host.Outcome State Fault Refusal :=
  match s.hall.peers[station]? with
  | none => .next s
  | some p =>
    if p.liveness = .live then
      .next ((s.elapse (Config.silentMs - p.ageMs)).modifyPeer station fun x => { x with liveness := .silent })
    else .next s

end Sys2Proof.Machine
end

