-- ==== Sys2Proof/Machine/Operands.lean ====
section
/-! DEFINITION. The operand forms of the requests: how the body of each request kind is laid out in bytes (R195), read
from a received message and, for the statements about that reading, written. -/

namespace Sys2Proof.Machine

/-- The number a list of bytes spells, most significant first (R193). -/
def beNat (bytes : List Byte) : Nat := bytes.foldl (fun n b => 256 * n + b.toNat) 0

/-- The number a list of bytes spells, least significant first; the beam masks of START (R195). -/
def leNat : List Byte → Nat
  | [] => 0
  | b :: bs => b.toNat + 256 * leNat bs

/-- The `w` bytes from byte `at_` of a body. -/
def slice (body : List Byte) (at_ w : Nat) : List Byte := (body.drop at_).take w

/-- The unsigned field of `w` bytes at byte `at_` (R193, R195). -/
def field (body : List Byte) (at_ w : Nat) : Nat := beNat (slice body at_ w)

/-- The signed field of two bytes at byte `at_` (R193, R195). -/
def fieldInt (body : List Byte) (at_ : Nat) : Int :=
  let n := field body at_ 2
  if n < 32768 then n else (n : Int) - 65536

/-- The beam mask of 16 bytes at byte `at_`: beam n is bit n mod 8 of byte n div 8 (R195). -/
def fieldMask (body : List Byte) (at_ : Nat) : BeamSet := BitVec.ofNat 128 (leNat (slice body at_ 16))

/-- The flags of a MAPLOAD span: the flag for start block + n is bit 7 − (n mod 8) of byte n div 8 (R195). -/
def fieldSpan (body : List Byte) (at_ : Nat) : List Bool := (slice body at_ 8).flatMap byteBits

/-- The product record of 21 bytes at byte `at_` of START's body (R195). -/
def fieldProduct (body : List Byte) (at_ : Nat) : ProductRecord :=
  { enabled := field body at_ 1, letter := field body (at_ + 1) 1, first := field body (at_ + 2) 2,
    count := field body (at_ + 4) 2, volumetric := field body (at_ + 6) 1, maxWeight := field body (at_ + 7) 2,
    longSide := field body (at_ + 9) 2, girth := field body (at_ + 11) 2, absLength := field body (at_ + 13) 2,
    absGirth := field body (at_ + 15) 2, maxValue := field body (at_ + 17) 4 }

/-- The body of START (R195). -/
def fieldStart (body : List Byte) : StartBody :=
  { office := field body 0 2, group := field body 2 1, divisor := field body 3 2, ru := field body 5 1,
    lowWater := field body 6 2, strict := field body 8 1, weightLimit := field body 9 2,
    itemLimit := field body 11 1, quoteLife := field body 12 2, settleCount := field body 14 1,
    settleBand := field body 15 1, cellEnable := field body 16 1,
    zeros := [fieldInt body 17, fieldInt body 19, fieldInt body 21, fieldInt body 23],
    factors := [field body 25 2, field body 27 2, field body 29 2, field body 31 2],
    nominal := field body 33 2, widthMask := fieldMask body 35, heightMask := fieldMask body 51,
    products := (List.range 8).map fun i => fieldProduct body (67 + 21 * i) }

/-- The body of RATE (R195). -/
def fieldRate (body : List Byte) : RateBody :=
  { letter := field body 0 1, destination := field body 1 4, declaredValue := field body 5 4,
    flags := field body 9 1, manualWeight := field body 10 2, len1 := field body 12 2, len2 := field body 14 2,
    len3 := field body 16 2 }

/-- The request a message's kind and body make. A kind that the table of R195 does not list, or a body whose length is not
the table's, is `unknown`: it fails test 2 of R177. -/
def requestOfBody (kind : Nat) (body : List Byte) : Request :=
  match kind, body.length with
  | 1, 235 => .start (fieldStart body)
  | 2, 1 => .status (field body 0 1)
  | 3, 0 => .restart
  | 4, 0 => .zero
  | 5, 11 => .mapLoad (field body 0 1) (field body 1 2) (fieldSpan body 3)
  | 6, 0 => .logTake
  | 7, 2 => .bankOpen (field body 0 1) (field body 1 1)
  | 8, 3 => .cell (field body 0 1) (field body 1 1) (field body 2 1)
  | 9, 20 => .band (field body 0 4) (field body 4 4) (field body 8 4) (field body 12 4) (field body 16 4)
  | 10, 11 => .zone (field body 0 4) (field body 4 4) (field body 8 1) (field body 9 1) (field body 10 1)
  | 11, 19 => .surch (field body 0 1) (field body 1 4) (field body 5 4) (field body 9 2) (field body 11 4)
      (field body 15 4)
  | 12, 6 => .bankClose (field body 0 2) (field body 2 2) (field body 4 2)
  | 13, 2 => .swap (field body 0 1) (field body 1 1)
  | 14, 18 => .rate (fieldRate body)
  | 15, 2 => .commit (field body 0 2)
  | 16, 2 => .cancel (field body 0 2)
  | 17, 1 => .bagClose (field body 0 1)
  | k, _ => .unknown k

/-- The 16 bytes of a beam mask (R195). -/
def maskBytes (mask : BeamSet) : List Byte :=
  (List.range 16).map fun i => BitVec.ofNat 8 (mask.toNat / 256 ^ i)

/-- The bytes of a list of flags, eight to a byte, the first the most significant bit (R195). -/
def spanBytes (span : List Bool) : List Byte :=
  (List.range 8).map fun i => BitVec.ofNat 8 (natOfBits ((span.drop (8 * i)).take 8))

/-- The 21 bytes of a product record (R195). -/
def productBytes (p : ProductRecord) : List Byte :=
  be 1 p.enabled ++ be 1 p.letter ++ be 2 p.first ++ be 2 p.count ++ be 1 p.volumetric ++ be 2 p.maxWeight
    ++ be 2 p.longSide ++ be 2 p.girth ++ be 2 p.absLength ++ be 2 p.absGirth ++ be 4 p.maxValue

/-- The body bytes of a request, as a sender lays them out (R195). -/
def requestBody : Request → List Byte
  | .start b =>
      be 2 b.office ++ be 1 b.group ++ be 2 b.divisor ++ be 1 b.ru ++ be 2 b.lowWater ++ be 1 b.strict
        ++ be 2 b.weightLimit ++ be 1 b.itemLimit ++ be 2 b.quoteLife ++ be 1 b.settleCount ++ be 1 b.settleBand
        ++ be 1 b.cellEnable ++ b.zeros.flatMap (beInt 2) ++ b.factors.flatMap (be 2) ++ be 2 b.nominal
        ++ maskBytes b.widthMask ++ maskBytes b.heightMask ++ b.products.flatMap productBytes
  | .status sect => be 1 sect
  | .restart => []
  | .zero => []
  | .mapLoad letter startBlock span => be 1 letter ++ be 2 startBlock ++ spanBytes span
  | .logTake => []
  | .bankOpen bank openDefault => be 1 bank ++ be 1 openDefault
  | .cell letter zone bandCount => be 1 letter ++ be 1 zone ++ be 1 bandCount
  | .band u p0 i sw p1 => be 4 u ++ be 4 p0 ++ be 4 i ++ be 4 sw ++ be 4 p1
  | .zone low high zone route flags => be 4 low ++ be 4 high ++ be 1 zone ++ be 1 route ++ be 1 flags
  | .surch letter oversize irregular remoteRate insuranceUnit insurancePrice =>
      be 1 letter ++ be 4 oversize ++ be 4 irregular ++ be 2 remoteRate ++ be 4 insuranceUnit
        ++ be 4 insurancePrice
  | .bankClose version count sum => be 2 version ++ be 2 count ++ be 2 sum
  | .swap bank scope => be 1 bank ++ be 1 scope
  | .rate b =>
      be 1 b.letter ++ be 4 b.destination ++ be 4 b.declaredValue ++ be 1 b.flags ++ be 2 b.manualWeight
        ++ be 2 b.len1 ++ be 2 b.len2 ++ be 2 b.len3
  | .commit number => be 2 number
  | .cancel number => be 2 number
  | .bagClose route => be 1 route
  | .unknown _ => []

/-- The content of a request message: tag, kind, body (R194). -/
def requestContent (tag : Nat) (r : Request) : List Byte := be 1 tag ++ be 1 r.kind ++ requestBody r

end Sys2Proof.Machine
end

