-- ==== Sys2Proof/Machine/Status.lean ====
section
/-! DEFINITION. STATUS (R183): each of the nine sections, read whole from the state as it stands. -/

namespace Sys2Proof.Machine

/-- SCALE (R21). -/
def State.scaleReport (s : State) : ScaleReport :=
  { scale := s.weighing.scale, weight := s.weighing.weightField, stable := s.weighing.scale.stable,
    zo := s.weighing.zo, zinit := s.weighing.zinit, settleNumber := s.weighing.settleNumber,
    parcel := s.weighing.parcel }

/-- GAUGE (R38): in IDLE the pass fields are absent. -/
def State.gaugeReport (s : State) : GaugeReport :=
  { pass := s.gauge.pass, accepted := s.gauge.accepted,
    fields := if s.gauge.pass = .idle then none else some
      { length := s.gauge.length, width := s.gauge.width, height := s.gauge.height, scanCount := s.gauge.scanCount,
        edge := s.gauge.edge, irregular := s.gauge.irregular },
    slot := s.gauge.slot, discardCount := s.gauge.discardCount, replacedCount := s.gauge.replacedCount,
    stallCount := s.gauge.stallCount, encoderErrors := s.gauge.encoderErrors }

/-- One bank of TARIFF (R60). -/
def Bank.report (b : Bank) : BankReport :=
  { state := b.state, version := b.version, refs := b.refs, openDefault := b.openDefault, cells := b.cells.length,
    bands := b.bands.length, zones := b.zones.length, surcharges := b.surcharges.length }

/-- TARIFF (R60). -/
def State.tariffReport (s : State) : TariffReport :=
  { bankA := s.tariff.bankA.report, bankB := s.tariff.bankB.report,
    load := (s.bankIn .loading).map fun _ =>
      { records := s.tariff.cursor.records, sum := s.tariff.cursor.sum,
        expected := s.tariff.cursor.openCell.map (·.expected) },
    owedCutover := s.tariff.owedCutover }

/-- One quote of QUOTES (R103); the age in whole seconds. -/
def Quote.report (q : Quote) : QuoteReport :=
  { number := q.number, committing := decide (q.state ≠ .opened), letter := q.result.letter, bank := q.result.bank,
    version := q.result.version, route := q.result.route, total := q.result.price.total, age := q.ageMs / 1000 }

/-- QUOTES (R103). -/
def State.quotesReport (s : State) : QuotesReport :=
  { records := s.quotes.records.map Quote.report, pendingOrder := s.quotes.pendingOrder,
    nextNumber := s.quotes.nextNumber, waiting := s.quotes.waiting.map fun w => (w.ref.tag, w.timer) }

/-- One slot of NUMBERS (R132); its configuration fields are absent before START (R183), and a slot that is not enabled has no
search cursor (R134). -/
def Slot.report (started : Bool) (k : Slot) : SlotReport :=
  { config := if started then
      some { letter := k.letter, enabled := k.enabled, first := k.first, count := k.count } else none,
    supply := k.supply, current := k.current.map fun c => (c.block, c.left), reserve := k.reserve, claim := k.claim,
    cursor := if k.enabled then some k.cursor else none, free := k.free, owedHeld := k.owedHeld.length,
    owedSpent := k.owedSpent.length, owedHolds := k.holdsOwed.toNat }

/-- NUMBERS (R132, R183). -/
def State.numbersReport (s : State) : NumbersReport :=
  { slots := s.alloc.slots.map (Slot.report s.started), logCount := s.alloc.log.length, overflow := s.alloc.overflow }

/-- One station of PEERS (R132, R170); the age in whole seconds. -/
def State.peerReport (s : State) (station : Nat) : PeerReport :=
  let p := (s.hall.peers[station]?).getD .reset
  { liveness := p.liveness, age := p.ageMs / 1000, lastGroup := p.lastGroup, office := p.office,
    holdings := (s.alloc.column[station]?).getD [] }

/-- PEERS: each station other than this one, in ascending order (R132, R170). -/
def State.peersReport (s : State) : List PeerReport :=
  ((List.range Config.stations).filter fun n => n != s.hall.station).map s.peerReport

/-- BAGS (R149); the limits are absent before START. -/
def State.bagsReport (s : State) : BagsReport :=
  { weightLimit := s.setup.map (·.weightLimit), itemLimit := s.setup.map (·.itemLimit), rows := s.bags.rows,
    lateCount := s.bags.lateCount }

/-- The frames of a class the queue holds (R170). -/
def Hall.queuedOf (h : Hall) (c : FrameClass) : Nat := h.queue.countP fun q => decide (q.frame.frameClass = c)

/-- LINE (R170). In JOINING `census` tells by its presence that the JOIN has been sent. -/
def State.lineReport (s : State) : LineReport :=
  { station := s.hall.station, group := s.setup.map (·.group), state := s.hall.state, census := s.hall.census,
    queued := s.hall.queue.length, urgent := s.hall.queuedOf .urgent, normal := s.hall.queuedOf .normal,
    low := s.hall.queuedOf .low, head := s.hall.queue.head?.map (·.frame.body.kind), owedJoin := s.hall.owedJoin,
    attempting := s.hall.attempt.isSome, failures := s.hall.failures, lineFault := s.hall.lineFault,
    receiveErrors := s.hall.receiveErrors, unacknowledged := s.hall.unacknowledged }

/-- LINK (R183). The STATUS that asks is already outstanding. -/
def State.linkReport (s : State) : LinkReport :=
  { started := s.started, outstanding := s.link.outstanding.length, output := s.link.output.length,
    noticeSeq := s.link.noticeSeq, linkErrors := s.link.linkErrors, dropped := s.link.dropped }

/-- The section a STATUS names by 1..9 (R183, R195). -/
def State.report (s : State) (sect : Nat) : Option Report :=
  match sect with
  | 1 => some (.scale s.scaleReport)
  | 2 => some (.gauge s.gaugeReport)
  | 3 => some (.tariff s.tariffReport)
  | 4 => some (.quotes s.quotesReport)
  | 5 => some (.numbers s.numbersReport)
  | 6 => some (.peers s.peersReport)
  | 7 => some (.bags s.bagsReport)
  | 8 => some (.line s.lineReport)
  | 9 => some (.link s.linkReport)
  | _ => none

/-- STATUS: the named section, or the refusal of one that does not exist (R181, R183). It changes nothing else. -/
def State.takeStatus (r : RequestRef) (sect : Nat) (s : State) : State :=
  match s.report sect with
  | some report => s.done r (.status report)
  | none => s.refuse r .badRequest

end Sys2Proof.Machine
end

