-- ==== Sys2Proof/Machine/Link.lean ====
section
/-! DEFINITION. The counter link (09): the parser, the taking of requests with the link's tests, START, STATUS and
RESTART, and the transmission of messages; with the meanings of the requests of every block and of POWER_ON_RESET. -/

namespace Sys2Proof.Machine

/-- Changes the counter link. -/
def State.onLink (f : Link → Link) (s : State) : State := { s with link := f s.link }

/-! ### START (R182) -/

/-- A field, or its default when it holds the value that stands for its absence (R182, R195). -/
def orDefault (absent default_ n : Nat) : Nat := if n = absent then default_ else n

/-- A number lies in a range. -/
def within (lo hi n : Nat) : Bool := decide (lo ≤ n ∧ n ≤ hi)

/-- Each field of a product record lies in its range, and the window ends at 9999 or below (9.4, R182). -/
def productGood (p : ProductRecord) : Bool :=
  within 0 1 p.enabled && within 1 26 p.letter && within 0 9999 p.first && within 1 1024 p.count
    && within 0 1 p.volumetric && within 1 40000 p.maxWeight && within 1 10000 p.longSide && within 1 10000 p.girth
    && within 1 10000 p.absLength && within 1 10000 p.absGirth && within 0 9999999 p.maxValue
    && decide (p.first + p.count - 1 ≤ Config.maxBlock)

/-- The channels the cell enable byte names (R195). -/
def startChannels (b : StartBody) : List Nat := [1, 2, 3, 4].filter fun k => b.cellEnable.testBit (k - 1)

/-- The station, rating, number, bag and quote fields of START lie in their ranges (9.4). -/
def startStationGood (b : StartBody) : Bool :=
  within 0 9999 b.office && within 0 15 b.group && within 1000 10000 b.divisor && decide (b.ru ∈ [1, 5, 10])
    && within 0 999 (orDefault 65535 100 b.lowWater) && within 0 1 b.strict && within 1000 30000 b.weightLimit
    && within 1 250 b.itemLimit && within 60 1800 (orDefault 0 300 b.quoteLife)

/-- The scale fields of START lie in their ranges; zeros and factors are checked for the enabled channels alone (9.4,
R182). -/
def startScaleGood (b : StartBody) : Bool :=
  within 2 8 (orDefault 0 4 b.settleCount) && within 1 4 (orDefault 0 1 b.settleBand) && within 1 15 b.cellEnable
    && within 1000 32000 b.nominal
    && (startChannels b).all fun k =>
      within 1 65535 (b.factors.getD (k - 1) 0)
        && decide (-32768 ≤ b.zeros.getD (k - 1) 0 ∧ b.zeros.getD (k - 1) 0 ≤ 32767)

/-- The whole check of START (R182). -/
def startGood (b : StartBody) : Bool :=
  startStationGood b && startScaleGood b && b.products.all productGood && decide (b.products.map (·.letter)).Nodup

/-- A product record as it is configured (R64, R107). -/
def configuredProduct (p : ProductRecord) : Product :=
  { enabled := p.enabled == 1, letter := p.letter, first := p.first, count := p.count,
    volumetric := p.volumetric == 1, maxWeight := p.maxWeight, longSide := p.longSide, girth := p.girth,
    absLength := p.absLength, absGirth := p.absGirth, maxValue := p.maxValue }

/-- The configuration that an accepted START makes (R1, R24, R64, R83, R107, R136, R153). -/
def startSetup (b : StartBody) : Setup :=
  { office := b.office, group := b.group, divisor := b.divisor, roundingUnit := b.ru,
    lowWater := orDefault 65535 100 b.lowWater, strictWindow := b.strict == 1, weightLimit := b.weightLimit,
    itemLimit := b.itemLimit, quoteLife := orDefault 0 300 b.quoteLife,
    settleCount := orDefault 0 4 b.settleCount, settleBand := orDefault 0 1 b.settleBand,
    cells := (startChannels b).map fun k =>
      { channel := k, zero := b.zeros.getD (k - 1) 0, factor := b.factors.getD (k - 1) 0 },
    nominal := b.nominal, widthMask := b.widthMask, heightMask := b.heightMask,
    products := b.products.map configuredProduct }

/-- Every block takes its configuration (R182). -/
def State.configure (cfg : Setup) (s : State) : State :=
  { s with setup := some cfg, alloc := { s.alloc with slots := cfg.products.map Slot.configured } }

/-- START in STARTING (R182). -/
def State.takeStart (r : RequestRef) (b : StartBody) (s : State) : State :=
  if startGood b then
    let s' := (s.configure (startSetup b)).joinHall b.group
    s'.done r (.start s'.hall.station s'.hall.state)
  else s.refuse r .badRequest

/-! ### RESTART (R186) -/

/-- RESTART at every block (R23, R40, R62, R105), and its own reply after those it makes (R186). -/
def State.takeRestart (r : RequestRef) (s : State) : State :=
  ((s.restartWeighing.onGauge Gauge.restart).restartTariff.restartQuotes).done r (.restart s.restartAnswers)

/-! ### Taking a request (R177, R181) -/

/-- A letter A..Z (R193). -/
def isLetter (letter : Nat) : Bool := within 1 26 letter

/-- The link's field checks and the handing of a request to its owner, after START has been accepted (R181). -/
def State.handRequest (r : RequestRef) (request : Request) (s : State) : State :=
  match request with
  | .start _ => s.refuse r .already
  | .status sect => s.takeStatus r sect
  | .restart => s.takeRestart r
  | .zero => s.takeZero r
  | .mapLoad letter startBlock span =>
    if isLetter letter then s.mapLoad r letter startBlock span else s.refuse r .badRequest
  | .logTake => s.logTake r
  | .bankOpen bank openDefault => s.bankOpen r bank openDefault
  | .cell letter zone bandCount => s.loadCell r letter zone bandCount
  | .band u p0 i sw p1 => s.loadBand r u p0 i sw p1
  | .zone low high zone route flags => s.loadZone r low high zone route flags
  | .surch letter oversize irregular remoteRate insuranceUnit insurancePrice =>
    s.loadSurch r letter oversize irregular remoteRate insuranceUnit insurancePrice
  | .bankClose version count sum => s.bankClose r version count sum
  | .swap bank scope => s.swap r bank scope
  | .rate body => if rateFieldsGood body then s.takeRate r body else s.refuse r .badRequest
  | .commit number => if within 1 Config.max16 number then s.takeCommit r number else s.refuse r .badRequest
  | .cancel number => if within 1 Config.max16 number then s.takeCancel r number else s.refuse r .badRequest
  | .bagClose route => if route < Config.routes then s.bagClose r route else s.refuse r .badRequest
  | .unknown _ => s.refuse r .badRequest

/-- A request before START (R177, R181). -/
def State.handEarly (r : RequestRef) (request : Request) (s : State) : State :=
  match request with
  | .start body => s.takeStart r body
  | .status sect => s.takeStatus r sect
  | .unknown _ => s.refuse r .badRequest
  | .restart | .zero | .mapLoad _ _ _ | .logTake | .bankOpen _ _ | .cell _ _ _ | .band _ _ _ _ _ | .zone _ _ _ _ _
  | .surch _ _ _ _ _ _ | .bankClose _ _ _ | .swap _ _ | .rate _ | .commit _ | .cancel _ | .bagClose _ =>
    s.refuse r .notStarted

/-- The discard of a message (R176). -/
def Link.discard (l : Link) : Link :=
  { l with parser := .hunt, received := [], declared := 0, gapTimer := 0, linkErrors := sat Config.max16 (l.linkErrors + 1) }

/-- The kind byte of RESTART (R195). -/
def restartKind : Nat := 3

/-- Test 1 of R177 turns a request of this kind away; a RESTART passes as a ninth when no other is outstanding (R180). -/
def Link.full (l : Link) (kind : Nat) : Bool :=
  decide (Config.maxOutstanding ≤ l.outstanding.length)
    && !(kind == restartKind && l.outstanding.all fun o => o.kind != restartKind)

/-- A request joins the outstanding list (R177). -/
def Link.join (tag kind : Nat) (l : Link) : Link :=
  { l with outstanding := l.outstanding ++ [{ id := l.nextId, tag := tag, kind := kind }], nextId := l.nextId + 1 }

/-- A request is taken (R177). -/
def State.takeRequest (tag : Nat) (request : Request) (s : State) : State :=
  if s.link.full request.kind then
    if s.link.output.length ≥ Config.noticeLevel then s.onLink Link.discard
    else s.produce (.reply none tag (.refused .busy none))
  else
    let r : RequestRef := { id := s.link.nextId, tag := tag }
    let s' := s.onLink (Link.join tag request.kind)
    if s'.started then s'.handRequest r request else s'.handEarly r request

/-- The meaning of a request: it is taken, and the event ends (R177 to R181). -/
def takeWhole (tag : Nat) (request : Request) (s : State) : State :=
  (s.takeRequest tag request).finish s.link.nextId .owedFirst

/-! ### The parser (R174 to R176) -/

/-- No message in reception. -/
def Link.hunting (l : Link) : Link := { l with parser := .hunt, received := [], declared := 0, gapTimer := 0 }

/-- A byte of the message in reception is held, and the gap timer restarts (R175). -/
def Link.hold (byte : Byte) (l : Link) : Link := { l with received := l.received ++ [byte], gapTimer := 0 }

/-- The check of the message in reception is good (R175, R194). -/
def goodCheck (declared : Nat) (received : List Byte) : Bool :=
  (checkOf ((received.take (2 + declared)).flatMap byteBits)).toNat == beNat (slice received (2 + declared) 2)

/-- The request of a received message (R175, R194, R195). -/
def receivedRequest (declared : Nat) (received : List Byte) : Nat × Request :=
  (field received 2 1, requestOfBody (field received 3 1) (slice received 4 (declared - 2)))

/-- A byte is received (R174, R175). -/
def State.takeByte (byte : Byte) (framingError : Bool) (s : State) : State :=
  let l := s.link
  match l.parser with
  | .hunt =>
    if !framingError && byte == Config.startByte then
      s.onLink fun l => { l with parser := .length, received := [], declared := 0, gapTimer := 0 }
    else s
  | .length =>
    if framingError then s.onLink Link.discard
    else
      let h := l.hold byte
      if h.received.length < 2 then s.onLink fun _ => h
      else
        let n := beNat h.received
        if within 2 1024 n then s.onLink fun _ => { h with parser := .content, declared := n }
        else s.onLink Link.discard
  | .content =>
    if framingError then s.onLink Link.discard
    else
      let h := l.hold byte
      s.onLink fun _ => if h.received.length < 2 + l.declared then h else { h with parser := .check }
  | .check =>
    if framingError then s.onLink Link.discard
    else
      let h := l.hold byte
      if h.received.length < 4 + l.declared then s.onLink fun _ => h
      else if goodCheck l.declared h.received then
        let taken := receivedRequest l.declared h.received
        (s.onLink Link.hunting).takeRequest taken.1 taken.2
      else s.onLink Link.discard

/-! ### Transmission (R178, R179) -/

/-- The transmission of the head of the output queue begins (R179). -/
def Link.beginMessage (l : Link) : Link :=
  match l.onLine, l.output with
  | none, m :: _ => { l with onLine := some m.bytes }
  | none, [] => l
  | some _, _ => l

/-- The request a message answers. -/
def OutMsg.request? : OutMsg → Option Nat
  | .reply request _ _ => request
  | .notice _ _ => none

/-- The transmission of a message completes: it leaves the output queue, and a reply's request leaves the outstanding list
(R178, R179). -/
def Link.completeMessage (l : Link) : Link :=
  match l.onLine, l.output with
  | some _, m :: rest =>
    { l with
      onLine := none, output := rest
      outstanding := l.outstanding.filter fun o => m.msg.request? != some o.id }
  | some _, [] => { l with onLine := none }
  | none, _ => l

/-! ### Meanings: reset, START, STATUS and RESTART -/

/-- POWER_ON_RESET (R22, R39, R61, R104, R134, R150, R152, R171, R188): every block at its initial state, with the
station number latched from the strap pins. The free values drawn are not drawn again (log 13). -/
def execPowerOnReset (straps : Nat) (s : State) : Host.Outcome State Fault Refusal :=
  .next { State.powerOn straps s.pending with draws := s.draws }

/-- START (R182). -/
def execStart (tag : Nat) (body : StartBody) (s : State) : Host.Outcome State Fault Refusal :=
  .next (takeWhole tag (.start body) s)

/-- STATUS (R183). -/
def execStatus (tag sect : Nat) (s : State) : Host.Outcome State Fault Refusal :=
  .next (takeWhole tag (.status sect) s)

/-- RESTART (R186). -/
def execRestart (tag : Nat) (s : State) : Host.Outcome State Fault Refusal := .next (takeWhole tag .restart s)

/-! ### Meanings: the requests of the blocks -/

/-- ZERO (R18). -/
def execZero (tag : Nat) (s : State) : Host.Outcome State Fault Refusal := .next (takeWhole tag .zero s)

/-- MAPLOAD (R109). -/
def execMapLoad (tag letter startBlock : Nat) (span : List Bool) (s : State) : Host.Outcome State Fault Refusal :=
  .next (takeWhole tag (.mapLoad letter startBlock span) s)

/-- LOGTAKE (R131). -/
def execLogTake (tag : Nat) (s : State) : Host.Outcome State Fault Refusal := .next (takeWhole tag .logTake s)

/-- BANKOPEN (R41). -/
def execBankOpen (tag bank openDefault : Nat) (s : State) : Host.Outcome State Fault Refusal :=
  .next (takeWhole tag (.bankOpen bank openDefault) s)

/-- CELL (R43). -/
def execCell (tag letter zone bandCount : Nat) (s : State) : Host.Outcome State Fault Refusal :=
  .next (takeWhole tag (.cell letter zone bandCount) s)

/-- BAND (R44). -/
def execBand (tag u p0 i sw p1 : Nat) (s : State) : Host.Outcome State Fault Refusal :=
  .next (takeWhole tag (.band u p0 i sw p1) s)

/-- ZONE (R45). -/
def execZone (tag low high zone route flags : Nat) (s : State) : Host.Outcome State Fault Refusal :=
  .next (takeWhole tag (.zone low high zone route flags) s)

/-- SURCH (R46). -/
def execSurch (tag letter oversize irregular remoteRate insuranceUnit insurancePrice : Nat) (s : State) :
    Host.Outcome State Fault Refusal :=
  .next (takeWhole tag (.surch letter oversize irregular remoteRate insuranceUnit insurancePrice) s)

/-- BANKCLOSE (R49). -/
def execBankClose (tag version count sum : Nat) (s : State) : Host.Outcome State Fault Refusal :=
  .next (takeWhole tag (.bankClose version count sum) s)

/-- SWAP (R51). -/
def execSwap (tag bank scope : Nat) (s : State) : Host.Outcome State Fault Refusal :=
  .next (takeWhole tag (.swap bank scope) s)

/-- RATE (R65, R85). -/
def execRate (tag : Nat) (body : RateBody) (s : State) : Host.Outcome State Fault Refusal :=
  .next (takeWhole tag (.rate body) s)

/-- COMMIT (R93). -/
def execCommit (tag number : Nat) (s : State) : Host.Outcome State Fault Refusal :=
  .next (takeWhole tag (.commit number) s)

/-- CANCEL (R92). -/
def execCancel (tag number : Nat) (s : State) : Host.Outcome State Fault Refusal :=
  .next (takeWhole tag (.cancel number) s)

/-- BAGCLOSE (R145). -/
def execBagClose (tag route : Nat) (s : State) : Host.Outcome State Fault Refusal :=
  .next (takeWhole tag (.bagClose route) s)

/-- UNKNOWN_REQUEST_KIND (R177): a message with a good check that test 2 refuses, unless test 1 comes first. -/
def execUnknownRequestKind (tag kind : Nat) (s : State) : Host.Outcome State Fault Refusal :=
  .next (takeWhole tag (.unknown kind) s)

/-! ### Meanings: the line -/

/-- BYTE_RECEIVED (R174, R175). -/
def execByteReceived (byte : Byte) (framingError : Bool) (s : State) : Host.Outcome State Fault Refusal :=
  .next ((s.takeByte byte framingError).finish s.link.nextId .owedFirst)

/-- LINK_MESSAGE_DISCARD (R176): the message in reception is discarded. Bytes with their causes come as BYTE_RECEIVED;
without a message in reception there is none to discard (log 3). -/
def execLinkMessageDiscard (s : State) : Host.Outcome State Fault Refusal :=
  .next (if s.link.parser = .hunt then s else s.onLink Link.discard)

/-- GAP_TIMER_EXPIRY (R175): the clock runs to the timer's 20 ms (log 2), and the message in reception is discarded. -/
def execGapTimerExpiry (s : State) : Host.Outcome State Fault Refusal :=
  .next (if s.link.parser = .hunt then s
    else (s.elapse (Config.gapMs - s.link.gapTimer)).onLink Link.discard)

/-- MESSAGE_TRANSMISSION_BEGIN (R179). -/
def execMessageTransmissionBegin (s : State) : Host.Outcome State Fault Refusal :=
  .next (s.onLink Link.beginMessage)

/-- MESSAGE_TRANSMISSION_COMPLETE (R178). -/
def execMessageTransmissionComplete (s : State) : Host.Outcome State Fault Refusal :=
  .next (s.onLink Link.completeMessage)

end Sys2Proof.Machine
end

