-- ==== Sys2Proof/Machine/Dispatch.lean ====
section
/-! DEFINITION. The commands' meanings, one arm per constructor of Instr. -/

namespace Sys2Proof.Machine

def exec (i : Instr) (s : State) : Host.Outcome State Fault Refusal :=
  match i with
  | .powerOnReset straps => Sys2Proof.Machine.execPowerOnReset straps s
  | .start tag body => Sys2Proof.Machine.execStart tag body s
  | .status tag sect => Sys2Proof.Machine.execStatus tag sect s
  | .restart tag => Sys2Proof.Machine.execRestart tag s
  | .zero tag => Sys2Proof.Machine.execZero tag s
  | .mapLoad tag letter startBlock span => Sys2Proof.Machine.execMapLoad tag letter startBlock span s
  | .logTake tag => Sys2Proof.Machine.execLogTake tag s
  | .bankOpen tag bank openDefault => Sys2Proof.Machine.execBankOpen tag bank openDefault s
  | .cell tag letter zone bandCount => Sys2Proof.Machine.execCell tag letter zone bandCount s
  | .band tag u p0 interval sw p1 => Sys2Proof.Machine.execBand tag u p0 interval sw p1 s
  | .zone tag low high zone route flags => Sys2Proof.Machine.execZone tag low high zone route flags s
  | .surch tag letter oversize irregular remoteRate insuranceUnit insurancePrice => Sys2Proof.Machine.execSurch tag letter oversize irregular remoteRate insuranceUnit insurancePrice s
  | .bankClose tag version count sum => Sys2Proof.Machine.execBankClose tag version count sum s
  | .swap tag bank scope => Sys2Proof.Machine.execSwap tag bank scope s
  | .rate tag body => Sys2Proof.Machine.execRate tag body s
  | .commit tag number => Sys2Proof.Machine.execCommit tag number s
  | .cancel tag number => Sys2Proof.Machine.execCancel tag number s
  | .bagClose tag route => Sys2Proof.Machine.execBagClose tag route s
  | .linkMessageDiscard => Sys2Proof.Machine.execLinkMessageDiscard s
  | .gapTimerExpiry => Sys2Proof.Machine.execGapTimerExpiry s
  | .messageTransmissionBegin => Sys2Proof.Machine.execMessageTransmissionBegin s
  | .messageTransmissionComplete => Sys2Proof.Machine.execMessageTransmissionComplete s
  | .sampleSequenceStart => Sys2Proof.Machine.execSampleSequenceStart s
  | .sequenceEnd counts reference => Sys2Proof.Machine.execSequenceEnd counts reference s
  | .waitingRateRelease => Sys2Proof.Machine.execWaitingRateRelease s
  | .waitingRateScaleRefusal => Sys2Proof.Machine.execWaitingRateScaleRefusal s
  | .settleWaitTimerExpiry => Sys2Proof.Machine.execSettleWaitTimerExpiry s
  | .gateLevelAccepted level => Sys2Proof.Machine.execGateLevelAccepted level s
  | .encoderCount direction widthBlocked heightBlocked => Sys2Proof.Machine.execEncoderCount direction widthBlocked heightBlocked s
  | .encoderError => Sys2Proof.Machine.execEncoderError s
  | .stallTimerExpiry => Sys2Proof.Machine.execStallTimerExpiry s
  | .quoteExpiry number => Sys2Proof.Machine.execQuoteExpiry number s
  | .commitCompletion number => Sys2Proof.Machine.execCommitCompletion number s
  | .holdoffExpiry slot order => Sys2Proof.Machine.execHoldoffExpiry slot order s
  | .heardClaim station group letter block order => Sys2Proof.Machine.execHeardClaim station group letter block order s
  | .heardHeld station group letter block order => Sys2Proof.Machine.execHeardHeld station group letter block order s
  | .heardSpent station group letter block order => Sys2Proof.Machine.execHeardSpent station group letter block order s
  | .heardHolds station group letter blocks order => Sys2Proof.Machine.execHeardHolds station group letter blocks order s
  | .heardPosted station group letter serial route bag weight order => Sys2Proof.Machine.execHeardPosted station group letter serial route bag weight order s
  | .heardJoin station group office => Sys2Proof.Machine.execHeardJoin station group office s
  | .heardBagnext station group route bag => Sys2Proof.Machine.execHeardBagnext station group route bag s
  | .heardCutover station group version => Sys2Proof.Machine.execHeardCutover station group version s
  | .heardAlive station group => Sys2Proof.Machine.execHeardAlive station group s
  | .frameDiscard levels => Sys2Proof.Machine.execFrameDiscard levels s
  | .owedItemEntry => Sys2Proof.Machine.execOwedItemEntry s
  | .attemptBegin => Sys2Proof.Machine.execAttemptBegin s
  | .arbitrationLost field => Sys2Proof.Machine.execArbitrationLost field s
  | .failedAttempt => Sys2Proof.Machine.execFailedAttempt s
  | .transmitCompletion acknowledged order => Sys2Proof.Machine.execTransmitCompletion acknowledged order s
  | .censusTimerExpiry order => Sys2Proof.Machine.execCensusTimerExpiry order s
  | .silenceTimerExpiry => Sys2Proof.Machine.execSilenceTimerExpiry s
  | .livenessSilent station => Sys2Proof.Machine.execLivenessSilent station s
  | .gateSample level => Sys2Proof.Machine.execGateSample level s
  | .byteReceived byte framingError => Sys2Proof.Machine.execByteReceived byte framingError s
  | .unknownRequestKind tag kind => Sys2Proof.Machine.execUnknownRequestKind tag kind s

end Sys2Proof.Machine
end

