-- ==== Sys2Proof/WellFormed.lean ====
section
/-! DEFINITION. Well-formed commands: each operand fits the field that carries it (R193, R195, R198), and lists have the lengths
the layouts give. `exec` does not test it: an ill-formed command is run as it stands (log 29). -/

namespace Sys2Proof

/-- The number fits `w` bytes. -/
def fitsBytes (w n : Nat) : Bool := decide (n < 256 ^ w)

/-- The number is a 16-bit signed one. -/
def fitsSigned (i : Int) : Bool := decide (-32768 ≤ i ∧ i ≤ 32767)

/-- The fields of a product record fit its 21 bytes (R195). -/
def ProductRecord.wf (p : ProductRecord) : Bool :=
  fitsBytes 1 p.enabled && fitsBytes 1 p.letter && fitsBytes 2 p.first && fitsBytes 2 p.count
    && fitsBytes 1 p.volumetric && fitsBytes 2 p.maxWeight && fitsBytes 2 p.longSide && fitsBytes 2 p.girth
    && fitsBytes 2 p.absLength && fitsBytes 2 p.absGirth && fitsBytes 4 p.maxValue

/-- The fields of START fit its 235 bytes (R195). -/
def StartBody.wf (b : StartBody) : Bool :=
  fitsBytes 2 b.office && fitsBytes 1 b.group && fitsBytes 2 b.divisor && fitsBytes 1 b.ru && fitsBytes 2 b.lowWater
    && fitsBytes 1 b.strict && fitsBytes 2 b.weightLimit && fitsBytes 1 b.itemLimit && fitsBytes 2 b.quoteLife
    && fitsBytes 1 b.settleCount && fitsBytes 1 b.settleBand && fitsBytes 1 b.cellEnable
    && decide (b.zeros.length = 4) && b.zeros.all fitsSigned
    && decide (b.factors.length = 4) && b.factors.all (fitsBytes 2)
    && fitsBytes 2 b.nominal && decide (b.products.length = 8) && b.products.all ProductRecord.wf

/-- The fields of RATE fit its 18 bytes (R195). -/
def RateBody.wf (b : RateBody) : Bool :=
  fitsBytes 1 b.letter && fitsBytes 4 b.destination && fitsBytes 4 b.declaredValue && fitsBytes 1 b.flags
    && fitsBytes 2 b.manualWeight && fitsBytes 2 b.len1 && fitsBytes 2 b.len2 && fitsBytes 2 b.len3

/-- The kind byte is one of the table of R195. -/
def isRequestKind (kind : Nat) : Bool := decide (1 ≤ kind ∧ kind ≤ 17)

/-- The fields of a request fit its layout (R195). -/
def Request.wf : Request → Bool
  | .start body => body.wf
  | .status sect => fitsBytes 1 sect
  | .restart | .zero | .logTake => true
  | .mapLoad letter startBlock span => fitsBytes 1 letter && fitsBytes 2 startBlock && decide (span.length = 64)
  | .bankOpen bank openDefault => fitsBytes 1 bank && fitsBytes 1 openDefault
  | .cell letter area bandCount => fitsBytes 1 letter && fitsBytes 1 area && fitsBytes 1 bandCount
  | .band u p0 i sw p1 => fitsBytes 4 u && fitsBytes 4 p0 && fitsBytes 4 i && fitsBytes 4 sw && fitsBytes 4 p1
  | .zone low high area route flags =>
    fitsBytes 4 low && fitsBytes 4 high && fitsBytes 1 area && fitsBytes 1 route && fitsBytes 1 flags
  | .surch letter oversize irregular remoteRate insuranceUnit insurancePrice =>
    fitsBytes 1 letter && fitsBytes 4 oversize && fitsBytes 4 irregular && fitsBytes 2 remoteRate
      && fitsBytes 4 insuranceUnit && fitsBytes 4 insurancePrice
  | .bankClose version count sum => fitsBytes 2 version && fitsBytes 2 count && fitsBytes 2 sum
  | .swap bank scope => fitsBytes 1 bank && fitsBytes 1 scope
  | .rate body => body.wf
  | .commit number | .cancel number => fitsBytes 2 number
  | .bagClose route => fitsBytes 1 route
  | .unknown kind => fitsBytes 1 kind && !isRequestKind kind

/-- The tag and the request of a request command. -/
def Instr.request? : Instr → Option (Nat × Request)
  | .start tag body => some (tag, .start body)
  | .status tag sect => some (tag, .status sect)
  | .restart tag => some (tag, .restart)
  | .zero tag => some (tag, .zero)
  | .mapLoad tag letter startBlock span => some (tag, .mapLoad letter startBlock span)
  | .logTake tag => some (tag, .logTake)
  | .bankOpen tag bank openDefault => some (tag, .bankOpen bank openDefault)
  | .cell tag letter area bandCount => some (tag, .cell letter area bandCount)
  | .band tag u p0 i sw p1 => some (tag, .band u p0 i sw p1)
  | .zone tag low high area route flags => some (tag, .zone low high area route flags)
  | .surch tag letter oversize irregular remoteRate insuranceUnit insurancePrice =>
    some (tag, .surch letter oversize irregular remoteRate insuranceUnit insurancePrice)
  | .bankClose tag version count sum => some (tag, .bankClose version count sum)
  | .swap tag bank scope => some (tag, .swap bank scope)
  | .rate tag body => some (tag, .rate body)
  | .commit tag number => some (tag, .commit number)
  | .cancel tag number => some (tag, .cancel number)
  | .bagClose tag route => some (tag, .bagClose route)
  | .unknownRequestKind tag kind => some (tag, .unknown kind)
  | .powerOnReset _ | .linkMessageDiscard | .gapTimerExpiry | .messageTransmissionBegin
  | .messageTransmissionComplete | .sampleSequenceStart | .sequenceEnd _ _ | .waitingRateRelease
  | .waitingRateScaleRefusal | .settleWaitTimerExpiry | .gateLevelAccepted _ | .encoderCount _ _ _ | .encoderError
  | .stallTimerExpiry | .quoteExpiry _ | .commitCompletion _ | .holdoffExpiry _ _ | .heardClaim _ _ _ _ _
  | .heardHeld _ _ _ _ _ | .heardSpent _ _ _ _ _ | .heardHolds _ _ _ _ _ | .heardPosted _ _ _ _ _ _ _ _
  | .heardJoin _ _ _ | .heardBagnext _ _ _ _ | .heardCutover _ _ _ | .heardAlive _ _ | .frameDiscard _
  | .owedItemEntry | .attemptBegin | .arbitrationLost _ | .failedAttempt | .transmitCompletion _ _
  | .censusTimerExpiry _ | .silenceTimerExpiry | .livenessSilent _ | .gateSample _ | .byteReceived _ _ => none

/-- The station and group fields of a hall frame (R198). -/
def headerFits (station group : Nat) : Bool := decide (station < 32 ∧ group < 16)

/-- A command is well formed. -/
def Instr.wf (i : Instr) : Bool :=
  match i with
  | .powerOnReset straps => decide (straps < 32)
  | .sequenceEnd counts reference => decide (counts.length = 4) && counts.all fitsSigned && fitsSigned reference
  | .quoteExpiry number | .commitCompletion number => decide (1 ≤ number ∧ number ≤ 65535)
  | .holdoffExpiry slot _ => decide (slot < 8)
  | .heardClaim station group letter block _ | .heardHeld station group letter block _
  | .heardSpent station group letter block _ => headerFits station group && fitsBytes 1 letter && fitsBytes 2 block
  | .heardHolds station group letter blocks _ =>
    headerFits station group && fitsBytes 1 letter && decide (blocks.length ≤ 2) && blocks.all (fitsBytes 2)
  | .heardPosted station group letter serial route bag weight _ =>
    headerFits station group && fitsBytes 1 letter && fitsBytes 3 serial && fitsBytes 1 route && fitsBytes 2 bag
      && fitsBytes 2 weight
  | .heardJoin station group office => headerFits station group && fitsBytes 2 office
  | .heardBagnext station group route bag => headerFits station group && fitsBytes 1 route && fitsBytes 2 bag
  | .heardCutover station group version => headerFits station group && fitsBytes 2 version
  | .heardAlive station group => headerFits station group
  | .arbitrationLost field => fitsBytes 1 field
  | .livenessSilent station => decide (station < 32)
  | i => match i.request? with
    | some (tag, request) => fitsBytes 1 tag && request.wf
    | none => true

end Sys2Proof
end

