-- ==== Sys2Proof/Safety.lean ====
section
/-! DEFINITION. What the statements about every step speak of: when a command's event can occur, and the conditions that the
rules say hold between events. -/

namespace Sys2Proof.Machine

/-! ### Which events can occur (log 3) -/

/-- The event the command stands for can occur in this state. A command whose event cannot occur changes nothing. -/
def occurs (i : Instr) (s : State) : Bool :=
  match i with
  | .linkMessageDiscard | .gapTimerExpiry => decide (s.link.parser ≠ .hunt)
  | .messageTransmissionBegin => s.link.onLine.isNone && !s.link.output.isEmpty
  | .messageTransmissionComplete => s.link.onLine.isSome
  | .sampleSequenceStart | .sequenceEnd _ _ | .gateSample _ | .encoderCount _ _ _ | .encoderError => s.started
  | .gateLevelAccepted level => s.started && decide (s.gauge.accepted ≠ level)
  | .waitingRateRelease => decide (s.weighing.scale = .settled) && s.quotes.waiting.isSome
  | .waitingRateScaleRefusal => (scaleRefusal s.weighing.scale).isSome && s.quotes.waiting.isSome
  | .settleWaitTimerExpiry => s.quotes.waiting.isSome
  | .stallTimerExpiry => decide (s.gauge.pass = .passing)
  | .quoteExpiry number => decide ((s.quote? number).map (·.state) = some .opened)
  | .commitCompletion number =>
    s.isCommitting number && ((s.quote? number).bind fun q => s.completable q).isSome
  | .holdoffExpiry slot _ => (s.alloc.slots[slot]?).any fun k => k.claim.remaining?.isSome
  | .frameDiscard levels => !(receive levels).toOption.isSome
  | .owedItemEntry => s.sends && s.owedItems.any fun item => admits s.hall.queue item.frameClass
  | .attemptBegin => s.sends && s.hall.attempt.isNone && !s.hall.queue.isEmpty
  | .arbitrationLost field => s.hall.attempt.any fun f => decide (field < f.arbitration)
  | .failedAttempt | .transmitCompletion _ _ => s.hall.attempt.isSome
  | .censusTimerExpiry _ => s.hall.census.isSome
  | .silenceTimerExpiry => s.sends
  | .livenessSilent station => (s.hall.peers[station]?).any fun p => decide (p.liveness = .live)
  | .powerOnReset _ | .start _ _ | .status _ _ | .restart _ | .zero _ | .mapLoad _ _ _ _ | .logTake _
  | .bankOpen _ _ _ | .cell _ _ _ _ | .band _ _ _ _ _ _ | .zone _ _ _ _ _ _ | .surch _ _ _ _ _ _ _
  | .bankClose _ _ _ _ | .swap _ _ _ | .rate _ _ | .commit _ _ | .cancel _ _ | .bagClose _ _
  | .heardClaim _ _ _ _ _ | .heardHeld _ _ _ _ _ | .heardSpent _ _ _ _ _ | .heardHolds _ _ _ _ _
  | .heardPosted _ _ _ _ _ _ _ _ | .heardJoin _ _ _ | .heardBagnext _ _ _ _ | .heardCutover _ _ _
  | .heardAlive _ _ | .byteReceived _ _ | .unknownRequestKind _ _ => true

/-- The frame a HEARD command brings, with the kind its name says (8.2). -/
def heardFrame? : Instr → Option Frame
  | .heardClaim station group letter block _ => some { station := station, group := group, body := .claim letter block }
  | .heardHeld station group letter block _ => some { station := station, group := group, body := .held letter block }
  | .heardSpent station group letter block _ => some { station := station, group := group, body := .spent letter block }
  | .heardHolds station group letter blocks _ =>
    some { station := station, group := group, body := .holds letter blocks }
  | .heardPosted station group letter serial route bag weight _ =>
    some { station := station, group := group, body := .posted letter serial route bag weight }
  | .heardJoin station group office => some { station := station, group := group, body := .join office }
  | .heardBagnext station group route bag => some { station := station, group := group, body := .bagnext route bag }
  | .heardCutover station group version => some { station := station, group := group, body := .cutover version }
  | .heardAlive station group => some { station := station, group := group, body := .alive }
  | _ => none

/-- A frame of the configured group from another station, in JOINING, JOINED or MUTED: it is heard and handed to its owners
(R165). -/
def HeardFromPeer (station group : Nat) (s : State) : Prop :=
  s.scratch = .clear ∧ s.hall.state ≠ .starting ∧ s.setup.map (·.group) = some group ∧ station ≠ s.hall.station

/-- What the hearing of such a frame, not a JOIN, leaves at the hall line controller: the acknowledge slot driven but in MUTED,
and the sender LIVE (R163, R165, R166). -/
def State.heardBy (station group : Nat) (s : State) : State :=
  s.onHall fun h =>
    { h with
      ackDriven := decide (h.state ≠ .muted)
      peers := h.peers.modify station fun p => { p with liveness := .live, ageMs := 0, lastGroup := some group } }

/-! ### What a request or a notice leaves at the counter link -/

/-- A request with this tag and kind byte has joined the outstanding list (R177). -/
def State.taken (tag kind : Nat) (s : State) : State := s.onLink (Link.join tag kind)

/-- A message has entered the output queue, or has been dropped (R179). -/
def State.said (m : OutMsg) (s : State) : State := s.onLink fun l => l.accept m

/-- The request that `State.taken` adds, as its owner knows it. -/
def State.nextRef (tag : Nat) (s : State) : RequestRef := { id := s.link.nextId, tag := tag }

/-- A request has been taken and answered at once, and nothing else has happened (R177, R178). -/
def State.answered (tag kind : Nat) (body : Reply) (s : State) : State :=
  (s.taken tag kind).said (.reply (some s.link.nextId) tag body)

/-- A reply has been made to a request that was taken earlier (R178). -/
def State.replied (r : RequestRef) (body : Reply) (s : State) : State := s.said (.reply (some r.id) r.tag body)

/-- A notice has been produced (R179, R184). -/
def State.noticed (n : Notice) (s : State) : State :=
  s.onLink fun l => { l.accept (.notice l.noticeSeq n) with noticeSeq := (l.noticeSeq + 1) % 256 }

/-- A record has been logged: appended to a log of fewer than 8, the first of an empty log with its CONFLICT notice, and only
counted otherwise (R130). -/
def State.logged (r : ConflictRecord) (s : State) : State :=
  if s.alloc.log.length < 8 then
    let u : State := { s with alloc := { s.alloc with log := s.alloc.log ++ [r] } }
    if s.alloc.log = [] then u.noticed (.conflict r.kind r.letter r.block) else u
  else { s with alloc := { s.alloc with overflow := min (s.alloc.overflow + 1) 255 } }

/-- The COMMITTING quotes among these numbers, in turn, have left the pending order and are OPEN again with age 0, their COMMITs
refused for the reason (R99, R100). -/
def State.turnedBack (reason : Reason) (numbers : List Nat) (s : State) : State :=
  numbers.foldl (fun u n =>
    match u.quote? n with
    | none => u
    | some q =>
      match q.state with
      | .opened => u
      | .committing ref =>
        State.replied ref (.refused reason none)
          { u with
            quotes :=
            { u.quotes with
              records := u.quotes.records.map fun q =>
                if q.number = n then { q with state := .opened, ageMs := 0 } else q
              pendingOrder := u.quotes.pendingOrder.erase n } }) s

/-- The numbers of the pending order whose quote is of the product, oldest first (R94, R99). -/
def State.pendingOf (letter : Nat) (s : State) : List Nat :=
  s.quotes.pendingOrder.filter fun n => decide ((s.quote? n).map (·.result.letter) = some letter)

/-- A product slot's supply state has been re-evaluated, with the notice of a change to LAST or EXHAUSTED; on becoming EXHAUSTED
the COMMITs of the product are refused NO_NUMBERS (R99, R111). -/
def State.resupplied (k : Nat) (s : State) : State :=
  match s.alloc.slots[k]? with
  | none => s
  | some x =>
    let supply : Supply :=
      if x.enabled = false then .off
      else if x.current.isSome then (if x.marks.count false = 0 then .last else .stocked)
      else if x.claim = .none ∧ x.marks.count false = 0 then .exhausted else .waiting
    let u : State := s.modifySlot k fun y => { y with supply := supply }
    if supply = .exhausted ∧ x.supply ≠ .exhausted then
      (u.noticed (.exhausted x.letter)).turnedBack .noNumbers (s.pendingOf x.letter)
    else match x.current with
      | none => u
      | some c =>
        if supply = .last ∧ x.supply ≠ .last then u.noticed (.lowNumbers x.letter c.block (1000 - c.next)) else u

/-- The need of a claim has been tested at a product slot of a JOINED station: where it is found, the block that the search
gives is marked and its claim OWED, and the supply state is re-evaluated (R112, R113). -/
def State.sought (k : Nat) (s : State) : State :=
  match s.alloc.slots[k]? with
  | none => s
  | some x =>
    if x.enabled = true ∧ x.reserve = none ∧ x.claim = .none
        ∧ (x.current.all fun c => decide (1000 - c.next ≤ (s.setup.map (·.lowWater)).getD 0)) = true then
      match x.search with
      | none => s.resupplied k
      | some b =>
        (s.modifySlot k fun y => { y with marks := y.marks.set (b - y.first) true, claim := .owed b }).resupplied k
    else s

/-- The need of a claim is tested at a product slot; a station that is not JOINED makes none (R112). -/
def State.needTested (k : Nat) (s : State) : State := if s.hall.state = .joined then s.sought k else s

/-! ### What a heard frame and the room in the queue leave -/

/-- A heard frame has named a block of a product slot: a clear mark of its window is set, with its EXCLUDED notice; a block outside
the window is logged OUT_OF_WINDOW when the strict window flag is set, and passed over when it is clear (R126). -/
def State.peerNamed (k : Nat) (kind : FrameKind) (station : Nat) (serial : Option Nat) (s : State) (b : Nat) : State :=
  match s.alloc.slots[k]? with
  | none => s
  | some x =>
    if x.first ≤ b ∧ b < x.first + x.count then
      if x.marks.getD (b - x.first) false then s
      else
        (s.modifySlot k fun y => { y with marks := y.marks.set (b - y.first) true }).noticed
          (.excluded x.letter b kind station)
    else if s.setup.map (·.strictWindow) = some true then
      s.logged { kind := .outOfWindow, letter := x.letter, block := b, serial := serial, station := station }
    else s

/-- A HELD for the block comes to be owed: the station is not MUTED, none for the block is owed or in the queue, and the slot
owes fewer than four (R121, R133). -/
def State.mayOweHeld (x : Slot) (b : Nat) (s : State) : Bool :=
  decide (s.hall.state ≠ .muted ∧ b ∉ x.owedHeld ∧ x.owedHeld.length < 4
    ∧ ∀ q ∈ s.hall.queue, q.frame.body ≠ .held x.letter b)

/-- The first frame with these contents that is not being attempted has left the queue, if there is one (R158). -/
def State.withdrew (body : FrameBody) (s : State) : State :=
  s.onHall fun h =>
    { h with queue := h.queue.eraseP fun q => decide (q.frame.body = body ∧ h.attempt ≠ some q.frame) }

/-- The claim for the block has been lost at a product slot: its CLAIM has left the queue, a HELD owed or queued for the block is
no longer, the search cursor stands at the block after it, the supply state has been re-evaluated and the need tested (R117). -/
def State.claimLost (k b : Nat) (s : State) : State :=
  match s.alloc.slots[k]? with
  | none => s
  | some x =>
    let u : State := if x.claim = .queued b then s.withdrew (.claim x.letter b) else s
    let v : State := (u.withdrew (.held x.letter b)).modifySlot k fun y =>
      { y with
        claim := .none, owedHeld := y.owedHeld.erase b
        cursor := if b + 1 < y.first + y.count then b + 1 else y.first }
    (v.resupplied k).needTested k

/-- A held block has been withdrawn at a product slot: the reserve is promoted when it was the current block, a HELD is owed for
it, the supply state has been re-evaluated and the need tested (R110, R123). -/
def State.blockWithdrawn (k b : Nat) (s : State) : State :=
  match s.alloc.slots[k]? with
  | none => s
  | some x =>
    let u : State := s.modifySlot k fun y =>
      { y with
        current := if y.current.map (·.block) = some b then y.reserve.map fun r => { block := r, next := 0 } else y.current
        reserve := none, owedHeld := if s.mayOweHeld x b then y.owedHeld ++ [b] else y.owedHeld }
    (u.resupplied k).needTested k

/-- A heard HELD has reached the peer holdings column: the block is in its sender's list for the slot, and in that of no other
station (R127). -/
def State.heldListed (station k b : Nat) (s : State) : State :=
  { s with
    alloc :=
    { s.alloc with
      column := s.alloc.column.mapIdx fun n row => row.modify k fun l =>
        if n = station then addHeld b l else if n < 32 then l.erase b else l } }

/-- A heard POSTED has reached the bag table: the row adopts the bag, adds the parcel or moves ahead, or the posting is counted
late; a route or bag sequence out of range reaches no row (R140, R141, R143, R144). -/
def State.bagFollowed (route bag weight : Nat) (s : State) : State :=
  let d := (bag + 9999 - (s.row route).seq) % 9999
  if 31 < route ∨ bag < 1 ∨ 9999 < bag then s
  else if (s.row route).follow = .fresh then
    s.modifyRow route fun r => { r with seq := bag, fill := min weight 65535, count := 1, follow := .followed }
  else if d = 0 then
    s.modifyRow route fun r => { r with fill := min (r.fill + weight) 65535, count := min (r.count + 1) 255 }
  else if d ≤ 4999 then s.modifyRow route fun r => { r with seq := bag, fill := min weight 65535, count := 1 }
  else { s with bags := { s.bags with lateCount := min (s.bags.lateCount + 1) 65535 } }

/-- The state that a command leaves. -/
def State.did (i : Instr) (s : State) : State :=
  match exec i s with
  | .next t => t
  | .fault _ | .refused _ => s

/-- The owed items have been offered: an OWED_ITEM_ENTRY (R157). -/
def State.offered (s : State) : State := s.did .owedItemEntry

/-- The pending order has been served: a COMMIT_COMPLETION of each of its numbers in turn, from the oldest (R96). -/
def State.served (s : State) : State := s.quotes.pendingOrder.foldl (fun u n => u.did (.commitCompletion n)) s

/-- The room in the queue has gone to its two claimants in this order, each if the event calls for it: the pending order is
served, and the owed items are offered (R95, R96, R157, R158). -/
def State.roomTaken (order : RoomOrder) (serve offer : Bool) (s : State) : State :=
  let serving (u : State) : State := if serve then u.served else u
  let offering (u : State) : State := if offer then u.offered else u
  match order with
  | .servingFirst => offering (serving s)
  | .owedFirst => serving (offering s)

/-- The load cursor replaced (3.3). -/
def State.withCursor (cursor : Cursor) (s : State) : State := { s with tariff := { s.tariff with cursor := cursor } }

/-- The part stands between two events, START has been accepted, and a request of this kind is not turned away (R177). -/
def Accepts (kind : Nat) (s : State) : Prop :=
  s.scratch = .clear ∧ s.started = true ∧ s.link.full kind = false

/-! ### Conditions that hold between events -/

/-- Between two events nothing is left produced and nothing is left due (log 8). -/
def ScratchClear (s : State) : Prop := s.scratch = .clear

/-- The transmit queue holds at most 16 frames, in order of class (R156). -/
def QueueOrdered (s : State) : Prop :=
  s.hall.queue.length ≤ Config.urgentLevel
    ∧ (s.hall.queue.map fun q => q.frame.frameClass.rank).Pairwise (· ≤ ·)

/-- A route row keeps its ranges, and a row whose count is 0 has a fill of 0 (R137). -/
def Row.inRange (r : Row) : Prop :=
  1 ≤ r.seq ∧ r.seq ≤ Config.maxBag ∧ r.fill ≤ Config.max16 ∧ r.count ≤ Config.maxCount ∧ (r.count = 0 → r.fill = 0)

/-- There are 32 route rows, each in range (R137). -/
def RowsInRange (s : State) : Prop := s.bags.rows.length = Config.routes ∧ ∀ r ∈ s.bags.rows, r.inRange

/-- A block lies in the slot's window and is marked (R110). -/
def Slot.keeps (k : Slot) (block : Nat) : Prop := k.inWindow block = true ∧ k.marked block = true

/-- What R110 says of one product slot: its map covers its window; every held or claimed block lies in the window with its
mark set, and no block is held or claimed twice; a reserve is held only beside a current block and with no claim in flight; the current block has a serial left;
and a slot that is not enabled holds and claims nothing. -/
def Slot.sound (k : Slot) : Prop :=
  k.marks.length = (if k.enabled then k.count else 0)
    ∧ (∀ b ∈ k.heldBlocks, k.keeps b)
    ∧ (∀ b, k.claim.block? = some b → k.keeps b ∧ b ∉ k.heldBlocks)
    ∧ k.heldBlocks.Nodup
    ∧ (k.reserve ≠ none → k.current ≠ none ∧ k.claim = .none)
    ∧ (∀ c, k.current = some c → c.next < Config.blockSize)
    ∧ (k.enabled = false → k.current = none ∧ k.claim = .none)

/-- Every product slot is sound (R110). -/
def SlotsSound (s : State) : Prop := ∀ k ∈ s.alloc.slots, k.sound

/-- The number of quotes computed under a bank. -/
def State.quotesUnder (s : State) (id : BankId) : Nat := s.quotes.records.countP fun q => decide (q.result.bank = id)

/-- What R84, R90, R94 and R101 say of the quote table and the banks: at most four quotes under distinct numbers, the next number
held by none; the pending order names the COMMITTING quotes, each once; each bank's count is the number of quotes under it,
and a bank with a quote is ACTIVE or RETIRING. -/
def QuotesSound (s : State) : Prop :=
  s.quotes.records.length ≤ Config.maxQuotes
    ∧ (s.quotes.records.map Quote.number).Nodup
    ∧ 1 ≤ s.quotes.nextNumber ∧ s.quotes.nextNumber ≤ Config.max16
    ∧ s.quotes.nextNumber ∉ s.quotes.records.map Quote.number
    ∧ s.quotes.pendingOrder.Nodup
    ∧ (∀ n, n ∈ s.quotes.pendingOrder ↔ ∃ q ∈ s.quotes.records, q.number = n ∧ q.state ≠ .opened)
    ∧ (∀ id, (s.bank id).refs = s.quotesUnder id)
    ∧ (∀ id, 0 < (s.bank id).refs → (s.bank id).state = .active ∨ (s.bank id).state = .retiring)

/-- At most one bank is LOADING, and at most one is ACTIVE (3.1). -/
def BanksSound (s : State) : Prop :=
  (∀ state, state = .loading ∨ state = .active → ¬ (s.tariff.bankA.state = state ∧ s.tariff.bankB.state = state))

/-- Zinit is absent in NOZERO and present in the zeroed states, Zo never differs from Zinit by more than 8,000 dg, a parcel
record is present in SETTLED, and a RATE waits only in MOVING (1.6, R12, R66, R86 to R88). -/
def ScaleSound (s : State) : Prop :=
  (s.weighing.scale = .noZero → s.weighing.zinit = none)
    ∧ (s.weighing.scale = .noZero ∨ s.weighing.scale = .sensor ∨ s.weighing.zinit ≠ none)
    ∧ s.weighing.withinZeroLimit s.weighing.zo = s.weighing.zinit.isSome
    ∧ (s.weighing.scale = .settled → s.weighing.parcel ≠ none)
    ∧ (s.quotes.waiting ≠ none → s.weighing.scale = .moving)

/-- A request whose reply is still to come was taken before the next one: the waiting RATE, and the COMMITs of COMMITTING quotes
(R86, R94, R177; log 7). -/
def RequestsEarlier (s : State) : Prop :=
  (∀ w, s.quotes.waiting = some w → w.ref.id < s.link.nextId)
    ∧ ∀ q ∈ s.quotes.records, ∀ ref, q.state = .committing ref → ref.id < s.link.nextId

/-- Each slot's supply state is the one its map, holdings and claim give it (R111). -/
def SuppliesCurrent (s : State) : Prop := ∀ k ∈ s.alloc.slots, k.supply = k.supplyOf

/-- At most nine requests are outstanding, and the ninth place is taken only while a RESTART is among them (R177, R180). -/
def OutstandingBounded (s : State) : Prop :=
  s.link.outstanding.length ≤ Config.maxOutstanding
    ∨ (s.link.outstanding.length = Config.maxOutstanding + 1 ∧ ∃ o ∈ s.link.outstanding, o.kind = restartKind)

end Sys2Proof.Machine
end

