-- ==== Sys2Proof/Certificates/Slice0/Obligations.lean ====
section
/-! DEFINITION. The statements for the provers. Each is about every state and operands its hypotheses name; `exec` answering
a next state that is written out is both the command's result and its frame: what the right side does not change is
unchanged. -/

open Sys2Proof Sys2Proof.Machine

/-! ### The queue of commands and the resets -/

/-- A step with a command at the front of the queue is that command's meaning on the state with the queue's rest. -/
def Obligations.StepRunsFrontCommand : Prop :=
  ∀ (c : Instr) (rest : List Instr) (s : State),
    step { s with pending := c :: rest } = exec c { s with pending := rest }

/-- On an empty queue one millisecond passes: every running timer moves on, up to its limit, and nothing else changes. The
model's choice (log 1). -/
def Obligations.EmptyQueueLetsAMillisecondPass : Prop :=
  ∀ s : State, s.pending = [] →
    step s = .next
      { s with
        gauge :=
        { s.gauge with
          stallTimer := if s.gauge.pass = .passing ∧ s.gauge.stallTimer < 5000 then s.gauge.stallTimer + 1
            else s.gauge.stallTimer }
        quotes :=
        { s.quotes with
          records := s.quotes.records.map fun q =>
            { q with
              ageMs := if q.state = .opened ∧ q.ageMs < (s.setup.map (·.quoteLife)).getD 0 * 1000 then q.ageMs + 1
                else q.ageMs }
          waiting := s.quotes.waiting.map fun w => { w with timer := if w.timer < 3000 then w.timer + 1 else w.timer } }
        alloc :=
        { s.alloc with
          slots := s.alloc.slots.map fun x =>
            { x with
              claim := match x.claim with
                | .holdoff b n => .holdoff b (n - 1)
                | .none => .none
                | .owed b => .owed b
                | .queued b => .queued b } }
        hall :=
        { s.hall with
          census := s.hall.census.map fun n => if n < 1000 then n + 1 else n
          silence := if s.sends = true ∧ s.hall.silence < 2000 then s.hall.silence + 1 else s.hall.silence
          peers := s.hall.peers.map fun p =>
            { p with
              ageMs := match p.liveness with
                | .absent => p.ageMs
                | .live => if p.ageMs < 6000 then p.ageMs + 1 else p.ageMs
                | .silent => if p.ageMs < 65535000 then p.ageMs + 1 else p.ageMs } }
        link :=
        { s.link with
          gapTimer := if s.link.parser ≠ .hunt ∧ s.link.gapTimer < 20 then s.link.gapTimer + 1 else s.link.gapTimer } }

/-- POWER_ON_RESET sets every block to its initial state and latches the station number. The fields that are the model's own,
and the waiting commands, stand outside the spec. -/
def Obligations.PowerOnResetSetsEveryBlock : Prop :=
  ∀ (straps : Nat) (s : State), straps < 32 →
    ∃ t, exec (.powerOnReset straps) s = .next t
      ∧ t.setup = none
      ∧ t.weighing =
        { invalidRun := 0, validRun := 0, firstHalf := [], secondHalf := [], filling := .first,
          kept := [], zo := 0, zinit := none, scale := .noZero, settleNumber := 0, parcel := none,
          reportedState := .noZero, reportedWeight := none, noticeGap := 32, converting := false }
      ∧ t.gauge =
        { accepted := .clear, gateRun := 0, pass := .idle, length := 0, highWater := 0, stallTimer := 0,
          width := 0, height := 0, edge := false, irregular := false, scanCount := 0, slot := none,
          discardCount := 0, replacedCount := 0, stallCount := 0, encoderErrors := 0 }
      ∧ (∀ id, t.bank id =
        { state := .empty, version := 0, refs := 0, openDefault := false, cells := [],
          bands := [], zones := [], surcharges := [] })
      ∧ t.tariff.cursor =
        { records := 0, sum := 0, cells := 0, bands := 0, zones := 0, surcharges := 0,
          openCell := none, lastHigh := none }
      ∧ t.tariff.owedCutover = none
      ∧ t.quotes = { records := [], pendingOrder := [], nextNumber := 1, waiting := none }
      ∧ t.alloc.slots.length = 8
      ∧ (∀ k ∈ t.alloc.slots, k.enabled = false ∧ k.supply = .off ∧ k.current = none ∧ k.reserve = none
          ∧ k.claim = .none ∧ k.marks = [] ∧ k.owedHeld = [] ∧ k.owedSpent = [] ∧ k.holdsOwed = false)
      ∧ (∀ station slot, t.peerBlocks station slot = [])
      ∧ t.alloc.log = [] ∧ t.alloc.overflow = 0
      ∧ t.bags.rows = List.replicate 32 { seq := 1, fill := 0, count := 0, follow := .fresh, owed := none }
      ∧ t.bags.lateCount = 0
      ∧ t.hall.station = straps ∧ t.hall.state = .starting ∧ t.hall.census = none ∧ t.hall.queue = []
      ∧ t.hall.owedJoin = false ∧ t.hall.attempt = none ∧ t.hall.failures = 0 ∧ t.hall.lineFault = false
      ∧ t.hall.silence = 0
      ∧ t.hall.peers = List.replicate 32 { liveness := .absent, ageMs := 0, lastGroup := none, office := none }
      ∧ t.hall.receiveErrors = 0 ∧ t.hall.unacknowledged = 0
      ∧ t.link.parser = .hunt ∧ t.link.received = [] ∧ t.link.gapTimer = 0 ∧ t.link.outstanding = []
      ∧ t.link.output = [] ∧ t.link.noticeSeq = 0 ∧ t.link.linkErrors = 0 ∧ t.link.dropped = 0

/-- Every condition on states of this file holds at State.reset. That its station number is 0 is the model's choice (log
5). -/
def Obligations.ConditionsHoldAtReset : Prop :=
  ScratchClear State.reset ∧ QueueOrdered State.reset ∧ RowsInRange State.reset ∧ SlotsSound State.reset
    ∧ QuotesSound State.reset ∧ BanksSound State.reset ∧ ScaleSound State.reset ∧ OutstandingBounded State.reset
    ∧ RequestsEarlier State.reset ∧ SuppliesCurrent State.reset ∧ State.reset.alloc.slots.length = 8
    ∧ State.reset.hall.state = .starting ∧ State.reset.setup = none ∧ State.reset.pending = []

/-! ### The counter link: bytes and messages -/

/-- BYTE_RECEIVED in HUNT, LENGTH and CONTENT, and a first or a bad check byte: the rows of R175 and the framing error of R174,
for a parser that holds `received` of a message. The check is good when its two bytes are the check of R193 over the length
and content bytes, the bits of each byte most significant first (R175, R194). -/
def Obligations.ByteMovesTheParser : Prop :=
  ∀ (b : Byte) (s : State), s.scratch = .clear →
    (s.link.parser = .hunt →
      exec (.byteReceived b true) s = .next s
        ∧ exec (.byteReceived b false) s =
          .next (if b = 170 then
            s.onLink fun l => { l with parser := .length, received := [], declared := 0, gapTimer := 0 } else s))
    ∧ (s.link.parser ≠ .hunt → exec (.byteReceived b true) s = .next (s.onLink Link.discard))
    ∧ (s.link.parser = .length → s.link.received = [] →
      exec (.byteReceived b false) s = .next (s.onLink fun l => { l with received := [b], gapTimer := 0 }))
    ∧ (∀ h : Byte, s.link.parser = .length → s.link.received = [h] →
      exec (.byteReceived b false) s =
        .next (s.onLink fun l =>
          if 2 ≤ 256 * h.toNat + b.toNat ∧ 256 * h.toNat + b.toNat ≤ 1024 then
            { l with parser := .content, received := [h, b], declared := 256 * h.toNat + b.toNat, gapTimer := 0 }
          else l.discard))
    ∧ (s.link.parser = .content →
      exec (.byteReceived b false) s =
        .next (s.onLink fun l =>
          { l with
            parser := if l.received.length + 1 < 2 + l.declared then .content else .check
            received := l.received ++ [b], gapTimer := 0 }))
    ∧ (s.link.parser = .check → s.link.received.length + 1 < 4 + s.link.declared →
      exec (.byteReceived b false) s =
        .next (s.onLink fun l => { l with received := l.received ++ [b], gapTimer := 0 }))
    ∧ (s.link.parser = .check → ¬ s.link.received.length + 1 < 4 + s.link.declared →
      goodCheck s.link.declared (s.link.received ++ [b]) = false →
      exec (.byteReceived b false) s = .next (s.onLink Link.discard))
    ∧ ∀ (covered : List Byte) (x y : Byte) (n : Nat), covered.length = 2 + n →
      goodCheck n (covered ++ [x, y]) = decide
        (256 * x.toNat + y.toNat
          = (checkOf (covered.flatMap fun c => (List.range 8).map fun i => c.getLsbD (7 - i))).toNat)

/-- LINK_MESSAGE_DISCARD and GAP_TIMER_EXPIRY drop and count the message in reception, and the parser is back in HUNT with the
gap timer stopped (R175, R176). MESSAGE_TRANSMISSION_BEGIN puts the head of the output queue on the line, and
MESSAGE_TRANSMISSION_COMPLETE takes it out of the queue and its request off the outstanding list, the others keeping their order
(R178, R179). A number goes out most significant byte first, and the check covers length and content (R193, R194). The content
is tag, kind and body of a reply, or kind, sequence number and body of a notice (R196); the bodies of REFUSED and LABEL are laid
out in full, and that of a QUOTE is the LABEL's with text and bag sequence 0 (R196, R197). That GAP_TIMER_EXPIRY first
brings the clock to the timer's 20 ms is the model's choice (log 2), and so are the
emptied receive buffer and the bytes on the line as fields of the state (log 37). -/
def Obligations.MessagesAreDiscardedAndSent : Prop :=
  (∀ s : State, s.link.parser ≠ .hunt →
    exec .linkMessageDiscard s = .next (s.onLink fun l =>
      { l with
        parser := .hunt, received := [], declared := 0, gapTimer := 0
        linkErrors := min (l.linkErrors + 1) 65535 })
    ∧ exec .gapTimerExpiry s = .next
      { s.elapse (20 - s.link.gapTimer) with
        link :=
        { s.link with
          parser := .hunt, received := [], declared := 0, gapTimer := 0
          linkErrors := min (s.link.linkErrors + 1) 65535 } })
  ∧ (∀ w n : Nat, be w n = (List.range w).map fun i => BitVec.ofNat 8 (n / 256 ^ (w - 1 - i)))
  ∧ (∀ msg : OutMsg, (OutEntry.of msg).msg = msg
    ∧ (OutEntry.of msg).check = checkOf ((be 2 msg.content.length ++ msg.content).flatMap fun b =>
        (List.range 8).map fun i => b.toNat.testBit (7 - i)))
  ∧ (∀ (request : Option Nat) (tag : Nat) (reason : Reason) (detail : Option LoadDetail),
    (OutMsg.reply request tag (.refused reason detail)).content =
      be 1 tag ++ be 1 131
        ++ be 1 (1 + [Reason.busy, .badRequest, .notStarted, .already, .noTariff, .unknownProduct, .unroutable, .notServed,
            .noDims, .dimsUnsure, .oversize, .overweight, .valueLimit, .noInsurance, .priceLimit, .noParcel, .unsettled,
            .overload, .sensor, .noZero, .zeroRange, .quotesFull, .noQuote, .noNumbers, .muted, .restarted, .cancelled,
            .bankBusy, .loadError, .notLoading].idxOf reason)
        ++ be 1 (match detail with | none => 0 | some .sum => 1 | some .order => 2 | some .full => 3))
  ∧ (let layout (text number bag station : List Byte) (r : RateResult) : List Byte :=
      let bit (b : Bool) (n : Nat) : Nat := if b then 2 ^ n else 0
      text ++ number
        ++ be 1 (bit r.settleNumber.isSome 0 + bit r.wv.isSome 1 + bit r.dims.isSome 2 + bit r.declared.isSome 3)
        ++ be 1 r.letter ++ be 4 r.destination ++ be 1 r.zone ++ be 1 r.route ++ bag
        ++ be 1 (match r.bank with | .a => 1 | .b => 2) ++ be 2 r.version ++ station ++ be 2 (r.settleNumber.getD 0)
        ++ be 2 r.wa ++ be 2 r.wc ++ be 2 (r.wv.getD 0)
        ++ (match r.dims with
          | none => List.replicate 7 0
          | some d => be 2 d.a ++ be 2 d.b ++ be 2 d.c
              ++ be 1 (bit (decide (d.source = .manual)) 0 + bit d.edge 1 + bit d.irregular 2 + bit d.long 3))
        ++ be 4 (r.declared.getD 0) ++ be 4 r.price.band ++ be 4 r.price.oversize ++ be 4 r.price.irregular
        ++ be 4 r.price.remote ++ be 4 r.price.insurance ++ [BitVec.ofInt 8 r.price.rounding] ++ be 4 r.price.total
        ++ be 1 (bit r.flags.manualWeight 0 + bit r.flags.manualDims 1 + bit r.flags.byVolume 2 + bit r.flags.large 3
            + bit r.flags.irregular 4 + bit r.flags.remote 5 + bit r.flags.insured 6)
    (∀ (request : Option Nat) (tag : Nat) (l : LabelRecord),
      (OutMsg.reply request tag (.label l)).content = be 1 tag ++ be 1 130
          ++ layout (l.text.map (BitVec.ofNat 8)) (be 2 l.quoteNumber) (be 2 l.bag) (be 1 l.station) l.result
        ∧ (l.text.length = 13 → (OutMsg.reply request tag (.label l)).content.length = 76))
    ∧ ∀ (request : Option Nat) (tag number station : Nat) (r : RateResult),
      (OutMsg.reply request tag (.quote number station r)).content = be 1 tag ++ be 1 129
        ++ layout (List.replicate 13 0) (be 2 number) [0, 0] (be 1 station) r)
  ∧ (∀ (request : Option Nat) (tag : Nat) (body : DoneBody),
    (OutMsg.reply request tag (.done body)).content = be 1 tag ++ be 1 128 ++ body.bytes)
  ∧ (∀ (seq : Nat) (n : Notice), (OutMsg.notice seq n).content =
    be 1 (match n with
      | .weight _ _ _ => 192 | .blockWon _ _ _ => 193 | .excluded _ _ _ _ => 194 | .lowNumbers _ _ _ => 195
      | .exhausted _ => 196 | .conflict _ _ _ => 197 | .tariffChanged _ _ _ _ => 198 | .cutoverMissed _ _ _ => 199
      | .joined _ => 200 | .lineFault _ _ _ => 201 | .muted _ _ _ => 202) ++ be 1 seq ++ n.bytes)
  ∧ ∀ (s : State) (m : OutEntry) (rest : List OutEntry), s.link.output = m :: rest →
    (s.link.onLine = none →
      exec .messageTransmissionBegin s = .next (s.onLink fun l =>
        { l with onLine := some (170 :: (be 2 m.msg.content.length ++ m.msg.content ++ be 2 m.check.toNat)) }))
    ∧ (∀ bytes, s.link.onLine = some bytes →
      exec .messageTransmissionComplete s = .next (s.onLink fun l =>
        { l with
          onLine := none, output := rest
          outstanding := l.outstanding.filter fun o => m.msg.request? != some o.id }))

/-- The bytes of a request message, received one after another without error, are taken as that request at the last byte:
the machine that started in HUNT ends as the request command itself leaves it; a good message whose kind is not in the table of
R195, or whose body is not of the table's length, is taken as an unknown request of its tag and kind, refused BAD_REQUEST unless
the outstanding list is full (R174, R175, R177, R194, R195). That a request command is the same event as the last byte of its
message is the model's choice (log 6). -/
def Obligations.MessageBytesAreTakenAsTheRequest : Prop :=
  ∀ s : State, s.link = s.link.hunting → s.scratch = .clear →
    let received (content : List Byte) : Host.Outcome State Fault Refusal :=
      let bytes := linkMessage content
      Host.Core.run Sys2Proof.core bytes.length { s with pending := bytes.map fun b => Instr.byteReceived b false }
    (∀ (i : Instr) (tag : Nat) (r : Request), i.request? = some (tag, r) → i.wf = true → (∀ k, r ≠ .unknown k) →
      received (requestContent tag r) = exec i { s with pending := [] })
    ∧ (∀ (tag kind : Byte) (body : List Byte), body.length ≤ 1022 →
      (kind.toNat, body.length) ∉
        [(1, 235), (2, 1), (3, 0), (4, 0), (5, 11), (6, 0), (7, 2), (8, 3), (9, 20), (10, 11), (11, 19), (12, 6), (13, 2),
          (14, 18), (15, 2), (16, 2), (17, 1)] →
      received (tag :: kind :: body) = exec (.unknownRequestKind tag.toNat kind.toNat) { s with pending := [] })
    ∧ ∀ tag kind : Nat, s.link.full kind = false →
      exec (.unknownRequestKind tag kind) s = .next (s.answered tag kind (.refused .badRequest none))

/-- The body of every well-formed request, laid out as R195 gives it, is read back as that request with every operand. -/
def Obligations.RequestBodiesReadBack : Prop :=
  ∀ r : Request, r.wf = true → (∀ k, r ≠ .unknown k) → requestOfBody r.kind (requestBody r) = r

/-! ### The counter link: taking requests -/

/-- A request beyond the outstanding limit is refused BUSY without joining the list; with 23 or more messages in the output
queue it is discarded instead (R176, R177, R179, R180). -/
def Obligations.FullListTurnsRequestsAway : Prop :=
  ∀ (i : Instr) (tag : Nat) (r : Request) (s : State), i.request? = some (tag, r) → s.scratch = .clear →
    8 ≤ s.link.outstanding.length →
    (r.kind ≠ 3 ∨ ∃ o ∈ s.link.outstanding, o.kind = 3) →
    exec i s = .next (if 23 ≤ s.link.output.length then s.onLink Link.discard
      else s.said (.reply none tag (.refused .busy none)))

/-- Before START every request but START and STATUS is refused NOT_STARTED, RESTART included, and reaches no block
(R181); a message of no request kind is refused BAD_REQUEST with its tag, before START and after (R177). The last holds for a
message with the kind byte of RESTART and a misshapen body as well, which the model counts by its kind byte (log 36). -/
def Obligations.EarlyAndUnknownRequestsAreRefused : Prop :=
  (∀ (i : Instr) (tag : Nat) (r : Request) (s : State), i.request? = some (tag, r) → s.scratch = .clear →
    s.setup = none → s.link.full r.kind = false →
    (∀ b, r ≠ .start b) → (∀ n, r ≠ .status n) → (∀ k, r ≠ .unknown k) →
    exec i s = .next (s.answered tag r.kind (.refused .notStarted none)))
  ∧ (∀ (tag kind : Nat) (s : State), s.scratch = .clear → s.link.full kind = false →
    exec (.unknownRequestKind tag kind) s = .next (s.answered tag kind (.refused .badRequest none)))

/-- The link's field checks: a RATE, COMMIT, CANCEL, BAGCLOSE, MAPLOAD or STATUS with a field outside its range is refused
BAD_REQUEST with no change to any block, a second START is refused ALREADY (R65, R181), and a START that fails a check of
R182 is refused BAD_REQUEST with no change to any block: each named check fails it, and what a START passes is every check of
9.4 and R182 and no other. That a strict, enabled or volumetric byte other than 0 and 1 is out of range is the model's reading
(log 21). -/
def Obligations.LinkFieldChecks : Prop :=
  (∀ (tag n : Nat) (s : State), s.scratch = .clear → s.started = true →
    (∀ body : RateBody, s.link.full 14 = false →
      (999999 < body.destination ∨ 9999999 < body.declaredValue ∨ 3 < body.flags
        ∨ (body.flags.testBit 0 = true ∧ (body.manualWeight < 1 ∨ 40000 < body.manualWeight))
        ∨ (body.flags.testBit 1 = true ∧ ∃ x ∈ [body.len1, body.len2, body.len3], x < 1 ∨ 2000 < x)) →
      exec (.rate tag body) s = .next (s.answered tag 14 (.refused .badRequest none)))
    ∧ (s.link.full 15 = false → n = 0 ∨ 65535 < n →
      exec (.commit tag n) s = .next (s.answered tag 15 (.refused .badRequest none)))
    ∧ (s.link.full 16 = false → n = 0 ∨ 65535 < n →
      exec (.cancel tag n) s = .next (s.answered tag 16 (.refused .badRequest none)))
    ∧ (s.link.full 17 = false → 31 < n →
      exec (.bagClose tag n) s = .next (s.answered tag 17 (.refused .badRequest none)))
    ∧ (∀ (startBlock : Nat) (span : List Bool), s.link.full 5 = false → n = 0 ∨ 26 < n →
      exec (.mapLoad tag n startBlock span) s = .next (s.answered tag 5 (.refused .badRequest none)))
    ∧ (s.link.full 2 = false → n = 0 ∨ 9 < n →
      exec (.status tag n) s = .next (s.answered tag 2 (.refused .badRequest none)))
    ∧ (∀ body : StartBody, s.link.full 1 = false →
      exec (.start tag body) s = .next (s.answered tag 1 (.refused .already none))))
  ∧ ∀ (tag : Nat) (body : StartBody) (s : State), s.scratch = .clear → s.setup = none → s.link.full 1 = false →
    (startGood body = false → exec (.start tag body) s = .next (s.answered tag 1 (.refused .badRequest none)))
    ∧ (body.cellEnable = 0 ∨ 15 < body.cellEnable → startGood body = false)
    ∧ (9999 < body.office ∨ 15 < body.group ∨ body.divisor < 1000 ∨ 10000 < body.divisor
        ∨ (body.ru ≠ 1 ∧ body.ru ≠ 5 ∧ body.ru ≠ 10) ∨ body.nominal < 1000 ∨ 32000 < body.nominal
        ∨ body.weightLimit < 1000 ∨ 30000 < body.weightLimit ∨ body.itemLimit < 1 ∨ 250 < body.itemLimit →
      startGood body = false)
    ∧ (∀ p ∈ body.products, p.letter < 1 ∨ 26 < p.letter ∨ p.count < 1 ∨ 1024 < p.count ∨ 9999 < p.first + p.count - 1
        ∨ p.maxWeight < 1 ∨ 40000 < p.maxWeight ∨ 9999999 < p.maxValue →
      startGood body = false)
    ∧ (∀ (i j : Nat) (p q : ProductRecord), i < j → body.products[i]? = some p → body.products[j]? = some q →
      p.letter = q.letter → startGood body = false)
    ∧ (startGood body = true ↔
      body.office ≤ 9999 ∧ body.group ≤ 15 ∧ (1000 ≤ body.divisor ∧ body.divisor ≤ 10000)
      ∧ (body.ru = 1 ∨ body.ru = 5 ∨ body.ru = 10) ∧ (body.lowWater ≤ 999 ∨ body.lowWater = 65535) ∧ body.strict ≤ 1
      ∧ (1000 ≤ body.weightLimit ∧ body.weightLimit ≤ 30000) ∧ (1 ≤ body.itemLimit ∧ body.itemLimit ≤ 250)
      ∧ (body.quoteLife = 0 ∨ (60 ≤ body.quoteLife ∧ body.quoteLife ≤ 1800))
      ∧ (body.settleCount = 0 ∨ (2 ≤ body.settleCount ∧ body.settleCount ≤ 8)) ∧ body.settleBand ≤ 4
      ∧ (1 ≤ body.cellEnable ∧ body.cellEnable ≤ 15) ∧ (1000 ≤ body.nominal ∧ body.nominal ≤ 32000)
      ∧ (∀ k, k < 4 → body.cellEnable.testBit k = true →
          (1 ≤ body.factors.getD k 0 ∧ body.factors.getD k 0 ≤ 65535)
            ∧ (-32768 ≤ body.zeros.getD k 0 ∧ body.zeros.getD k 0 ≤ 32767))
      ∧ (∀ p ∈ body.products, p.enabled ≤ 1 ∧ (1 ≤ p.letter ∧ p.letter ≤ 26) ∧ p.first ≤ 9999
          ∧ (1 ≤ p.count ∧ p.count ≤ 1024) ∧ p.first + p.count - 1 ≤ 9999 ∧ p.volumetric ≤ 1
          ∧ (1 ≤ p.maxWeight ∧ p.maxWeight ≤ 40000) ∧ (1 ≤ p.longSide ∧ p.longSide ≤ 10000)
          ∧ (1 ≤ p.girth ∧ p.girth ≤ 10000) ∧ (1 ≤ p.absLength ∧ p.absLength ≤ 10000)
          ∧ (1 ≤ p.absGirth ∧ p.absGirth ≤ 10000) ∧ p.maxValue ≤ 9999999)
      ∧ (body.products.map (·.letter)).Nodup)

/-- STATUS is answered DONE with the section it names, read from the state as it stands with the STATUS itself outstanding,
before START and after, and changes nothing else (R183); sections 1 to 9 exist, and each carries the figures its rules list,
configuration fields being absent before START (R21, R38, R60, R103, R132, R149, R170, R183). -/
def Obligations.StatusReportsItsSection : Prop :=
  (∀ (tag sect : Nat) (report : Report) (s : State), s.scratch = .clear → s.link.full 2 = false →
    (s.taken tag 2).report sect = some report →
    exec (.status tag sect) s = .next (s.answered tag 2 (.done (.status report))))
  ∧ (∀ (sect : Nat) (s : State), (∃ report, s.report sect = some report) ↔ 1 ≤ sect ∧ sect ≤ 9)
  ∧ ∀ s : State,
    s.report 1 = some (.scale
      { scale := s.weighing.scale
        weight :=
          if s.weighing.scale = .empty ∨ s.weighing.scale = .settled ∨ s.weighing.scale = .moving then
            s.weighing.kept.getLast?.map fun m => rounded m / 10
          else none
        stable := decide (s.weighing.scale = .empty ∨ s.weighing.scale = .settled)
        zo := s.weighing.zo, zinit := s.weighing.zinit, settleNumber := s.weighing.settleNumber
        parcel := s.weighing.parcel })
    ∧ s.report 2 = some (.gauge
      { pass := s.gauge.pass, accepted := s.gauge.accepted
        fields :=
          if s.gauge.pass = .idle then none
          else some
            { length := s.gauge.length, width := s.gauge.width, height := s.gauge.height,
              scanCount := s.gauge.scanCount, edge := s.gauge.edge, irregular := s.gauge.irregular }
        slot := s.gauge.slot, discardCount := s.gauge.discardCount, replacedCount := s.gauge.replacedCount
        stallCount := s.gauge.stallCount, encoderErrors := s.gauge.encoderErrors })
    ∧ (let contents (b : Bank) : BankReport :=
        { state := b.state, version := b.version, refs := b.refs, openDefault := b.openDefault
          cells := b.cells.length, bands := b.bands.length, zones := b.zones.length
          surcharges := b.surcharges.length }
       s.report 3 = some (.tariff
        { bankA := contents s.tariff.bankA, bankB := contents s.tariff.bankB
          load :=
            if s.tariff.bankA.state = .loading ∨ s.tariff.bankB.state = .loading then
              some
                { records := s.tariff.cursor.records, sum := s.tariff.cursor.sum
                  expected := s.tariff.cursor.openCell.map (·.expected) }
            else none
          owedCutover := s.tariff.owedCutover }))
    ∧ s.report 5 = some (.numbers
      { slots := s.alloc.slots.map fun k =>
          { config :=
              if s.setup = none then none
              else some { letter := k.letter, enabled := k.enabled, first := k.first, count := k.count }
            supply := k.supply, current := k.current.map fun c => (c.block, 1000 - c.next), reserve := k.reserve
            claim := k.claim, cursor := if k.enabled then some k.cursor else none, free := k.marks.count false
            owedHeld := k.owedHeld.length, owedSpent := k.owedSpent.length
            owedHolds := if k.holdsOwed then 1 else 0 }
        logCount := s.alloc.log.length, overflow := s.alloc.overflow })
    ∧ s.report 6 = some (.peers (((List.range 32).filter fun n => decide (n ≠ s.hall.station)).map fun n =>
        let p := (s.hall.peers[n]?).getD { liveness := .absent, ageMs := 0, lastGroup := none, office := none }
        { liveness := p.liveness, age := p.ageMs / 1000, lastGroup := p.lastGroup, office := p.office
          holdings := (s.alloc.column[n]?).getD [] }))
    ∧ (∃ records, s.report 4 = some (.quotes
        { records := records, pendingOrder := s.quotes.pendingOrder, nextNumber := s.quotes.nextNumber
          waiting := s.quotes.waiting.map fun w => (w.ref.tag, w.timer) })
      ∧ records.map (fun q => (q.number, q.committing, q.letter, q.bank, q.version))
          = s.quotes.records.map (fun q =>
            (q.number, decide (q.state ≠ .opened), q.result.letter, q.result.bank, q.result.version))
      ∧ records.map (fun q => (q.route, q.total, q.age))
          = s.quotes.records.map (fun q => (q.result.route, q.result.price.total, q.ageMs / 1000)))
    ∧ s.report 7 = some (.bags
      { weightLimit := s.setup.map (·.weightLimit), itemLimit := s.setup.map (·.itemLimit), rows := s.bags.rows
        lateCount := s.bags.lateCount })
    ∧ (∃ line, s.report 8 = some (.line line)
      ∧ line.station = s.hall.station ∧ line.group = s.setup.map (·.group) ∧ line.state = s.hall.state
      ∧ line.census = s.hall.census ∧ line.queued = s.hall.queue.length
      ∧ line.urgent = s.hall.queue.countP (fun q => decide (q.frame.body.kind ∈ [FrameKind.claim, .held]))
      ∧ line.normal = s.hall.queue.countP (fun q =>
          decide (q.frame.body.kind ∈ [FrameKind.join, .holds, .spent, .posted, .bagnext, .cutover]))
      ∧ line.low = s.hall.queue.countP (fun q => decide (q.frame.body.kind = .alive))
      ∧ line.head = s.hall.queue.head?.map (·.frame.body.kind) ∧ line.owedJoin = s.hall.owedJoin
      ∧ line.attempting = s.hall.attempt.isSome ∧ line.failures = s.hall.failures ∧ line.lineFault = s.hall.lineFault
      ∧ line.receiveErrors = s.hall.receiveErrors ∧ line.unacknowledged = s.hall.unacknowledged)
    ∧ s.report 9 = some (.link
      { started := s.started, outstanding := s.link.outstanding.length, output := s.link.output.length
        noticeSeq := s.link.noticeSeq, linkErrors := s.link.linkErrors, dropped := s.link.dropped })

/-- An accepted START: every block takes its configuration, and in a hall where this station's number has not been heard in the
configured group, or not within the last 6 s, the station is JOINING with its JOIN in the queue; DONE carries the station number
and JOINING (R107, R153, R182). Where a frame of that group with this station's number has made its own entry LIVE, the station
is MUTED, and DONE comes before the MUTED notice. The state before is one that owes nothing and queues nothing, as every
state in STARTING does. The configuration has the fields of
START, an absent one at its default (9.4, R182, R195), and each product slot is configured as R107 says: an enabled one with
every mark clear, no block, claim NONE, nothing owed, its cursor at the first block and in WAITING; another OFF, without map,
holdings or cursor. -/
def Obligations.StartConfiguresAndJoins : Prop :=
  (∀ body : StartBody, startSetup body =
    { office := body.office, group := body.group, divisor := body.divisor, roundingUnit := body.ru
      lowWater := if body.lowWater = 65535 then 100 else body.lowWater
      strictWindow := decide (body.strict = 1), weightLimit := body.weightLimit, itemLimit := body.itemLimit
      quoteLife := if body.quoteLife = 0 then 300 else body.quoteLife
      settleCount := if body.settleCount = 0 then 4 else body.settleCount
      settleBand := if body.settleBand = 0 then 1 else body.settleBand
      cells := ([1, 2, 3, 4].filter fun k => body.cellEnable.testBit (k - 1)).map fun k =>
        { channel := k, zero := body.zeros.getD (k - 1) 0, factor := body.factors.getD (k - 1) 0 }
      nominal := body.nominal, widthMask := body.widthMask, heightMask := body.heightMask
      products := body.products.map fun p =>
        { enabled := decide (p.enabled = 1), letter := p.letter, first := p.first, count := p.count
          volumetric := decide (p.volumetric = 1), maxWeight := p.maxWeight, longSide := p.longSide, girth := p.girth
          absLength := p.absLength, absGirth := p.absGirth, maxValue := p.maxValue } })
  ∧ (∀ p : Product,
    (p.enabled = true → Slot.configured p =
      { letter := p.letter, enabled := true, first := p.first, count := p.count
        marks := List.replicate p.count false, current := none, reserve := none, claim := .none, cursor := p.first
        supply := .waiting, owedHeld := [], owedSpent := [], holdsOwed := false })
    ∧ (p.enabled = false →
      let y := Slot.configured p
      y.letter = p.letter ∧ y.enabled = false ∧ y.first = p.first ∧ y.count = p.count ∧ y.marks = [] ∧ y.current = none
        ∧ y.reserve = none ∧ y.claim = .none ∧ y.supply = .off ∧ y.owedHeld = [] ∧ y.owedSpent = []
        ∧ y.holdsOwed = false))
  ∧ (∀ (tag : Nat) (body : StartBody) (s : State), s.scratch = .clear → s.setup = none → s.link.full 1 = false →
    startGood body = true → s.hall.state = .starting → s.hall.queue = [] → s.tariff.owedCutover = none →
    (∀ r ∈ s.bags.rows, r.owed = none) →
    (∀ p, s.hall.peers[s.hall.station]? = some p → p.liveness = .live → p.lastGroup ≠ some body.group) →
    ∃ t, exec (.start tag body) s = .next t
      ∧ t.setup = some (startSetup body)
      ∧ t.alloc = { s.alloc with slots := (startSetup body).products.map Slot.configured }
      ∧ t.hall.state = .joining ∧ t.hall.silence = 0 ∧ t.hall.owedJoin = false
      ∧ t.hall.queue = [{ frame := { station := s.hall.station, group := body.group, body := .join body.office },
                          check := none }]
      ∧ t.hall.peers = ((s.hall.peers.map fun p =>
          if p.lastGroup = some body.group then p else { p with liveness := .absent, ageMs := 0, office := none }).modify
            s.hall.station fun p => { p with liveness := .absent, ageMs := 0, office := none })
      ∧ t.link = (s.answered tag 1 (.done (.start s.hall.station .joining))).link
      ∧ t.weighing = s.weighing ∧ t.gauge = s.gauge ∧ t.tariff = s.tariff ∧ t.quotes = s.quotes ∧ t.bags = s.bags)
  ∧ ∀ (tag : Nat) (body : StartBody) (p : Peer) (s : State), s.scratch = .clear → s.setup = none →
    s.link.full 1 = false → startGood body = true → s.hall.state = .starting → s.quotes.pendingOrder = [] →
    s.hall.peers[s.hall.station]? = some p → p.liveness = .live → p.lastGroup = some body.group →
    ∃ t, exec (.start tag body) s = .next t
      ∧ t.setup = some (startSetup body)
      ∧ t.alloc = { s.alloc with slots := (startSetup body).products.map Slot.configured }
      ∧ t.hall.state = .muted ∧ t.hall.queue = [] ∧ t.hall.owedJoin = false ∧ t.hall.failures = 0
      ∧ t.hall.peers[s.hall.station]? = some { p with liveness := .absent, ageMs := 0, office := none }
      ∧ t.link = ((s.answered tag 1 (.done (.start s.hall.station .muted))).noticed
          (.muted s.hall.station s.hall.station none)).link
      ∧ t.weighing = s.weighing ∧ t.gauge = s.gauge ∧ t.quotes = s.quotes

/-- RESTART: the front end forgets its load, the gauge its measurement, the store its load in progress, the quote table its
quotes; blocks, bag rows, the hall line, an EMPTY bank, the owed CUTOVER and the configuration stay; every waiting request is refused
RESTARTED first, and DONE carries their number (R23, R40, R62, R105, R135, R151, R172, R186, R189). -/
def Obligations.RestartClearsTheCounterSide : Prop :=
  ∀ (tag : Nat) (s : State), Accepts 3 s → QuotesSound s → BanksSound s →
    ∃ t, exec (.restart tag) s = .next t
      ∧ t.weighing = { s.weighing with
          firstHalf := [], secondHalf := [], filling := .first, kept := [], invalidRun := 0, validRun := 0,
          parcel := none, scale := if s.weighing.zinit.isSome then .moving else .noZero }
      ∧ t.gauge = { s.gauge with slot := none, pass := if s.gauge.pass = .passing then .stalled else s.gauge.pass }
      ∧ t.quotes = { s.quotes with records := [], pendingOrder := [], waiting := none }
      ∧ t.tariff.cursor = .cleared ∧ t.tariff.owedCutover = s.tariff.owedCutover
      ∧ (∀ id, (s.bank id).state = .loading ∨ (s.bank id).state = .retiring ∧ 0 < (s.bank id).refs →
          t.bank id = .cleared)
      ∧ (∀ id, (s.bank id).state = .ready ∨ (s.bank id).state = .active →
          t.bank id = { s.bank id with refs := 0 })
      ∧ (∀ id, (s.bank id).state = .empty → t.bank id = s.bank id)
      ∧ t.setup = s.setup ∧ t.alloc = s.alloc ∧ t.bags = s.bags ∧ t.hall = s.hall
      ∧ ∃ refused : List (Nat × Nat),
          refused = (s.quotes.waiting.toList.map fun w => (w.ref.id, w.ref.tag))
            ++ s.quotes.pendingOrder.filterMap (fun n => match s.quote? n with
                | some { state := .committing ref, .. } => some (ref.id, ref.tag)
                | _ => none)
          ∧ t.link = ((refused.foldl (fun u x => u.said (.reply (some x.1) x.2 (.refused .restarted none)))
              (s.taken tag 3)).said (.reply (some s.link.nextId) tag (.done (.restart refused.length)))).link

/-! ### The scale -/

/-- SAMPLE_SEQUENCE_START sets a sequence converting, a field of the model's own that nothing reads (log 14). A valid sequence
outside SENSOR that completes no half: its sample enters the filling half, the invalid run ends, and the gap count advances; a
WEIGHT notice goes out when the gap count is 32 and the state or weight differs from the last reported pair (R3, R4, R6, R7,
R19, R20). Its weight field is the rounded newest half-mean in g in EMPTY, SETTLED and MOVING, and it is stable in EMPTY and
SETTLED (R19). That the notice looks at the state before the sample is the model's reading (log 9). -/
def Obligations.ValidSampleEntersTheRing : Prop :=
  (∀ w : Weighing,
    w.weightField =
        (if w.scale = .empty ∨ w.scale = .settled ∨ w.scale = .moving then w.kept.getLast?.map fun m => rounded m / 10
        else none)
      ∧ w.scale.stable = decide (w.scale = .empty ∨ w.scale = .settled))
  ∧ (∀ s : State, s.started = true →
    exec .sampleSequenceStart s = .next { s with weighing := { s.weighing with converting := true } })
  ∧ ∀ (counts : List Int) (reference : Int) (cfg : Setup) (s : State),
    s.setup = some cfg → s.scratch = .clear → s.weighing.scale ≠ .sensor →
    100 * (reference - cfg.nominal).natAbs ≤ 3 * cfg.nominal →
    (∀ c ∈ cfg.cells, counts.getD (c.channel - 1) 0 ≠ -32768 ∧ counts.getD (c.channel - 1) 0 ≠ 32767) →
    s.weighing.fillingHalf.length + 1 < 8 →
    let w := s.weighing
    let x := roundDiv ((cfg.cells.map fun c => (counts.getD (c.channel - 1) 0 - c.zero) * (c.factor : Int)).sum) 4096
      - w.zo
    let gap := min (w.noticeGap + 1) 32
    let u : State :=
      { s with
        weighing :=
        { w with
          noticeGap := gap, converting := false, invalidRun := 0
          firstHalf := if w.filling = .first then w.firstHalf ++ [x] else w.firstHalf
          secondHalf := if w.filling = .first then w.secondHalf else w.secondHalf ++ [x] } }
    exec (.sequenceEnd counts reference) s =
      .next (if gap = 32 ∧ (w.scale ≠ w.reportedState ∨ w.weightField ≠ w.reportedWeight) then
        (u.onWeighing fun v =>
          { v with reportedState := w.scale, reportedWeight := w.weightField, noticeGap := 0 }).noticed
            (.weight w.scale w.weightField w.scale.stable)
        else u)

/-- The eighth sample of a half completes it: the half-mean is kept, and the scale state, the parcel record, the measurement
slot and the zero follow R8, R10, R11, R13, R14, R15, R17 and R37 (tracking and the initial zero shift the kept half-means with
Zo, R12). A WEIGHT notice goes out when the gap count is 32 and state or weight differ from the last reported pair (R20); that
it looks at the state before the sample is the model's reading (log 9). A RATE that waits is released at the entry into
SETTLED, computed on the new parcel record, its reply going to its own tag, and is refused at a transition into EMPTY or RANGE
(R87, R88, R89). Of the half-means the S newest are kept (R8), their spread is the largest less the smallest (R10), and a zero
offset lies within the limit when it differs from Zinit by 8,000 dg at most (R12). -/
def Obligations.HalfCompletionDecidesTheScale : Prop :=
  (∀ (n : Nat) (l : List Int),
    ∃ older, l = older ++ keepNewest n l ∧ (keepNewest n l).length = min n l.length)
  ∧ (∀ (l : List Int) (low high : Int), low ∈ l → high ∈ l → (∀ x ∈ l, low ≤ x ∧ x ≤ high) → spread l = high - low)
  ∧ (∀ (w : Weighing) (zo : Int),
    w.withinZeroLimit zo = true ↔ ∃ z, w.zinit = some z ∧ z - 8000 ≤ zo ∧ zo ≤ z + 8000)
  ∧ ∀ (counts : List Int) (reference : Int) (cfg : Setup) (s : State),
    s.setup = some cfg → s.scratch = .clear → RequestsEarlier s → 2 ≤ cfg.settleCount → s.weighing.scale ≠ .sensor →
    100 * (reference - cfg.nominal).natAbs ≤ 3 * cfg.nominal →
    (∀ c ∈ cfg.cells, counts.getD (c.channel - 1) 0 ≠ -32768 ∧ counts.getD (c.channel - 1) 0 ≠ 32767) →
    s.weighing.fillingHalf.length = 7 →
    let w := s.weighing
    let x := roundDiv ((cfg.cells.map fun c => (counts.getD (c.channel - 1) 0 - c.zero) * (c.factor : Int)).sum) 4096
      - w.zo
    let m := roundDiv (w.fillingHalf ++ [x]).sum 8
    let kept := keepNewest cfg.settleCount (w.kept ++ [m])
    let settled := decide (kept.length = cfg.settleCount)
      && decide (spread kept ≤ (cfg.settleBand * (if m < 100000 then 20 else 100) : Nat))
    let scale : ScaleState :=
      match w.scale with
      | .noZero => if settled = true ∧ -40000 ≤ m ∧ m ≤ 40000 then .empty else .noZero
      | .sensor => .sensor
      | .range => if m > 400900 ∨ m < -400 then .range else .moving
      | .empty | .moving | .settled =>
        if m > 400900 ∨ m < -400 then .range
        else if settled = true then (if rounded m ≤ 200 then .empty else .settled) else .moving
    let d : Int :=
      if w.scale = .noZero then (if scale = .empty then m else 0)
      else if scale = .empty ∧ -10 ≤ m ∧ m ≤ 10 ∧ w.withinZeroLimit (w.zo + m) = true then m else 0
    let first := if w.filling = .first then w.firstHalf ++ [x] else []
    let second := if w.filling = .first then [] else w.secondHalf ++ [x]
    let gap := min (w.noticeGap + 1) 32
    let due := gap = 32 ∧ (w.scale ≠ w.reportedState ∨ w.weightField ≠ w.reportedWeight)
    let u : State :=
      { s with
        weighing :=
        { w with
          noticeGap := if due then 0 else gap
          reportedState := if due then w.scale else w.reportedState
          reportedWeight := if due then w.weightField else w.reportedWeight
          converting := false, invalidRun := 0, scale := scale
          filling := if w.filling = .first then .second else .first
          firstHalf := first.map (· - d), secondHalf := second.map (· - d), kept := kept.map (· - d)
          zo := if w.scale = .noZero ∧ scale = .empty then m else w.zo + d
          zinit := if w.scale = .noZero ∧ scale = .empty then some m else w.zinit
          settleNumber :=
            if scale = .settled ∧ w.scale ≠ .settled then (w.settleNumber + 1) % 65536 else w.settleNumber
          parcel :=
            if scale = .settled then
              if w.scale = .settled then w.parcel.map fun p => { p with weight := (rounded m / 10).toNat }
              else some
                { settleNumber := (w.settleNumber + 1) % 65536, weight := (rounded m / 10).toNat,
                  dims := s.gauge.slot }
            else w.parcel }
        gauge := { s.gauge with slot := if scale = .settled ∧ w.scale ≠ .settled then none else s.gauge.slot } }
    let v : State := if due then u.noticed (.weight w.scale w.weightField w.scale.stable) else u
    exec (.sequenceEnd counts reference) s = .next (match s.quotes.waiting with
      | none => v
      | some r =>
        if scale = w.scale then v
        else match scale with
          | .settled =>
            match v.compute r.body with
            | .error reason => v.clearWaiting.replied r.ref (.refused reason none)
            | .ok result =>
              if 4 ≤ v.quotes.records.length then v.clearWaiting.replied r.ref (.refused .quotesFull none)
              else
                let n := v.quotes.nextNumber
                let records := v.quotes.records ++ [{ number := n, state := .opened, ageMs := 0, result := result }]
                let priced : State :=
                  { v with
                    quotes :=
                    { v.quotes with
                      records := records, waiting := none
                      nextNumber := advanceCounter (records.map Quote.number) n } }
                (priced.setBank result.bank { v.bank result.bank with refs := (v.bank result.bank).refs + 1 }).replied r.ref
                  (.quote n v.hall.station result)
          | .empty => v.clearWaiting.replied r.ref (.refused .noParcel none)
          | .range => v.clearWaiting.replied r.ref (.refused .overload none)
          | .noZero | .moving | .sensor => v)

/-- Invalid sequences and the way into and out of SENSOR, with the gap count (R3, R4, R5, R20), a RATE that waits being refused
SENSOR at the way in (R88). A sequence is invalid when its reference is more than 3% from the nominal count or an enabled cell's
count is at an end of its range (R3). A WEIGHT notice goes out when the gap count is 32 and state or weight differ from the last
reported pair (R20); that it looks at the state before the sequence has its effect, and comes before the refusal, is the model's
reading (log 9). -/
def Obligations.SensorFaultAndRecovery : Prop :=
  ∀ (counts : List Int) (reference : Int) (cfg : Setup) (s : State),
    s.setup = some cfg → s.scratch = .clear → RequestsEarlier s →
    let w := s.weighing
    let invalid : Prop := 3 * cfg.nominal < 100 * (reference - cfg.nominal).natAbs
      ∨ ∃ c ∈ cfg.cells, counts.getD (c.channel - 1) 0 = -32768 ∨ counts.getD (c.channel - 1) 0 = 32767
    let gap := min (w.noticeGap + 1) 32
    let due := gap = 32 ∧ (w.scale ≠ w.reportedState ∨ w.weightField ≠ w.reportedWeight)
    let u : State :=
      { s with
        weighing :=
        { w with
          noticeGap := if due then 0 else gap, converting := false
          reportedState := if due then w.scale else w.reportedState
          reportedWeight := if due then w.weightField else w.reportedWeight } }
    let v : State := if due then u.noticed (.weight w.scale w.weightField w.scale.stable) else u
    (invalid →
      (w.scale = .sensor →
        exec (.sequenceEnd counts reference) s = .next (v.onWeighing fun w => { w with validRun := 0 }))
      ∧ (w.scale ≠ .sensor → w.invalidRun + 1 < 64 →
        exec (.sequenceEnd counts reference) s =
          .next (v.onWeighing fun w => { w with invalidRun := w.invalidRun + 1 }))
      ∧ (w.scale ≠ .sensor → w.invalidRun + 1 = 64 →
        let lost : State := v.onWeighing fun w =>
          { w with
            invalidRun := 64, validRun := 0, firstHalf := [], secondHalf := [], filling := .first, kept := []
            scale := .sensor }
        exec (.sequenceEnd counts reference) s = .next (match s.quotes.waiting with
          | none => lost
          | some r => lost.clearWaiting.replied r.ref (.refused .sensor none))))
    ∧ (¬ invalid → w.scale = .sensor →
      (w.validRun + 1 < 8 →
        exec (.sequenceEnd counts reference) s =
          .next (v.onWeighing fun w => { w with validRun := w.validRun + 1 }))
      ∧ (w.validRun + 1 = 8 →
        exec (.sequenceEnd counts reference) s = .next (v.onWeighing fun w =>
          { w with
            invalidRun := 0, validRun := 0, firstHalf := [], secondHalf := [], filling := .first, kept := []
            scale := if w.zinit.isSome then .moving else .noZero })))

/-- ZERO in its three rows (R18). No RATE waits in EMPTY or SETTLED (ScaleSound). That the newest half-mean counts as 0 where
none is kept, which no run reaches in EMPTY or SETTLED, is the model's reading (log 26). -/
def Obligations.ZeroRequestByScaleState : Prop :=
  ∀ (tag : Nat) (s : State), Accepts 4 s → ScaleSound s →
    let m := s.weighing.kept.getLast?.getD 0
    (s.weighing.scale = .empty ∨ s.weighing.scale = .settled →
      exec (.zero tag) s = .next (match s.weighing.zinit with
        | none => s.answered tag 4 (.refused .zeroRange none)
        | some z =>
          if z - 8000 ≤ s.weighing.zo + m ∧ s.weighing.zo + m ≤ z + 8000 then
            (s.onWeighing fun w =>
              { w with
                zo := w.zo + m, firstHalf := w.firstHalf.map (· - m), secondHalf := w.secondHalf.map (· - m)
                kept := w.kept.map (· - m), scale := .empty }).answered tag 4 (.done .plain)
          else s.answered tag 4 (.refused .zeroRange none)))
    ∧ (s.weighing.scale ≠ .empty → s.weighing.scale ≠ .settled →
      exec (.zero tag) s = .next (s.answered tag 4 (.refused .unsettled none)))

/-- The rounding of sample weights and half-means (R6, R8): the whole number nearest to the quotient, an exact half going to
the one of larger magnitude. Rounding of a half-mean (R9): the interval is chosen from the unrounded value, and an exact half
goes away from zero. -/
def Obligations.HalfMeanRounding : Prop :=
  (∀ (n : Int) (d : Nat), 0 < d →
    2 * (d * roundDiv n d - n).natAbs ≤ d ∧ (2 * (d * roundDiv n d - n).natAbs = d → n.natAbs < (d * roundDiv n d).natAbs))
  ∧ ∀ m : Int,
    let e : Int := if m < 100000 then 20 else 100
    rounded m % e = 0 ∧ 2 * (rounded m - m).natAbs ≤ e.natAbs
      ∧ (2 * (rounded m - m).natAbs = e.natAbs → m.natAbs < (rounded m).natAbs)

/-! ### The dimension gauge -/

/-- GATE_SAMPLE (R25): an equal sample ends the run, a differing one lengthens it, and the eighth is accepted at that event. -/
def Obligations.GateSampleDebounces : Prop :=
  ∀ (level : GateLevel) (s : State), s.started = true →
    (level = s.gauge.accepted → exec (.gateSample level) s = .next (s.onGauge fun g => { g with gateRun := 0 }))
    ∧ (level ≠ s.gauge.accepted → s.gauge.gateRun + 1 < 8 →
      exec (.gateSample level) s = .next (s.onGauge fun g => { g with gateRun := g.gateRun + 1 }))
    ∧ (level ≠ s.gauge.accepted → 8 ≤ s.gauge.gateRun + 1 →
      exec (.gateSample level) s = exec (.gateLevelAccepted level) s)

/-- A change of the accepted gate level begins, completes, discards or clears a pass, and a completed pass's record goes to the
measurement slot; the level is accepted and the run of differing samples ends (R25, R26, R27, R34, R35, R36). That the command
accepts the level whatever the run stands at, standing for the samples still wanting, is the model's reading (log 15). -/
def Obligations.AcceptedGateLevelActsOnThePass : Prop :=
  ∀ (level : GateLevel) (s : State), s.started = true → s.gauge.accepted ≠ level →
    exec (.gateLevelAccepted level) s = .next (s.onGauge fun g =>
      match g.pass, level with
      | .idle, .blocked =>
        { g with
          accepted := .blocked, gateRun := 0, pass := .passing, length := 0, highWater := 0, width := 0, height := 0
          scanCount := 0, edge := false, irregular := false, stallTimer := 0 }
      | .passing, .clear =>
        if g.length = 0 ∨ g.width = 0 ∨ g.height = 0 then
          { g with accepted := .clear, gateRun := 0, pass := .idle, discardCount := min (g.discardCount + 1) 65535 }
        else
          { g with
            accepted := .clear, gateRun := 0, pass := .idle
            slot := some
              { length := if 2000 < g.length then 2000 else g.length, width := g.width, height := g.height,
                edge := g.edge, irregular := g.irregular, long := decide (2000 < g.length) }
            replacedCount := if g.slot.isSome then min (g.replacedCount + 1) 65535 else g.replacedCount }
      | .stalled, .clear => { g with accepted := .clear, gateRun := 0, pass := .idle }
      | _, _ => { g with accepted := level, gateRun := 0 })

/-- ENCODER_COUNT (R29, R30): an advance restarts the stall timer, and each new multiple of 5 mm is scanned once; EDGE is set by
an unmasked blocked border beam (R31), and IRREGULAR by two consecutive unmasked beams, both unblocked, between the lowest and
the highest blocked unmasked one, masked beams being passed over (R32). The extent of a scan runs from the lowest to the highest
blocked unmasked beam, 5 mm a beam, and is 0 without one (R30). -/
def Obligations.EncoderCountMeasuresThePass : Prop :=
  (∀ mask blocked : BeamSet,
    ((∀ n, n < 128 → mask.getLsbD n = true ∨ blocked.getLsbD n = false) → scanExtent mask blocked = 0)
    ∧ (∀ lo hi, lo ≤ hi → hi < 128 →
      (mask.getLsbD lo = false ∧ blocked.getLsbD lo = true) → (mask.getLsbD hi = false ∧ blocked.getLsbD hi = true) →
      (∀ n, n < 128 → mask.getLsbD n = false → blocked.getLsbD n = true → lo ≤ n ∧ n ≤ hi) →
      scanExtent mask blocked = (hi - lo + 1) * 5)
    ∧ (scanIrregular mask blocked = true ↔
      ∃ lo i j hi, lo < i ∧ i < j ∧ j < hi ∧ hi < 128
        ∧ (mask.getLsbD lo = false ∧ blocked.getLsbD lo = true) ∧ (mask.getLsbD hi = false ∧ blocked.getLsbD hi = true)
        ∧ (mask.getLsbD i = false ∧ blocked.getLsbD i = false) ∧ (mask.getLsbD j = false ∧ blocked.getLsbD j = false)
        ∧ ∀ n, i < n → n < j → mask.getLsbD n = true))
  ∧ ∀ (cfg : Setup) (wb hb : BeamSet) (s : State), s.setup = some cfg →
    (s.gauge.pass ≠ .passing → ∀ dir, exec (.encoderCount dir wb hb) s = .next s)
    ∧ (s.gauge.pass = .passing →
      exec (.encoderCount .reverse wb hb) s = .next (s.onGauge fun g => { g with length := g.length - 1 }))
    ∧ (s.gauge.pass = .passing → min (s.gauge.length + 1) 65535 ≤ s.gauge.highWater →
      exec (.encoderCount .forward wb hb) s =
        .next (s.onGauge fun g => { g with length := min (g.length + 1) 65535 }))
    ∧ (s.gauge.pass = .passing → s.gauge.highWater < min (s.gauge.length + 1) 65535 →
      min (s.gauge.length + 1) 65535 % 5 ≠ 0 →
      exec (.encoderCount .forward wb hb) s = .next (s.onGauge fun g =>
        { g with
          length := min (g.length + 1) 65535, highWater := min (g.length + 1) 65535, stallTimer := 0 }))
    ∧ (s.gauge.pass = .passing → s.gauge.highWater < min (s.gauge.length + 1) 65535 →
      min (s.gauge.length + 1) 65535 % 5 = 0 →
      exec (.encoderCount .forward wb hb) s = .next (s.onGauge fun g =>
        { g with
          length := min (g.length + 1) 65535, highWater := min (g.length + 1) 65535, stallTimer := 0
          width := max g.width (scanExtent cfg.widthMask wb), height := max g.height (scanExtent cfg.heightMask hb)
          scanCount := min (g.scanCount + 1) 65535
          edge := g.edge
            || ((!cfg.widthMask.getLsbD 0 && wb.getLsbD 0) || (!cfg.widthMask.getLsbD 127 && wb.getLsbD 127))
            || ((!cfg.heightMask.getLsbD 0 && hb.getLsbD 0) || (!cfg.heightMask.getLsbD 127 && hb.getLsbD 127))
          irregular := g.irregular || scanIrregular cfg.widthMask wb || scanIrregular cfg.heightMask hb }))

/-- ENCODER_ERROR counts, saturating (R28); STALL_TIMER_EXPIRY abandons the pass and counts it, and the pass's figures and the
slot stand (R33). That the command first brings the clock to the timer's 5 s is the model's choice (log 2). -/
def Obligations.EncoderErrorsAndStalls : Prop :=
  ∀ s : State,
    (s.started = true → exec .encoderError s =
      .next (s.onGauge fun g => { g with encoderErrors := min (g.encoderErrors + 1) 65535 }))
    ∧ (s.gauge.pass = .passing → s.gauge.stallTimer ≤ 5000 →
      exec .stallTimerExpiry s = .next
        { s.elapse (5000 - s.gauge.stallTimer) with
          gauge :=
          { s.gauge with
            pass := .stalled, stallTimer := 5000, stallCount := min (s.gauge.stallCount + 1) 65535 } })

/-! ### The tariff store -/

/-- BANKOPEN clears an EMPTY or READY bank and makes it LOADING while the other is not; it is refused BANK_BUSY otherwise, and
BAD_REQUEST for a bank name other than A or B (R41). -/
def Obligations.BankOpenStartsALoad : Prop :=
  (∀ (tag bank flag : Nat) (s : State), Accepts 7 s → bank ≠ 1 → bank ≠ 2 →
    exec (.bankOpen tag bank flag) s = .next (s.answered tag 7 (.refused .badRequest none)))
  ∧ ∀ (tag bank flag : Nat) (id : BankId) (s : State), Accepts 7 s → BankId.ofCode bank = some id → flag ≤ 1 →
    exec (.bankOpen tag bank flag) s = .next
      (if ((s.bank id).state = .empty ∨ (s.bank id).state = .ready) ∧ (s.bank id.other).state ≠ .loading then
        ((s.withCursor
              { records := 0, sum := 0, cells := 0, bands := 0, zones := 0, surcharges := 0, openCell := none,
                lastHigh := none }).setBank id
          { state := .loading, version := 0, refs := 0, openDefault := decide (flag = 1), cells := [], bands := [],
            zones := [], surcharges := [] }).answered tag 7 (.done .plain)
      else s.answered tag 7 (.refused .bankBusy none))

/-- CELL, BAND, ZONE and SURCH records that pass their tests are appended and counted, and the open cell and the last high code
follow (R42 to R46, R50). -/
def Obligations.RecordsAreLoaded : Prop :=
  (∀ (tag : Nat) (id : BankId) (s : State), s.scratch = .clear → s.started = true → s.bankIn .loading = some id →
    s.tariff.cursor.openCell = none →
    (∀ low high zone route flags : Nat, s.link.full 10 = false → low ≤ high → high ≤ 999999 → zone ≤ 15 →
      route ≤ 31 → flags ≤ 3 → (∀ h, s.tariff.cursor.lastHigh = some h → h < low) → s.tariff.cursor.zones < 256 →
      exec (.zone tag low high zone route flags) s = .next
        (((s.withCursor
                { s.tariff.cursor with
                  records := s.tariff.cursor.records + 1
                  sum := (s.tariff.cursor.sum + (low + high + zone + route + flags)) % 65536
                  zones := s.tariff.cursor.zones + 1
                  lastHigh := some high }).setBank id
            { s.bank id with
              zones := (s.bank id).zones ++
                [{ low := low, high := high, zone := zone, route := route, remote := decide (flags % 2 = 1),
                   noInsurance := decide (2 ≤ flags) }] }).answered tag 10 (.done .plain)))
    ∧ (∀ letter oversize irregular remoteRate unit price slot : Nat, s.link.full 11 = false →
      s.productIndex letter = some slot → oversize ≤ 999999 → irregular ≤ 999999 → remoteRate ≤ 500 → 1 ≤ unit →
      unit ≤ 1000000 → price ≤ 999999 → (∀ x ∈ (s.bank id).surcharges, x.slot ≠ slot) →
      exec (.surch tag letter oversize irregular remoteRate unit price) s = .next
        (((s.withCursor
                { s.tariff.cursor with
                  records := s.tariff.cursor.records + 1
                  sum := (s.tariff.cursor.sum + (letter + oversize + irregular + remoteRate + unit + price)) % 65536
                  surcharges := s.tariff.cursor.surcharges + 1 }).setBank id
            { s.bank id with
              surcharges := (s.bank id).surcharges ++
                [{ slot := slot, oversize := oversize, irregular := irregular, remoteRate := remoteRate,
                   insuranceUnit := unit, insurancePrice := price }] }).answered tag 11 (.done .plain))))
  ∧
  ∀ (tag : Nat) (id : BankId) (s : State), s.scratch = .clear → s.started = true → s.bankIn .loading = some id →
    (∀ letter zone n slot : Nat, s.link.full 8 = false → s.productIndex letter = some slot → zone ≤ 15 → 1 ≤ n →
      n ≤ 12 → s.tariff.cursor.openCell = none →
      (∀ c ∈ (s.bank id).cells, c.slot ≠ slot ∨ c.zone ≠ zone) → s.tariff.cursor.bands + n ≤ 512 →
      exec (.cell tag letter zone n) s = .next
        (((s.withCursor
                { s.tariff.cursor with
                  records := s.tariff.cursor.records + 1
                  sum := (s.tariff.cursor.sum + (letter + zone + n)) % 65536
                  cells := s.tariff.cursor.cells + 1
                  openCell := some { slot := slot, zone := zone, expected := n, lastU := none } }).setBank id
            { s.bank id with
              cells := (s.bank id).cells
                ++ [{ slot := slot, zone := zone, first := s.tariff.cursor.bands, count := n }] }).answered
          tag 8 (.done .plain)))
    ∧ (∀ (u p0 i sw p1 : Nat) (cell : OpenCell), s.link.full 9 = false → 1 ≤ u → u ≤ 999999 → p0 ≤ 999999 →
      i ≤ 999999 → sw ≤ 999999 → p1 ≤ 999999 → s.tariff.cursor.openCell = some cell →
      (∀ last, cell.lastU = some last → last < u) →
      exec (.band tag u p0 i sw p1) s = .next
        (((s.withCursor
                { s.tariff.cursor with
                  records := s.tariff.cursor.records + 1
                  sum := (s.tariff.cursor.sum + (u + p0 + i + sw + p1)) % 65536
                  bands := s.tariff.cursor.bands + 1
                  openCell :=
                    if cell.expected ≤ 1 then none
                    else some { cell with expected := cell.expected - 1, lastU := some u } }).setBank id
            { s.bank id with
              bands := (s.bank id).bands ++ [{ u := u, p0 := p0, i := i, sw := sw, p1 := p1 }] }).answered
          tag 9 (.done .plain)))

/-- A loading request while neither bank is LOADING is refused NOT_LOADING, with no change (R48). -/
def Obligations.LoadingNeedsALoadingBank : Prop :=
  ∀ (i : Instr) (tag : Nat) (r : Request) (s : State), i.request? = some (tag, r) → Accepts r.kind s →
    8 ≤ r.kind → r.kind ≤ 12 → (∀ k, r ≠ .unknown k) → s.tariff.bankA.state ≠ .loading →
    s.tariff.bankB.state ≠ .loading →
    exec i s = .next (s.answered tag r.kind (.refused .notLoading none))

/-- A record out of order, or beyond the bank's room, empties the bank, clears the cursor and is refused LOAD_ERROR with its
detail; the other bank is not affected (R43, R44, R45, R46, R47). Before that a record with a field outside its range, or with a
letter that START did not configure, is refused BAD_REQUEST: it is not loaded, the cursor does not move and the bank stays
LOADING (R42). -/
def Obligations.StructuralFaultEndsTheLoad : Prop :=
  ∀ (tag : Nat) (id : BankId) (s : State), s.scratch = .clear → s.started = true → s.bankIn .loading = some id →
    let ended : State := (s.withCursor .cleared).setBank id .cleared
    (∀ letter zone n slot : Nat, s.link.full 8 = false → s.productIndex letter = some slot → zone ≤ 15 → 1 ≤ n →
      n ≤ 12 →
      ((s.tariff.cursor.openCell ≠ none ∨ ∃ c ∈ (s.bank id).cells, c.slot = slot ∧ c.zone = zone) →
        exec (.cell tag letter zone n) s = .next (ended.answered tag 8 (.refused .loadError (some .order))))
      ∧ (s.tariff.cursor.openCell = none → (∀ c ∈ (s.bank id).cells, c.slot ≠ slot ∨ c.zone ≠ zone) →
        512 < s.tariff.cursor.bands + n →
        exec (.cell tag letter zone n) s = .next (ended.answered tag 8 (.refused .loadError (some .full)))))
    ∧ (∀ u p0 i sw p1 : Nat, s.link.full 9 = false → 1 ≤ u → u ≤ 999999 → p0 ≤ 999999 → i ≤ 999999 →
      sw ≤ 999999 → p1 ≤ 999999 →
      (s.tariff.cursor.openCell = none
        ∨ ∃ cell last, s.tariff.cursor.openCell = some cell ∧ cell.lastU = some last ∧ u ≤ last) →
      exec (.band tag u p0 i sw p1) s = .next (ended.answered tag 9 (.refused .loadError (some .order))))
    ∧ (∀ low high zone route flags : Nat, s.link.full 10 = false → low ≤ high → high ≤ 999999 → zone ≤ 15 →
      route ≤ 31 → flags ≤ 3 →
      ((s.tariff.cursor.openCell ≠ none ∨ ∃ h, s.tariff.cursor.lastHigh = some h ∧ low ≤ h) →
        exec (.zone tag low high zone route flags) s =
          .next (ended.answered tag 10 (.refused .loadError (some .order))))
      ∧ (s.tariff.cursor.openCell = none → (∀ h, s.tariff.cursor.lastHigh = some h → h < low) →
        256 ≤ s.tariff.cursor.zones →
        exec (.zone tag low high zone route flags) s =
          .next (ended.answered tag 10 (.refused .loadError (some .full)))))
    ∧ (∀ letter oversize irregular remoteRate unit price slot : Nat, s.link.full 11 = false →
      s.productIndex letter = some slot → oversize ≤ 999999 → irregular ≤ 999999 → remoteRate ≤ 500 → 1 ≤ unit →
      unit ≤ 1000000 → price ≤ 999999 →
      (s.tariff.cursor.openCell ≠ none ∨ ∃ x ∈ (s.bank id).surcharges, x.slot = slot) →
      exec (.surch tag letter oversize irregular remoteRate unit price) s =
        .next (ended.answered tag 11 (.refused .loadError (some .order))))
    ∧ (∀ letter zone n : Nat, s.link.full 8 = false →
      s.productIndex letter = none ∨ 15 < zone ∨ n = 0 ∨ 12 < n →
      exec (.cell tag letter zone n) s = .next (s.answered tag 8 (.refused .badRequest none)))
    ∧ (∀ u p0 i sw p1 : Nat, s.link.full 9 = false →
      u = 0 ∨ 999999 < u ∨ 999999 < p0 ∨ 999999 < i ∨ 999999 < sw ∨ 999999 < p1 →
      exec (.band tag u p0 i sw p1) s = .next (s.answered tag 9 (.refused .badRequest none)))
    ∧ (∀ low high zone route flags : Nat, s.link.full 10 = false →
      999999 < low ∨ 999999 < high ∨ high < low ∨ 15 < zone ∨ 31 < route ∨ 3 < flags →
      exec (.zone tag low high zone route flags) s = .next (s.answered tag 10 (.refused .badRequest none)))
    ∧ (∀ letter oversize irregular remoteRate unit price : Nat, s.link.full 11 = false →
      s.productIndex letter = none ∨ 999999 < oversize ∨ 999999 < irregular ∨ 500 < remoteRate ∨ unit = 0
        ∨ 1000000 < unit ∨ 999999 < price →
      exec (.surch tag letter oversize irregular remoteRate unit price) s =
        .next (s.answered tag 11 (.refused .badRequest none)))

/-- BANKCLOSE in its three cases (R49). -/
def Obligations.BankCloseChecksCountAndSum : Prop :=
  ∀ (tag version count sum : Nat) (id : BankId) (s : State), Accepts 12 s → s.bankIn .loading = some id →
    let ended : State := (s.withCursor .cleared).setBank id .cleared
    exec (.bankClose tag version count sum) s = .next
      (if s.tariff.cursor.openCell ≠ none then ended.answered tag 12 (.refused .loadError (some .order))
       else if count ≠ s.tariff.cursor.records ∨ sum ≠ s.tariff.cursor.sum then
        ended.answered tag 12 (.refused .loadError (some .sum))
       else
        ((s.withCursor .cleared).setBank id
          { s.bank id with state := .ready, version := version, refs := 0 }).answered tag 12
            (.done (.bank id version)))

/-- SWAP: a READY bank becomes ACTIVE, the bank that was ACTIVE becomes RETIRING while quotes refer to it and EMPTY
otherwise, DONE comes before the TARIFFCHANGED notice, and scope HALL owes a CUTOVER of the new version but in MUTED; the
other states of the bank refuse it, and a bank or scope outside its list is refused BAD_REQUEST (R51, R52, R53, R56). -/
def Obligations.SwapActivatesAReadyBank : Prop :=
  (∀ (tag bank scope : Nat) (s : State), Accepts 13 s → (bank ≠ 1 ∧ bank ≠ 2) ∨ (scope ≠ 1 ∧ scope ≠ 2) →
    exec (.swap tag bank scope) s = .next (s.answered tag 13 (.refused .badRequest none)))
  ∧ ∀ (tag bank scope : Nat) (id : BankId) (s : State), Accepts 13 s → BankId.ofCode bank = some id →
    scope = 1 ∨ scope = 2 →
    ((s.bank id).state = .active → exec (.swap tag bank scope) s = .next (s.answered tag 13 (.refused .already none)))
    ∧ ((s.bank id).state = .loading ∨ (s.bank id).state = .retiring →
      exec (.swap tag bank scope) s = .next (s.answered tag 13 (.refused .bankBusy none)))
    ∧ ((s.bank id).state = .empty →
      exec (.swap tag bank scope) s = .next (s.answered tag 13 (.refused .noTariff none)))
    ∧ ((s.bank id).state = .ready →
      let old := s.bank id.other
      let displaced : Bank := if 0 < old.refs then { old with state := .retiring } else .cleared
      let wasActive := old.state = .active
      let u : State := (s.setBank id { s.bank id with state := .active }).setBank id.other
        (if wasActive then displaced else old)
      let v : State := (u.answered tag 13 (.done (.bank id (s.bank id).version))).noticed
        (.tariffChanged id (s.bank id).version
          (if wasActive then some (old.version, displaced.state) else none)
          (if scope = 2 then .swapHall else .swapLocal))
      exec (.swap tag bank scope) s = .next
        (if scope = 2 ∧ s.hall.state ≠ .muted then
          State.offerOwed { v with tariff := { v.tariff with owedCutover := some (s.bank id).version } }
        else v))

/-- A heard CUTOVER of a version: nothing when it is the ACTIVE bank's, the activation of a READY bank with it, or a
CUTOVERMISSED notice; nothing is owed (R55, R56). Which of two READY banks of the version is activated is not stated by the
manual (log 13): the statement takes whichever `readyBank` gives, and says it is one of them. -/
def Obligations.HeardCutoverActivatesOrIsMissed : Prop :=
  ∀ (station group version : Nat) (s : State), HeardFromPeer station group s →
    let active := s.activeBank.map fun id => (s.bank id).version
    let h := s.heardBy station group
    (active = some version → exec (.heardCutover station group version) s = .next h)
    ∧ (active ≠ some version → s.readyBank version = none →
      exec (.heardCutover station group version) s =
        .next (h.noticed (.cutoverMissed version station active)))
    ∧ (∀ id, active ≠ some version → s.readyBank version = some id →
      (s.bank id).state = .ready ∧ (s.bank id).version = version
        ∧ ∃ t, exec (.heardCutover station group version) s = .next t
          ∧ t.bank id = { s.bank id with state := .active }
          ∧ t.bank id.other =
            (if (s.bank id.other).state = .active then
              (if 0 < (s.bank id.other).refs then { s.bank id.other with state := .retiring } else .cleared)
            else s.bank id.other)
          ∧ t.tariff.owedCutover = s.tariff.owedCutover ∧ t.tariff.cursor = s.tariff.cursor
          ∧ t.link = (h.noticed (.tariffChanged id version
              (if (s.bank id.other).state = .active then
                some ((s.bank id.other).version, if 0 < (s.bank id.other).refs then .retiring else .empty)
              else none) (.cutover station))).link
          ∧ t.hall = h.hall ∧ t.quotes = s.quotes ∧ t.alloc = s.alloc ∧ t.bags = s.bags
          ∧ t.weighing = s.weighing ∧ t.gauge = s.gauge)
    ∧ (s.readyBank version = none → (∀ id, (s.bank id).state = .ready → (s.bank id).version ≠ version))

/-- Zone lookup (R57): the entry that covers the code, else the open default, else unroutable. Band lookup (R58, R75): the
first band of the cell that reaches the weight, with the U of the band before it in the same cell, or 0, as its lower limit. -/
def Obligations.ZoneAndBandLookup : Prop :=
  (∀ (b : Bank) (d : Nat),
    (∀ z ∈ b.zones, (∀ y ∈ b.zones, y.low ≤ d → d ≤ y.high → y = z) → z.low ≤ d → d ≤ z.high →
      b.lookupZone d = some { zone := z.zone, route := z.route, remote := z.remote, noInsurance := z.noInsurance })
    ∧ ((∀ z ∈ b.zones, d < z.low ∨ z.high < d) →
      b.lookupZone d =
        if b.openDefault then some { zone := 0, route := 0, remote := false, noInsurance := false } else none))
  ∧ ∀ (b : Bank) (cell : TariffCell) (wc : Nat),
    let bands := (b.bands.drop cell.first).take cell.count
    ((∀ x ∈ bands, x.u < wc) → b.lookupBand cell wc = none)
    ∧ (∀ (n : Nat) (x : BandRecord), bands[n]? = some x → wc ≤ x.u → (∀ y ∈ bands.take n, y.u < wc) →
      b.lookupBand cell wc = some (x, match n with
        | 0 => 0
        | k + 1 => ((bands[k]?).map (·.u)).getD 0))

/-- The band price (R76), the remote line (R78) and the rounding of the total (R80), for every figure. -/
def Obligations.PriceArithmetic : Prop :=
  (∀ (x : BandRecord) (low wc : Nat),
    bandPrice x low wc =
      if x.sw = 0 ∨ wc ≤ low + x.i then x.p0 else x.p0 + ((wc - low - x.i + x.sw - 1) / x.sw) * x.p1)
  ∧ (∀ price rate : Nat, remoteLine price rate = (price * rate + 500) / 1000)
  ∧ (∀ n unit : Nat, 0 < unit →
    nearestMultiple n unit % unit = 0
      ∧ (2 * ((nearestMultiple n unit : Int) - n) ≤ unit ∧ -(unit : Int) < 2 * ((nearestMultiple n unit : Int) - n)))

/-! ### The rating unit and the quote table -/

/-- A result that the rating unit hands over (R66 to R81): weight, settle number and dimensions from the RATE or the parcel
record; priced under the ACTIVE bank and its version, in the cell of product and zone and the band of the chargeable weight,
which is the greater of the two weights and within the product's maximum; each price line, the flags that call for it, the
total a multiple of the rounding unit in range, and the rounding line the difference of total and subtotal. -/
def Obligations.QuotedResultHoldsTogether : Prop :=
  ∀ (s : State) (cfg : Setup) (body : RateBody) (r : RateResult), s.setup = some cfg → 0 < cfg.roundingUnit →
    s.compute body = .ok r →
    ∃ (id : BankId) (slot : Nat) (p : Product) (z : ZoneAnswer) (cell : TariffCell) (band : BandRecord) (low : Nat),
      s.activeBank = some id ∧ r.bank = id ∧ r.version = (s.bank id).version
      ∧ s.productIndex body.letter = some slot ∧ s.products[slot]? = some p ∧ p.enabled = true
      ∧ (s.bank id).lookupZone body.destination = some z ∧ r.zone = z.zone ∧ r.route = z.route
      ∧ r.letter = body.letter ∧ r.destination = body.destination
      ∧ r.wc = max r.wa (r.wv.getD 0) ∧ r.wc ≤ p.maxWeight
      ∧ (r.wv.isSome ↔ p.volumetric = true)
      ∧ (∀ d, r.dims = some d → d.a ≤ p.absLength ∧ d.a + 2 * (d.b + d.c) ≤ p.absGirth)
      ∧ (∀ d, r.dims = some d → p.volumetric = true →
          (d.source = .gauge → d.edge = false) ∧ r.wv = some ((d.a * d.b * d.c + cfg.divisor - 1) / cfg.divisor))
      ∧ (p.volumetric = true → r.dims ≠ none)
      ∧ r.price.total ≤ 999999 ∧ r.price.total % cfg.roundingUnit = 0
      ∧ (let sum := r.price.band + r.price.oversize + r.price.irregular + r.price.remote + r.price.insurance
         r.price.rounding = (r.price.total : Int) - (sum : Nat)
          ∧ r.price.total = (2 * sum + cfg.roundingUnit) / (2 * cfg.roundingUnit) * cfg.roundingUnit)
      ∧ (r.flags.byVolume = true ↔ r.wa < r.wv.getD 0)
      ∧ r.flags.manualWeight = body.flags.testBit 0 ∧ r.flags.manualDims = body.flags.testBit 1
      ∧ r.flags.remote = z.remote
      ∧ (body.declaredValue = 0 → r.declared = none ∧ r.price.insurance = 0 ∧ r.flags.insured = false)
      ∧ (0 < body.declaredValue →
          r.declared = some body.declaredValue ∧ r.flags.insured = true ∧ body.declaredValue ≤ p.maxValue
            ∧ z.noInsurance = false)
      ∧ ((s.bank id).cells.find? fun c => decide (c.slot = slot ∧ c.zone = z.zone)) = some cell
      ∧ (s.bank id).lookupBand cell r.wc = some (band, low)
      ∧ r.price.band = (if band.sw = 0 ∨ r.wc ≤ low + band.i then band.p0
          else band.p0 + ((r.wc - low - band.i + band.sw - 1) / band.sw) * band.p1)
      ∧ (r.flags.large = true ↔ ∃ d, r.dims = some d ∧ (p.longSide < d.a ∨ p.girth < d.a + 2 * (d.b + d.c)))
      ∧ (r.flags.irregular = true ↔ ∃ d, r.dims = some d ∧ d.source = .gauge ∧ d.irregular = true)
      ∧ (let x := (s.bank id).surcharges.find? fun x => decide (x.slot = slot)
         r.price.oversize = (if r.flags.large then (x.map (·.oversize)).getD 0 else 0)
          ∧ r.price.irregular = (if r.flags.irregular then (x.map (·.irregular)).getD 0 else 0)
          ∧ r.price.remote = (if z.remote then (r.price.band * (x.map (·.remoteRate)).getD 0 + 500) / 1000 else 0)
          ∧ (0 < body.declaredValue → ∃ y, x = some y ∧
              r.price.insurance = (body.declaredValue + y.insuranceUnit - 1) / y.insuranceUnit * y.insurancePrice))
      ∧ (body.flags.testBit 0 = true → r.wa = body.manualWeight ∧ r.settleNumber = none)
      ∧ (body.flags.testBit 0 = false →
          ∃ q, s.weighing.parcel = some q ∧ r.wa = q.weight ∧ r.settleNumber = some q.settleNumber)
      ∧ (∀ d, r.dims = some d → d.b ≤ d.a ∧ d.c ≤ d.b)
      ∧ (body.flags.testBit 1 = true →
          ∃ d, r.dims = some d ∧ [d.a, d.b, d.c].Perm [body.len1, body.len2, body.len3] ∧ d.source = .manual
            ∧ d.edge = false ∧ d.irregular = false ∧ d.long = false)
      ∧ (body.flags.testBit 1 = false → body.flags.testBit 0 = true → r.dims = none)
      ∧ (body.flags.testBit 1 = false → body.flags.testBit 0 = false →
          match s.weighing.parcel.bind (·.dims) with
          | none => r.dims = none
          | some g => ∃ d, r.dims = some d ∧ [d.a, d.b, d.c].Perm [g.length, g.width, g.height] ∧ d.source = .gauge
              ∧ d.edge = g.edge ∧ d.irregular = g.irregular ∧ d.long = g.long)

/-- RATE at the quote table (R85, R86, R89): without an ACTIVE bank refused; with manual weight, or while SETTLED, computed and
answered at once, a successful result being stored as a new OPEN quote that takes a reference, or refused QUOTES_FULL; in
MOVING made to wait, or refused BUSY; in the other scale states refused. The computation's stages in their order, each with its
refusal (R67 to R75, R79 to R82). The number of the next quote follows the last, 65535 being followed by 1 and numbers still
held being passed over (R90). -/
def Obligations.RateIsPricedWaitsOrIsRefused : Prop :=
  (∀ (tag : Nat) (body : RateBody) (s : State), Accepts 14 s → rateFieldsGood body = true →
    let refusal (reason : Reason) := s.answered tag 14 (.refused reason none)
    (s.activeBank = none → exec (.rate tag body) s = .next (refusal .noTariff))
    ∧ (s.activeBank ≠ none → body.flags.testBit 0 = true ∨ s.weighing.scale = .settled →
      exec (.rate tag body) s = .next (match s.compute body with
        | .error reason => refusal reason
        | .ok r =>
          if 4 ≤ s.quotes.records.length then refusal .quotesFull
          else
            let n := s.quotes.nextNumber
            let records := s.quotes.records ++ [{ number := n, state := .opened, ageMs := 0, result := r }]
            let u : State :=
              { s with
                quotes :=
                { s.quotes with
                  records := records
                  nextNumber := advanceCounter (records.map Quote.number) n } }
            (u.setBank r.bank { s.bank r.bank with refs := (s.bank r.bank).refs + 1 }).answered tag 14
              (.quote n s.hall.station r)))
    ∧ (s.activeBank ≠ none → body.flags.testBit 0 = false →
      (s.weighing.scale = .noZero → exec (.rate tag body) s = .next (refusal .noZero))
      ∧ (s.weighing.scale = .range → exec (.rate tag body) s = .next (refusal .overload))
      ∧ (s.weighing.scale = .sensor → exec (.rate tag body) s = .next (refusal .sensor))
      ∧ (s.weighing.scale = .empty → exec (.rate tag body) s = .next (refusal .noParcel))
      ∧ (s.weighing.scale = .moving → exec (.rate tag body) s = .next
          (if s.quotes.waiting = none then
            { s.taken tag 14 with
              quotes := { s.quotes with waiting := some { ref := s.nextRef tag, body := body, timer := 0 } } }
          else refusal .busy))))
  ∧ (∀ (held : List Nat) (n : Nat), held.length ≤ 4 → 1 ≤ n → n ≤ 65535 →
      let step (j : Nat) := (n - 1 + j) % 65535 + 1
      ∃ j, 1 ≤ j ∧ advanceCounter held n = step j ∧ step j ∉ held ∧ ∀ i, 1 ≤ i → i < j → step i ∈ held)
  ∧ ∀ (s : State) (cfg : Setup) (id : BankId) (body : RateBody), s.setup = some cfg → s.activeBank = some id →
    body.flags.testBit 0 = true ∨ s.weighing.parcel ≠ none →
    ((∀ slot p, s.productIndex body.letter = some slot → s.products[slot]? = some p → p.enabled = false) →
      s.compute body = .error .unknownProduct)
    ∧ ∀ (slot : Nat) (p : Product), s.productIndex body.letter = some slot → s.products[slot]? = some p →
      p.enabled = true →
      let read := if body.flags.testBit 0 then none else s.weighing.parcel
      let wa := if body.flags.testBit 0 then body.manualWeight else (read.map (·.weight)).getD 0
      let measured := if body.flags.testBit 1 then none else read.bind (·.dims)
      let sides : Option (Nat × Nat × Nat) :=
        if body.flags.testBit 1 then some (body.len1, body.len2, body.len3)
        else measured.map fun g => (g.length, g.width, g.height)
      let bank := s.bank id
      let surcharge := bank.surcharges.find? fun x => decide (x.slot = slot)
      let wv := if p.volumetric then
          (sides.map fun x => (x.1 * x.2.1 * x.2.2 + cfg.divisor - 1) / cfg.divisor).getD 0
        else 0
      let wc := max wa wv
      let beyond (side girth : Nat) : Bool := sides.any fun x =>
        let a := max x.1 (max x.2.1 x.2.2)
        decide (side < a) || decide (girth < a + 2 * (x.1 + x.2.1 + x.2.2 - a))
      match bank.lookupZone body.destination with
      | none => s.compute body = .error .unroutable
      | some z =>
        match bank.cells.find? fun c => decide (c.slot = slot ∧ c.zone = z.zone) with
        | none => s.compute body = .error .notServed
        | some cell =>
          if p.volumetric = true ∧ sides = none then s.compute body = .error .noDims
          else if p.volumetric = true ∧ measured.any (·.edge) = true then s.compute body = .error .dimsUnsure
          else if beyond p.absLength p.absGirth = true then s.compute body = .error .oversize
          else if p.maxWeight < wc then s.compute body = .error .overweight
          else match bank.lookupBand cell wc with
            | none => s.compute body = .error .overweight
            | some (band, low) =>
              if p.maxValue < body.declaredValue ∧ 0 < body.declaredValue then s.compute body = .error .valueLimit
              else if 0 < body.declaredValue ∧ (z.noInsurance = true ∨ surcharge = none) then
                s.compute body = .error .noInsurance
              else
                let price := if band.sw = 0 ∨ wc ≤ low + band.i then band.p0
                  else band.p0 + ((wc - low - band.i + band.sw - 1) / band.sw) * band.p1
                let sum := price + (if beyond p.longSide p.girth then (surcharge.map (·.oversize)).getD 0 else 0)
                  + (if measured.any (·.irregular) then (surcharge.map (·.irregular)).getD 0 else 0)
                  + (if z.remote then (price * (surcharge.map (·.remoteRate)).getD 0 + 500) / 1000 else 0)
                  + (if body.declaredValue = 0 then 0 else (surcharge.map fun x =>
                      (body.declaredValue + x.insuranceUnit - 1) / x.insuranceUnit * x.insurancePrice).getD 0)
                if 999999 < (2 * sum + cfg.roundingUnit) / (2 * cfg.roundingUnit) * cfg.roundingUnit then
                  s.compute body = .error .priceLimit
                else ∃ r, s.compute body = .ok r

/-- The waiting RATE ends: computed at an entry into SETTLED, refused by EMPTY, RANGE or SENSOR, or refused UNSETTLED at 3 s;
its reply goes to its own tag (R87, R88, R89). A run reaches the first three within SEQUENCE_END (HalfCompletionDecidesTheScale,
SensorFaultAndRecovery); that the commands of those events do the same in a state where they have not, which ScaleSound shuts
out, is the model's reading (log 16). That SETTLE_WAIT_TIMER_EXPIRY first brings the clock to 3 s is its choice (log 2). -/
def Obligations.WaitingRateEnds : Prop :=
  ∀ (w : WaitingRate) (s : State), s.scratch = .clear → s.quotes.waiting = some w →
    (s.weighing.scale = .settled →
      exec .waitingRateRelease s = .next (match s.compute w.body with
        | .error reason => s.clearWaiting.replied w.ref (.refused reason none)
        | .ok r =>
          if 4 ≤ s.quotes.records.length then s.clearWaiting.replied w.ref (.refused .quotesFull none)
          else
            let n := s.quotes.nextNumber
            let records := s.quotes.records ++ [{ number := n, state := .opened, ageMs := 0, result := r }]
            let u : State :=
              { s with
                quotes :=
                { s.quotes with
                  records := records, waiting := none
                  nextNumber := advanceCounter (records.map Quote.number) n } }
            (u.setBank r.bank { s.bank r.bank with refs := (s.bank r.bank).refs + 1 }).replied w.ref
              (.quote n s.hall.station r)))
    ∧ (s.weighing.scale = .empty → exec .waitingRateScaleRefusal s =
        .next (s.clearWaiting.replied w.ref (.refused .noParcel none)))
    ∧ (s.weighing.scale = .range → exec .waitingRateScaleRefusal s =
        .next (s.clearWaiting.replied w.ref (.refused .overload none)))
    ∧ (s.weighing.scale = .sensor → exec .waitingRateScaleRefusal s =
        .next (s.clearWaiting.replied w.ref (.refused .sensor none)))
    ∧ (exec .settleWaitTimerExpiry s =
        .next ((s.elapse (3000 - w.timer)).clearWaiting.replied w.ref (.refused .unsettled none)))

/-- QUOTE_EXPIRY removes an OPEN quote, drops its bank's reference and says nothing (R54, R91). CANCEL removes a quote, and a
COMMITTING one's COMMIT is refused CANCELLED before CANCEL is answered (R92). That QUOTE_EXPIRY first brings the clock to the
quote life is the model's choice (log 2). -/
def Obligations.QuotesExpireAndAreCancelled : Prop :=
  ∀ (n : Nat) (q : Quote) (s : State), s.scratch = .clear → s.quote? n = some q →
    let removed (u : State) : State :=
      State.setBank q.result.bank
        (if (u.bank q.result.bank).state = .retiring ∧ (u.bank q.result.bank).refs ≤ 1 then .cleared
          else { u.bank q.result.bank with refs := (u.bank q.result.bank).refs - 1 })
        { u with
          quotes :=
          { u.quotes with
            records := u.quotes.records.eraseP fun x => x.number == n
            pendingOrder := u.quotes.pendingOrder.erase n } }
    (q.state = .opened → exec (.quoteExpiry n) s =
      .next (removed (s.elapse ((s.setup.map (·.quoteLife)).getD 0 * 1000 - q.ageMs))))
    ∧ (∀ tag, s.started = true → s.link.full 16 = false → 1 ≤ n → n ≤ 65535 →
      exec (.cancel tag n) s = .next (match q.state with
        | .opened => (removed s).answered tag 16 (.done .plain)
        | .committing ref =>
          (((removed s).taken tag 16).replied ref (.refused .cancelled none)).said
            (.reply (some s.link.nextId) tag (.done .plain))))
    ∧ (∀ tag m, s.started = true → s.link.full 16 = false → 1 ≤ m → m ≤ 65535 → s.quote? m = none →
      exec (.cancel tag m) s = .next (s.answered tag 16 (.refused .noQuote none)))

/-- COMMIT's four tests in their order; the acceptance of a COMMIT that cannot complete at once: the quote is COMMITTING at
the end of the pending order, and the COMMIT is not answered; and of one that can: it completes within the event, as
COMMIT_COMPLETION does, its LABEL being the first message (R93, R94, R95, R96). In general the acceptance serves the whole
pending order, from the oldest, as the COMMIT_COMPLETIONs of its numbers would, with the messages those make; but that of the
COMMIT's own reply, when it has one, enters before any notice (R95, R96, R179). -/
def Obligations.CommitJoinsThePendingOrder : Prop :=
  (∀ (own : Nat) (before : List OutMsg),
    let mine (m : OutMsg) : Prop := ∃ tag body, m = .reply (some own) tag body
    (∀ m ∈ before, ¬ mine m) →
    ownFirst own before = before
      ∧ ∀ (m : OutMsg) (rest : List OutMsg), mine m →
        ownFirst own (before ++ m :: rest) =
          before.takeWhile OutMsg.isReply ++ m :: (before.dropWhile OutMsg.isReply ++ rest))
  ∧ ∀ (tag n : Nat) (s : State), Accepts 15 s → 1 ≤ n → n ≤ 65535 →
    (s.quote? n = none → exec (.commit tag n) s = .next (s.answered tag 15 (.refused .noQuote none)))
    ∧ (∀ q, s.quote? n = some q →
      let exhausted := ((s.slotOf q.result.letter).bind fun k => (s.alloc.slots[k]?).map (·.supply)) = some .exhausted
      (q.state ≠ .opened → exec (.commit tag n) s = .next (s.answered tag 15 (.refused .already none)))
      ∧ (q.state = .opened → s.hall.state = .muted →
        exec (.commit tag n) s = .next (s.answered tag 15 (.refused .muted none)))
      ∧ (q.state = .opened → s.hall.state ≠ .muted → exhausted →
        exec (.commit tag n) s = .next (s.answered tag 15 (.refused .noNumbers none)))
      ∧ (q.state = .opened → s.hall.state ≠ .muted → ¬ exhausted →
        (s.hall.state ≠ .joined ∨ 12 ≤ s.hall.queue.length
          ∨ (s.quotes.pendingOrder = [] ∧
              ((s.slotOf q.result.letter).bind fun k => (s.alloc.slots[k]?).bind (·.current)) = none)) →
        exec (.commit tag n) s = .next
          { s.taken tag 15 with
            quotes :=
            { s.quotes with
              records := s.quotes.records.map fun x =>
                if x.number = n then { x with state := .committing (s.nextRef tag) } else x
              pendingOrder := s.quotes.pendingOrder ++ [n] } })
      ∧ (q.state = .opened → ¬ exhausted → s.hall.state = .joined → s.hall.queue.length < 12 →
        s.quotes.pendingOrder = [] →
        ∀ c, ((s.slotOf q.result.letter).bind fun k => (s.alloc.slots[k]?).bind (·.current)) = some c →
        c.next < 1000 →
        let waiting : State :=
          { s.taken tag 15 with
            quotes :=
            { s.quotes with
              records := s.quotes.records.map fun x =>
                if x.number = n then { x with state := .committing (s.nextRef tag) } else x
              pendingOrder := [n] } }
        ∃ t u m, exec (.commit tag n) s = .next t ∧ exec (.commitCompletion n) waiting = .next u
          ∧ t = { u with link := t.link } ∧ s.link.output ++ [m] <+: t.link.output
          ∧ (∃ label, m.msg = .reply (some s.link.nextId) tag (.label label)))
      ∧ (q.state = .opened → s.hall.state ≠ .muted → ¬ exhausted → RequestsEarlier s →
        let waiting : State :=
          { s.taken tag 15 with
            quotes :=
            { s.quotes with
              records := s.quotes.records.map fun x =>
                if x.number = n then { x with state := .committing (s.nextRef tag) } else x
              pendingOrder := s.quotes.pendingOrder ++ [n] } }
        let u := waiting.served
        ∃ msgs : List OutMsg,
          u.link = { msgs.foldl Link.accept waiting.link with noticeSeq := u.link.noticeSeq }
          ∧ exec (.commit tag n) s = .next
            { u with
              link :=
              { (ownFirst s.link.nextId msgs).foldl Link.accept waiting.link with noticeSeq := u.link.noticeSeq } }))

/-- The completion of a COMMITTING quote: the serial is drawn from the product's current block, the parcel takes a bag of its
route, POSTED enters the queue with the same figures, the LABEL answers the COMMIT, and the quote is removed with its
reference (R97, R124, R139, R191, R192). The last serial spends the block: its SPENT is owed or queued, and the reserve is
promoted (R125). With no reserve and no claim, and no more serials left than the low-water mark, the next free block is claimed
(R112, R113). The supply state follows its table, with LOWNUMBERS on becoming LAST, and with EXHAUSTED and the NO_NUMBERS
refusals of the product's other COMMITTING quotes on becoming EXHAUSTED (R99, R111); a notice enters the output queue unless
that holds 23 messages (R179). The other quotes stand as they
are but for those refusals. That the quote leaves the table before its serial is drawn is the model's reading (log 10). -/
def Obligations.CompletionPostsAndLabels : Prop :=
  ∀ (n k : Nat) (q : Quote) (ref : RequestRef) (c : CurrentBlock) (sl : Slot) (cfg : Setup) (s : State),
    s.scratch = .clear → s.setup = some cfg → s.quote? n = some q → q.state = .committing ref →
    s.hall.state = .joined → s.hall.queue.length < 12 → s.slotOf q.result.letter = some k →
    s.alloc.slots[k]? = some sl → sl.current = some c → c.next < 1000 → RowsInRange s → q.result.route < 32 →
    let serial := c.block * 1000 + c.next
    let row := s.row q.result.route
    let opensNext := row.count ≠ 0 ∧ (cfg.itemLimit < row.count + 1 ∨ cfg.weightLimit < row.fill + q.result.wa)
    let bag := if opensNext then (if row.seq < 9999 then row.seq + 1 else 1) else row.seq
    let held : Option CurrentBlock := if c.next + 1 < 1000 then some { block := c.block, next := c.next + 1 }
      else sl.reserve.map fun b => { block := b, next := 0 }
    let need : Prop := sl.claim = .none ∧ (c.next + 1 < 1000 → sl.reserve = none)
      ∧ ∀ x, held = some x → 1000 - x.next ≤ cfg.lowWater
    ∃ t, exec (.commitCompletion n) s = .next t
      ∧ (∃ y, t.alloc.slots[k]? = some y
          ∧ y.current = held
          ∧ y.reserve = (if c.next + 1 < 1000 then sl.reserve else none)
          ∧ (∀ b, sl.marked b = true → y.marked b = true)
          ∧ (∀ b, need → sl.search = some b →
              y.claim.block? = some b ∧ y.marks = sl.marks.set (b - sl.first) true)
          ∧ (¬ need ∨ sl.search = none → y.claim.block? = sl.claim.block? ∧ y.marks = sl.marks)
          ∧ (c.next = 999 → c.block ∈ y.owedSpent
              ∨ ∃ f ∈ t.hall.queue, f.frame.body = .spent q.result.letter c.block)
          ∧ y.supply = (if held.isSome then (if y.marks.count false = 0 then .last else .stocked)
              else if y.claim = .none ∧ y.marks.count false = 0 then .exhausted else .waiting)
          ∧ (∀ x, held = some x → y.supply = .last → sl.supply ≠ .last →
              (∃ seq, OutEntry.of (.notice seq (.lowNumbers q.result.letter x.block (1000 - x.next))) ∈ t.link.output)
                ∨ 23 ≤ t.link.output.length)
          ∧ (y.supply = .exhausted → sl.supply ≠ .exhausted →
              ((∃ seq, OutEntry.of (.notice seq (.exhausted q.result.letter)) ∈ t.link.output)
                ∨ 23 ≤ t.link.output.length)
              ∧ ∀ (m : Nat) (o : Quote) (r : RequestRef), m ≠ n → m ∈ s.quotes.pendingOrder → s.quote? m = some o →
                o.state = .committing r → o.result.letter = q.result.letter →
                t.quote? m = some { o with state := .opened, ageMs := 0 }
                  ∧ (s.quotes.pendingOrder.Nodup → m ∉ t.quotes.pendingOrder)
                  ∧ OutEntry.of (.reply (some r.id) r.tag (.refused .noNumbers none)) ∈ t.link.output))
      ∧ (∀ j, j ≠ k → t.alloc.slots[j]? = s.alloc.slots[j]?)
      ∧ t.row q.result.route =
        { seq := bag
          fill := if row.count = 0 ∨ opensNext then min q.result.wa 65535 else min (row.fill + q.result.wa) 65535
          count := if row.count = 0 ∨ opensNext then 1 else min (row.count + 1) 255
          follow := .followed, owed := row.owed }
      ∧ (∀ r, r ≠ q.result.route → t.row r = s.row r)
      ∧ (∃ f ∈ t.hall.queue, f.frame =
          { station := s.hall.station, group := cfg.group,
            body := .posted q.result.letter serial q.result.route bag q.result.wa })
      ∧ OutEntry.of (.reply (some ref.id) ref.tag (.label
          { text := itemNumber cfg.office q.result.letter serial, quoteNumber := q.number, bag := bag,
            station := s.hall.station, result := q.result })) ∈ t.link.output
      ∧ t.link.outstanding = s.link.outstanding
      ∧ (s.quotes.pendingOrder.Nodup → n ∉ t.quotes.pendingOrder)
      ∧ t.quotes.records.length + 1 = s.quotes.records.length
      ∧ (let left : State :=
          { s with
            quotes :=
            { s.quotes with
              records := s.quotes.records.eraseP fun x => x.number == n
              pendingOrder := s.quotes.pendingOrder.erase n } }
         t.quotes =
          (if (t.alloc.slots[k]?).map (·.supply) = some .exhausted ∧ sl.supply ≠ .exhausted then
            (left.turnedBack .noNumbers (left.pendingOf q.result.letter)).quotes
          else left.quotes))
      ∧ t.bank q.result.bank =
        (if (s.bank q.result.bank).state = .retiring ∧ (s.bank q.result.bank).refs ≤ 1 then .cleared
          else { s.bank q.result.bank with refs := (s.bank q.result.bank).refs - 1 })
      ∧ t.bank q.result.bank.other = s.bank q.result.bank.other
      ∧ t.tariff.cursor = s.tariff.cursor ∧ t.tariff.owedCutover = s.tariff.owedCutover
      ∧ t.hall = { s.hall with queue := t.hall.queue } ∧ s.hall.queue.Sublist t.hall.queue
      ∧ t.quotes.waiting = s.quotes.waiting ∧ t.quotes.nextNumber = s.quotes.nextNumber
      ∧ t.bags.lateCount = s.bags.lateCount
      ∧ t.weighing = s.weighing ∧ t.gauge = s.gauge ∧ t.setup = s.setup ∧ t.alloc.column = s.alloc.column
      ∧ t.alloc.log = s.alloc.log ∧ t.alloc.overflow = s.alloc.overflow

/-- The item number text and its check digit (R190): four office digits, the letter, seven serial digits, and the digit that
brings the weighted sum to a multiple of 10. -/
def Obligations.ItemNumberText : Prop :=
  ∀ office letter serial : Nat, office ≤ 9999 → serial ≤ 9999999 →
    let o (i : Nat) := office / 10 ^ i % 10
    let n (i : Nat) := serial / 10 ^ i % 10
    let check := checkDigit office serial
    itemNumber office letter serial =
      [48 + o 3, 48 + o 2, 48 + o 1, 48 + o 0, 64 + letter, 48 + n 6, 48 + n 5, 48 + n 4, 48 + n 3, 48 + n 2,
        48 + n 1, 48 + n 0, 48 + check]
    ∧ check ≤ 9
    ∧ (7 * o 3 + 3 * o 2 + o 1 + 7 * o 0 + 3 * n 6 + n 5 + 7 * n 4 + 3 * n 3 + n 2 + 7 * n 1 + 3 * n 0 + check) % 10 = 0

/-! ### The number allocator and the bag table -/

/-- MAPLOAD in JOINING marks the named blocks of the window, tells how many are new, and sends no EXCLUDED notice; the supply
state follows its table, and a MAPLOAD that takes the last free mark makes the product EXHAUSTED with its notice and the
NO_NUMBERS refusals of its COMMITTING quotes in pending order (R99, R109, R111). MAPLOAD is refused by its conditions in their
order (R109). LOGTAKE gives up the oldest record and clears the overflow count with the last (R131). -/
def Obligations.MapLoadAndLogTake : Prop :=
  (∀ (tag letter startBlock : Nat) (span : List Bool) (s : State), Accepts 5 s → 1 ≤ letter → letter ≤ 26 →
    (9999 < startBlock →
      exec (.mapLoad tag letter startBlock span) s = .next (s.answered tag 5 (.refused .badRequest none)))
    ∧ (startBlock ≤ 9999 →
      (s.slotOf letter = none →
        exec (.mapLoad tag letter startBlock span) s = .next (s.answered tag 5 (.refused .unknownProduct none)))
      ∧ (∀ k sl, s.slotOf letter = some k → s.alloc.slots[k]? = some sl →
        (s.hall.state = .joined →
          exec (.mapLoad tag letter startBlock span) s = .next (s.answered tag 5 (.refused .already none)))
        ∧ (s.hall.state = .muted →
          exec (.mapLoad tag letter startBlock span) s = .next (s.answered tag 5 (.refused .muted none)))
        ∧ (s.hall.state = .joining →
          let named := (List.range span.length).filter fun n =>
            span.getD n false && decide (sl.first ≤ startBlock + n ∧ startBlock + n < sl.first + sl.count)
          let marks := named.foldl (fun m n => m.set (startBlock + n - sl.first) true) sl.marks
          let supply : Supply :=
            if sl.current.isSome then (if marks.count false = 0 then .last else .stocked)
            else if sl.claim = .none ∧ marks.count false = 0 then .exhausted else .waiting
          let loaded : State := (s.modifySlot k fun _ => { sl with marks := marks, supply := supply }).answered tag 5
            (.done (.mapLoad (named.filter fun n => !sl.marks.getD (startBlock + n - sl.first) false).length))
          exec (.mapLoad tag letter startBlock span) s = .next
            (if supply = .exhausted ∧ sl.supply ≠ .exhausted then
              (loaded.noticed (.exhausted letter)).turnedBack .noNumbers (s.pendingOf letter)
             else match sl.current with
              | none => loaded
              | some c =>
                if supply = .last ∧ sl.supply ≠ .last then
                  loaded.noticed (.lowNumbers letter c.block (1000 - c.next))
                else loaded)))))
  ∧ (∀ (tag : Nat) (s : State), Accepts 6 s →
    exec (.logTake tag) s = .next (match s.alloc.log with
      | [] => s.answered tag 6 (.done (.logTake none s.alloc.overflow))
      | oldest :: rest =>
        State.answered tag 6 (.done (.logTake (some oldest) s.alloc.overflow))
          { s with
            alloc := { s.alloc with log := rest, overflow := if rest = [] then 0 else s.alloc.overflow } }))

/-- HOLDOFF_EXPIRY wins the claim: the block becomes current with next offset 0 when none is held and the reserve otherwise, the
claim ends, the cursor moves past the block, BLOCKWON goes out, and LOWNUMBERS when the product becomes LAST; a block that
became current serves the pending order, as the COMMIT_COMPLETIONs of its numbers would (R95, R96, R111, R119). With a
low-water mark of at most 999, as every START gives, no new claim is needed at once (R112). That the command first brings the
clock to the end of the holdoff is the model's choice (log 2). -/
def Obligations.HoldoffExpiryWinsTheBlock : Prop :=
  ∀ (k b remaining : Nat) (sl : Slot) (cfg : Setup) (order : RoomOrder) (s : State),
    s.scratch = .clear → RequestsEarlier s ∨ s.quotes.pendingOrder = [] → s.setup = some cfg → cfg.lowWater ≤ 999 →
    s.alloc.slots[k]? = some sl → sl.enabled = true → sl.claim = .holdoff b remaining → sl.reserve = none →
    let current : CurrentBlock := match sl.current with
      | none => { block := b, next := 0 }
      | some c => c
    let y : Slot :=
      { sl with
        current := some current
        reserve := if sl.current.isSome then some b else none
        claim := .none
        cursor := if b + 1 < sl.first + sl.count then b + 1 else sl.first
        supply := if sl.marks.count false = 0 then .last else .stocked }
    let won : State := ((s.elapse remaining).modifySlot k fun _ => y).noticed
      (.blockWon sl.letter b (if sl.current.isNone then .current else .reserve))
    let told : State :=
      if y.supply = .last ∧ sl.supply ≠ .last then
        won.noticed (.lowNumbers sl.letter current.block (1000 - current.next))
      else won
    exec (.holdoffExpiry k order) s = .next (if sl.current = none then told.served else told)

/-- A heard CLAIM, HELD, SPENT or HOLDS for blocks that this station does not claim, or a CLAIM for one that its claim defends in
HOLDOFF: each block of the window has its mark set, a new one with its EXCLUDED notice; each block outside it is logged
OUT_OF_WINDOW when the strict window flag is set, and passed over when it is clear; the supply state follows the marks, with
LOWNUMBERS on becoming LAST, and EXHAUSTED and the NO_NUMBERS refusals on becoming EXHAUSTED; the peer holdings column follows
(R99, R111, R126, R127, R130). A CLAIM for a block held here, or claimed in HOLDOFF, owes a HELD, which is offered at once, but
in MUTED, beside one owed or queued for the block, or beyond four; holdings and claim stand (R118, R121, R133, R157). A HELD is for
a block not held here. A frame whose letter is of no enabled slot changes no more than the sender's liveness (R126, R163, R165). A
block enters a list of the column as newest, the oldest of two others leaving (R127). -/
def Obligations.HeardBlocksAreMarked : Prop :=
  (∀ (b : Nat) (l : List Nat),
    addHeld b l = if b ∈ l then l else if l.length < 2 then l ++ [b] else l.drop (l.length - 1) ++ [b])
  ∧ (∀ (station group letter : Nat) (order : RoomOrder) (s : State),
    HeardFromPeer station group s → s.slotOf letter = none →
    (∀ b, exec (.heardClaim station group letter b order) s = .next (s.heardBy station group)
      ∧ exec (.heardHeld station group letter b order) s = .next (s.heardBy station group)
      ∧ exec (.heardSpent station group letter b order) s = .next (s.heardBy station group))
    ∧ ∀ blocks, exec (.heardHolds station group letter blocks order) s = .next (s.heardBy station group))
  ∧ ∀ (station group letter k : Nat) (sl : Slot) (order : RoomOrder) (s : State),
    HeardFromPeer station group s → RequestsEarlier s ∨ s.quotes.pendingOrder = [] →
    s.slotOf letter = some k → s.alloc.slots[k]? = some sl →
    let h := s.heardBy station group
    let marked (kind : FrameKind) (b : Nat) : State := (h.peerNamed k kind station none b).resupplied k
    (∀ b, sl.claim ≠ .owed b → sl.claim ≠ .queued b →
      let listed (u : State) : State := u.modifyColumn station k (addHeld b)
      let defended : Prop := sl.current.map (·.block) = some b ∨ sl.reserve = some b ∨ sl.claim.block? = some b
      exec (.heardClaim station group letter b order) s = .next
        (if defended ∧ s.mayOweHeld sl b = true then
          (listed ((marked .claim b).modifySlot k fun x => { x with owedHeld := x.owedHeld ++ [b] })).offered
        else listed (marked .claim b)))
    ∧ (∀ b, sl.claim.block? ≠ some b →
      exec (.heardSpent station group letter b order) s =
        .next ((marked .spent b).modifyColumn station k fun l => l.erase b))
    ∧ (∀ b, sl.claim.block? ≠ some b → sl.holds b = false →
      exec (.heardHeld station group letter b order) s = .next ((marked .held b).heldListed station k b))
    ∧ (∀ blocks, (∀ b ∈ blocks, sl.claim.block? ≠ some b) → blocks.Nodup →
      exec (.heardHolds station group letter blocks order) s =
        .next (((blocks.foldl (fun u b => u.peerNamed k .holds station none b) h).resupplied k).modifyColumn station k
          fun _ => blocks))

/-- The race for a block. A peer's frame naming the claimed block ends the claim as lost: a CLAIM in OWED or QUEUED, and a HELD,
SPENT, HOLDS or POSTED in any state: its CLAIM leaves the queue, a HELD owed or queued for the block is cancelled, the search
cursor moves to the block after it, the supply state is re-evaluated and the need tested, so that the next free block is claimed
at once where one is needed (R111, R112, R113, R116, R117). A frame that left the queue makes room, in which the owed items are
offered and the pending order is served, in the order the command gives, and a new claim is offered (R95, R96, R157, R158; log 4).
The frame's marks come first and its column change last, and a POSTED reaches the bag table and the check for a STRAY as well
(R126, R127, R129, R141; log 12). A block twice in a HOLDS is listed once (log 22). A CLAIM heard in HOLDOFF leaves the claim
and its remaining time, and a HELD is owed or queued for the block (R118, R121). The mark of the block stays set either way. -/
def Obligations.ClaimRaceIsDecidedByTheLine : Prop :=
  ∀ (station group letter k b : Nat) (sl : Slot) (order : RoomOrder) (s : State),
    HeardFromPeer station group s → SlotsSound s → s.slotOf letter = some k → s.alloc.slots[k]? = some sl →
    sl.claim.block? = some b → RequestsEarlier s ∨ s.quotes.pendingOrder = [] →
    let h := s.heardBy station group
    let lost (i : Instr) (marked : State) (rest : State → State) : Prop :=
      let l := (marked.resupplied k).claimLost k b
      let fell := decide (l.hall.queue.length < s.hall.queue.length)
      let chosen := (l.alloc.slots[k]?).any fun x => decide (x.claim ≠ .none)
      ∃ t y, exec i s = .next t ∧ t = (rest l).roomTaken order fell (fell || chosen) ∧ t.alloc.slots[k]? = some y
        ∧ (s.quotes.pendingOrder = [] →
          y.claim.block? ≠ some b ∧ y.marked b = true
          ∧ y.current = sl.current ∧ y.reserve = sl.reserve
          ∧ (sl.claim = .queued b → s.hall.attempt = none →
              s.hall.queue.countP (fun q => decide (q.frame.body = .claim letter b)) ≤ 1 →
              (∀ j x, s.alloc.slots[j]? = some x → x.claim = .owed b → j = k) →
              ∀ f ∈ t.hall.queue, f.frame.body ≠ .claim letter b)
          ∧ (sl.owedHeld.Nodup → b ∉ y.owedHeld)
          ∧ (sl.owedHeld.Nodup → s.hall.attempt = none →
              s.hall.queue.countP (fun q => decide (q.frame.body = .held letter b)) ≤ 1 →
              (∀ j x, s.alloc.slots[j]? = some x → b ∈ x.owedHeld → j = k) →
              ∀ f ∈ t.hall.queue, f.frame.body ≠ .held letter b)
          ∧ y.cursor = (if b + 1 < sl.first + sl.count then b + 1 else sl.first)
          ∧ t.weighing = s.weighing ∧ t.gauge = s.gauge ∧ t.quotes = s.quotes ∧ t.setup = s.setup
          ∧ t.tariff.bankA = s.tariff.bankA ∧ t.tariff.bankB = s.tariff.bankB)
    ((sl.claim = .owed b ∨ sl.claim = .queued b) →
      lost (.heardClaim station group letter b order) (h.peerNamed k .claim station none b)
        fun u => u.modifyColumn station k (addHeld b))
    ∧ lost (.heardHeld station group letter b order) (h.peerNamed k .held station none b)
        (fun u => u.heldListed station k b)
    ∧ lost (.heardSpent station group letter b order) (h.peerNamed k .spent station none b)
        (fun u => u.modifyColumn station k fun l => l.erase b)
    ∧ (∀ blocks : List Nat, b ∈ blocks →
        lost (.heardHolds station group letter blocks order)
          (blocks.foldl (fun u x => u.peerNamed k .holds station none x) h)
          fun u => u.modifyColumn station k fun _ => blocks.eraseDups)
    ∧ (∀ serial route bag weight : Nat, serial / 1000 = b →
        lost (.heardPosted station group letter serial route bag weight order)
          ((h.bagFollowed route bag weight).peerNamed k .posted station (some serial) b)
          fun u =>
            if b ∈ s.peerBlocks station k then u
            else u.logged { kind := .stray, letter := letter, block := b, serial := some serial, station := station })
    ∧ (∀ remaining : Nat, sl.claim = .holdoff b remaining →
        ∃ t y, exec (.heardClaim station group letter b order) s = .next t ∧ t.alloc.slots[k]? = some y
          ∧ y.claim = .holdoff b remaining ∧ y.marked b = true
          ∧ (s.hall.state ≠ .muted → sl.owedHeld.length < 4 →
              b ∈ y.owedHeld ∨ ∃ f ∈ t.hall.queue, f.frame.body = .held sl.letter b))

/-- A heard POSTED at the bag table: the row adopts, adds, moves ahead or counts a late posting (R140, R141, R143, R144); for a
letter of no enabled slot nothing else happens. At the allocator the block of its serial is marked, with its EXCLUDED notice
when the mark was clear, or logged OUT_OF_WINDOW with its serial when it lies outside the window and the strict window flag is
set (R126). The supply state follows the mark, with LOWNUMBERS on becoming LAST, and EXHAUSTED and the NO_NUMBERS refusals on
becoming EXHAUSTED (R99, R111). The check then logs a STRAY for a block the sender was not seen to hold, and the first record of
an empty log sends a CONFLICT notice (R129, R130). The block is one this station neither holds nor claims. -/
def Obligations.HeardPostedMovesTheRow : Prop :=
  ∀ (station group letter serial route bag weight : Nat) (order : RoomOrder) (s : State),
    HeardFromPeer station group s → RequestsEarlier s ∨ s.quotes.pendingOrder = [] → RowsInRange s →
    let h := s.heardBy station group
    let after := h.bagFollowed route bag weight
    let block := serial / 1000
    (s.slotOf letter = none →
      exec (.heardPosted station group letter serial route bag weight order) s = .next after)
    ∧ (∀ k sl, s.slotOf letter = some k → s.alloc.slots[k]? = some sl → sl.claim.block? ≠ some block →
      sl.holds block = false →
      let seen := (after.peerNamed k .posted station (some serial) block).resupplied k
      exec (.heardPosted station group letter serial route bag weight order) s = .next
        (if block ∈ s.peerBlocks station k then seen
         else seen.logged
          { kind := .stray, letter := letter, block := block, serial := some serial, station := station }))

/-- A block that both this station and a peer hold is given up here: a heard HELD for it, or a heard POSTED of a serial in it,
takes it out of the holdings, promotes the reserve when it was current, owes or has queued a HELD for it but in MUTED, and logs
a CONFLICT, with a CONFLICT notice when the log was empty (R121, R122, R123, R129, R130, R133). A notice enters the output queue
unless that holds 23 messages (R179). The supply state is re-evaluated and the need tested, so that the next free block is
claimed at once where one is needed; a HELD or a claim newly owed is offered, and a promotion serves the pending order, in the
order the command gives (R95, R96, R111, R112, R113, R123, R157; log 4). The frame's marks come first; a HELD reaches the peer
holdings column, a POSTED the bag table (R126, R127, R141; log 12). -/
def Obligations.DoublyHeldBlockIsWithdrawn : Prop :=
  ∀ (station group letter k b : Nat) (sl : Slot) (order : RoomOrder) (s : State),
    HeardFromPeer station group s → SlotsSound s → s.slotOf letter = some k → s.alloc.slots[k]? = some sl →
    sl.holds b = true → RequestsEarlier s ∨ s.quotes.pendingOrder = [] →
    let h := s.heardBy station group
    let record (serial : Option Nat) : ConflictRecord :=
      { kind := .conflict, letter := letter, block := b, serial := serial, station := station }
    let withdrawn (i : Instr) (serial : Option Nat) (marked : State) (rest : State → State) : Prop :=
      let owing (u : State) : Option (List Nat × Claim) := (u.alloc.slots[k]?).map fun x => (x.owedHeld, x.claim)
      let promoted := decide (sl.current.map (·.block) = some b ∧ sl.reserve ≠ none)
      let offer := decide (owing ((marked.resupplied k).blockWithdrawn k b) ≠ some (sl.owedHeld, sl.claim))
      ∃ t y, exec i s = .next t ∧ t = (rest (marked.resupplied k)).roomTaken order promoted offer
        ∧ t.alloc.slots[k]? = some y
        ∧ (s.quotes.pendingOrder = [] → s.alloc.log.length < 8 →
          y.holds b = false ∧ y.marked b = true
          ∧ y.current = (if sl.current.map (·.block) = some b then
              sl.reserve.map fun r => { block := r, next := 0 } else sl.current)
          ∧ t.alloc.log = s.alloc.log ++ [record serial]
          ∧ (s.hall.state ≠ .muted → sl.owedHeld.length < 4 ∨ b ∈ sl.owedHeld →
              b ∈ y.owedHeld ∨ ∃ f ∈ t.hall.queue, f.frame.body = .held letter b)
          ∧ (s.hall.state = .muted → y.owedHeld = sl.owedHeld)
          ∧ (s.alloc.log = [] →
              (∃ seq, OutEntry.of (.notice seq (.conflict .conflict letter b)) ∈ t.link.output)
                ∨ 23 ≤ t.link.output.length)
          ∧ t.weighing = s.weighing ∧ t.gauge = s.gauge ∧ t.quotes = s.quotes ∧ t.setup = s.setup
          ∧ t.tariff.bankA = s.tariff.bankA ∧ t.tariff.bankB = s.tariff.bankB)
    withdrawn (.heardHeld station group letter b order) none (h.peerNamed k .held station none b)
        (fun u => ((u.blockWithdrawn k b).logged (record none)).heldListed station k b)
    ∧ ∀ serial route bag weight : Nat, serial / 1000 = b →
      withdrawn (.heardPosted station group letter serial route bag weight order) (some serial)
        ((h.bagFollowed route bag weight).peerNamed k .posted station (some serial) b)
        fun u => (u.logged (record (some serial))).blockWithdrawn k b

/-- BAGCLOSE moves the row to the next, empty bag and is answered with it, owing a BAGNEXT but in MUTED (R145, R146). A heard
BAGNEXT moves a row that it is ahead of, and a FRESH one always (R140, R142, R143). -/
def Obligations.BagsAreClosedAndFollowed : Prop :=
  (∀ (tag route : Nat) (s : State), Accepts 17 s → route < 32 →
    let next := if (s.row route).seq < 9999 then (s.row route).seq + 1 else 1
    exec (.bagClose tag route) s = .next
      (if s.hall.state = .muted then
        (s.modifyRow route fun r => { r with seq := next, fill := 0, count := 0, follow := .followed }).answered tag 17
          (.done (.bagClose route next))
      else
        ((s.modifyRow route fun _ =>
            { seq := next, fill := 0, count := 0, follow := .followed, owed := some next }).offerOwed).answered tag 17
          (.done (.bagClose route next))))
  ∧ ∀ (station group route bag : Nat) (s : State), HeardFromPeer station group s →
    let d := (bag + 9999 - (s.row route).seq) % 9999
    exec (.heardBagnext station group route bag) s = .next
      (if 31 < route ∨ bag < 1 ∨ 9999 < bag then s.heardBy station group
       else if (s.row route).follow = .fresh then
        (s.heardBy station group).modifyRow route fun r =>
          { r with seq := bag, fill := 0, count := 0, follow := .followed }
       else if d ≠ 0 ∧ d ≤ 4999 then
        (s.heardBy station group).modifyRow route fun r => { r with seq := bag, fill := 0, count := 0 }
       else s.heardBy station group)

/-! ### The hall line -/

/-- A heard JOIN records the sender's office and owes a HOLDS for every enabled slot, offered at once; in MUTED none is owed. A
heard ALIVE touches the sender's liveness entry alone (R128, R133, R157, R165). -/
def Obligations.HeardJoinAndAlive : Prop :=
  ∀ (station group office : Nat) (s : State), HeardFromPeer station group s →
    exec (.heardAlive station group) s = .next (s.heardBy station group)
    ∧ (let h := (s.heardBy station group).modifyPeer station fun p => { p with office := some office }
       exec (.heardJoin station group office) s = .next
        (if s.hall.state = .muted then h
         else State.offerOwed
          { h with
            alloc :=
            { s.alloc with
              slots := s.alloc.slots.map fun k => if k.enabled then { k with holdsOwed := true } else k } }))

/-- In STARTING a good frame of any group reaches liveness alone. After START a frame of another group is ignored, and in MUTED
a frame bearing this station's own number changes nothing; the acknowledge slot is driven but in MUTED (R152, R163, R165,
R168). -/
def Obligations.UnheardFramesReachNoOwner : Prop :=
  ∀ (i : Instr) (f : Frame) (s : State), heardFrame? i = some f → s.scratch = .clear →
    (s.hall.state = .starting →
      exec i s = .next ((s.heardBy f.station f.group).modifyPeer f.station fun p =>
        match f.body with
        | .join office => { p with office := some office }
        | _ => p))
    ∧ (s.hall.state ≠ .starting →
      s.setup.map (·.group) ≠ some f.group ∨ (f.station = s.hall.station ∧ s.hall.state = .muted) →
      exec i s = .next (s.onHall fun h => { h with ackDriven := decide (h.state ≠ .muted) }))

/-- A good frame of the configured group with this station's own number silences the station: MUTED, queue and owed items
cleared, failure count and latch cleared, claims but those in HOLDOFF ended, every COMMITTING quote OPEN again, while the
holdings, the marks, the bag rows and the tariff stay (R53, R100, R133, R146, R168, R169). The MUTED notice carries the station
number, the sender's number and the frame's kind, and the COMMITs of the COMMITTING quotes are then refused MUTED in pending
order (R100, R169). That attempt and silence timer are cleared is the model's reading (log 25); so is that the slots whose claim
ends with no block and no free mark are EXHAUSTED first, each with its notice and NO_NUMBERS refusals (R99, R111; log 11), and
its choice that they come in ascending slot order (log 38). -/
def Obligations.DuplicateStationIsMuted : Prop :=
  ∀ (i : Instr) (f : Frame) (s : State), heardFrame? i = some f → s.scratch = .clear → QuotesSound s →
    s.hall.state = .joining ∨ s.hall.state = .joined → s.setup.map (·.group) = some f.group →
    f.station = s.hall.station →
    let ended := (s.alloc.slots.take 8).filter fun x =>
      x.enabled && x.current.isNone && decide (x.marks.count false = 0)
        && (match x.claim with
          | .owed _ | .queued _ => true
          | .none | .holdoff _ _ => false)
    let gone : State := ended.foldl (fun u x =>
      (u.noticed (.exhausted x.letter)).turnedBack .noNumbers (u.pendingOf x.letter)) s
    let told : State := (gone.noticed (.muted s.hall.station f.station (some f.body.kind))).turnedBack .muted
      gone.quotes.pendingOrder
    ∃ t, exec i s = .next t
      ∧ (RequestsEarlier s → SuppliesCurrent s → t.link = told.link ∧ t.quotes = told.quotes)
      ∧ t.hall = { s.hall with
          state := .muted, census := none, queue := [], attempt := none, owedJoin := false, silence := 0, failures := 0
          lineFault := false, ackDriven := true }
      ∧ t.tariff = { s.tariff with owedCutover := none }
      ∧ t.bags = { s.bags with rows := s.bags.rows.map fun r => { r with owed := none } }
      ∧ t.quotes.pendingOrder = [] ∧ (∀ q ∈ t.quotes.records, q.state = .opened)
      ∧ t.quotes.records.map Quote.number = s.quotes.records.map Quote.number
      ∧ (∀ (k : Nat) (x : Slot), k < 8 → s.alloc.slots[k]? = some x → ∃ y, t.alloc.slots[k]? = some y
          ∧ y.owedHeld = [] ∧ y.owedSpent = [] ∧ y.holdsOwed = false ∧ y.marks = x.marks ∧ y.current = x.current
          ∧ y.reserve = x.reserve ∧ y.cursor = x.cursor
          ∧ y.claim = match x.claim with
            | .holdoff b n => .holdoff b n
            | _ => .none)
      ∧ t.alloc.column = s.alloc.column ∧ t.alloc.log = s.alloc.log
      ∧ t.weighing = s.weighing ∧ t.gauge = s.gauge ∧ t.setup = s.setup
      ∧ t.link.outstanding = s.link.outstanding

/-- Attempts: one begins with the head of the queue, its check computed at the first attempt; a lower arbitration field ends it
without failure; a failed attempt is counted, and the sixteenth in succession sets the line fault latch with a LINEFAULT notice;
the frame keeps its place throughout (R155, R159, R160, R161, R162). -/
def Obligations.AttemptsKeepTheFrame : Prop :=
  ∀ s : State, s.scratch = .clear →
    (∀ q rest, s.sends = true → s.hall.attempt = none → s.hall.queue = q :: rest →
      exec .attemptBegin s = .next (s.onHall fun h =>
        { h with
          attempt := some q.frame
          queue := { q with check := some (match q.check with | some c => c | none => q.frame.check) } :: rest }))
    ∧ (∀ f field, s.hall.attempt = some f → field < f.frameClass.code * 32 + f.station →
      exec (.arbitrationLost field) s = .next (s.onHall fun h => { h with attempt := none }))
    ∧ (∀ f, s.hall.attempt = some f → s.hall.failures ≤ 16 →
      (s.hall.failures ≠ 15 → s.hall.failures ≠ 16 ∨ s.hall.lineFault = true →
        exec .failedAttempt s = .next (s.onHall fun h =>
          { h with attempt := none, failures := min (h.failures + 1) 16 }))
      ∧ (s.hall.failures = 15 → s.hall.lineFault = false →
        exec .failedAttempt s = .next ((s.onHall fun h =>
          { h with attempt := none, failures := 16, lineFault := true }).noticed
            (.lineFault f.body.kind f.frameClass s.hall.queue.length))))

/-- TRANSMIT_COMPLETION: the frame leaves the queue, the failure count and the latch are cleared, the silence timer restarts, a
recessive acknowledge slot is counted; a CLAIM's claim enters HOLDOFF for 250 ms and a JOIN begins the census (R115, R154,
R162, R163). The fall of the queue then offers the owed items and serves the pending order, in the order the command gives
(R95, R96, R157, R158; log 4): as an OWED_ITEM_ENTRY and the COMMIT_COMPLETIONs of the pending order would. -/
def Obligations.TransmitCompletionEndsTheFrame : Prop :=
  ∀ (f : Frame) (acknowledged : Bool) (order : RoomOrder) (s : State),
    s.scratch = .clear → s.hall.attempt = some f →
    let u : State := s.onHall fun h =>
      { h with
        queue := h.queue.eraseP fun q => decide (q.frame = f)
        attempt := none, failures := 0, lineFault := false, silence := 0
        unacknowledged := if acknowledged then h.unacknowledged else min (h.unacknowledged + 1) 65535 }
    let v : State := match f.body with
      | .claim letter b =>
        match s.slotOf letter with
        | none => u
        | some k => u.modifySlot k fun x => if x.claim = .queued b then { x with claim := .holdoff b 250 } else x
      | .join _ => if s.hall.state = .joining then u.onHall fun h => { h with census := some 0 } else u
      | _ => u
    (RequestsEarlier s →
      exec (.transmitCompletion acknowledged order) s = .next (match order with
        | .owedFirst => v.offered.served
        | .servingFirst => v.served.offered))
    ∧ (s.owedItems = [] → s.quotes.pendingOrder = [] →
      exec (.transmitCompletion acknowledged order) s = .next v)

/-- The census, silence and liveness timers (R154, R166, R167): the station becomes JOINED with its JOINED notice, the need of a
claim is tested at every slot (R112, R113), claims made are offered, and the pending order is served, in the order the command
gives (R95, R96, R157; log 4). That the slots are tested in ascending order is the model's choice (log 38): R112 and R154 give
none. An ALIVE enters below 8 frames unless one waits; a LIVE entry of 6 s becomes SILENT and nothing
else changes. That each command first brings the clock to its timer's limit is the model's choice too (log 2). The block a search
finds is the first free one when the blocks of the window are looked at once each, from the cursor upward and then from the
first block up to the cursor, and there is none when every mark is set (R113). -/
def Obligations.HallTimersExpire : Prop :=
  (∀ sl : Slot, sl.marks.length = sl.count →
    let inside (b : Nat) : Prop := sl.first ≤ b ∧ b < sl.first + sl.count
    let sooner (x y : Nat) : Prop := (sl.cursor ≤ x ∧ (x < y ∨ y < sl.cursor)) ∨ (x < y ∧ y < sl.cursor)
    (∀ b, sl.search = some b ↔
      inside b ∧ sl.marked b = false ∧ ∀ x, inside x → sooner x b → sl.marked x = true)
    ∧ (sl.search = none ↔ ∀ b, inside b → sl.marked b = true))
  ∧ ∀ s : State, s.scratch = .clear →
    (∀ (n : Nat) (order : RoomOrder), RequestsEarlier s ∨ s.quotes.pendingOrder = [] → s.hall.census = some n →
      let e := s.elapse (1000 - n)
      let joined : State := (e.onHall fun h => { h with census := none, state := .joined }).noticed
        (.joined (e.hall.peers.countP fun p => decide (p.liveness = .live)))
      let v : State := (List.range 8).foldl (fun u k => u.sought k) joined
      let offer (u : State) : State :=
        if v.alloc.slots.map Slot.claim = e.alloc.slots.map Slot.claim then u else u.offered
      exec (.censusTimerExpiry order) s = .next (match order with
        | .owedFirst => (offer v).served
        | .servingFirst => offer v.served))
    ∧ (s.sends = true →
      let e := s.elapse (2000 - s.hall.silence)
      exec .silenceTimerExpiry s = .next
        (if (∃ q ∈ s.hall.queue, q.frame.body = .alive) ∨ 8 ≤ s.hall.queue.length then
          e.onHall fun h => { h with silence := 0 }
        else
          e.onHall fun h =>
            { h with
              silence := 0
              queue := insertFrame h.queue
                { frame := { station := s.hall.station, group := (s.setup.map (·.group)).getD 0, body := .alive },
                  check := none } }))
    ∧ (∀ (station : Nat) (p : Peer), s.hall.peers[station]? = some p → p.liveness = .live →
      exec (.livenessSilent station) s = .next
        ((s.elapse (6000 - p.ageMs)).modifyPeer station fun x => { x with liveness := .silent }))

/-- OWED_ITEM_ENTRY in JOINING or JOINED: the owed items are taken in the order of R157, each enters as its frame (R155) while
its class is admitted, and the rest stay owed: what is owed before is what has entered, in order, followed by what is still
owed, and the queue is the queue before with the frames of the entered items, in order, each behind its class (R156). A CLAIM
that enters is QUEUED (R114). Nothing but the owed items and the queue changes. Which items are owed, their order, the frame of
each (a HOLDS carries the current block and the reserve, R128), and the place a frame takes in the queue are said first. -/
def Obligations.OwedItemsEnterTheQueue : Prop :=
  (∀ s : State,
    (∀ k b, OwedItem.held k b ∈ s.owedItems ↔ ∃ x, s.alloc.slots[k]? = some x ∧ b ∈ x.owedHeld)
    ∧ (∀ k b, OwedItem.claim k b ∈ s.owedItems ↔ ∃ x, s.alloc.slots[k]? = some x ∧ x.claim = .owed b)
    ∧ (OwedItem.join ∈ s.owedItems ↔ s.hall.owedJoin = true)
    ∧ (∀ k, OwedItem.holds k ∈ s.owedItems ↔ ∃ x, s.alloc.slots[k]? = some x ∧ x.holdsOwed = true)
    ∧ (∀ k b, OwedItem.spent k b ∈ s.owedItems ↔ ∃ x, s.alloc.slots[k]? = some x ∧ b ∈ x.owedSpent)
    ∧ (∀ v, OwedItem.cutover v ∈ s.owedItems ↔ s.tariff.owedCutover = some v)
    ∧ (∀ r b, OwedItem.bagnext r b ∈ s.owedItems ↔ ∃ x, s.bags.rows[r]? = some x ∧ x.owed = some b)
    ∧ (∀ k x, s.alloc.slots[k]? = some x →
        (s.owedItems.filterMap fun
          | .held j b => if j = k then some b else none
          | _ => none) = x.owedHeld
        ∧ (s.owedItems.filterMap fun
          | .spent j b => if j = k then some b else none
          | _ => none) = x.owedSpent)
    ∧ (s.owedItems.map fun
        | .held k _ => (0, k)
        | .claim k _ => (1, k)
        | .join => (2, 0)
        | .holds k => (3, k)
        | .spent k _ => (4, k)
        | .cutover _ => (5, 0)
        | .bagnext r _ => (6, r)).Pairwise fun (x y : Nat × Nat) => x.1 < y.1 ∨ (x.1 = y.1 ∧ x.2 ≤ y.2))
  ∧ (∀ (s : State) (cfg : Setup), s.setup = some cfg →
    let frame (item : OwedItem) : Frame := s.buildFrame (s.itemBody item)
    let mine (b : FrameBody) : Frame := { station := s.hall.station, group := cfg.group, body := b }
    frame .join = mine (.join cfg.office) ∧ (∀ v, frame (.cutover v) = mine (.cutover v))
      ∧ (∀ r b, frame (.bagnext r b) = mine (.bagnext r b))
      ∧ ∀ k x, s.alloc.slots[k]? = some x →
        (∀ b, frame (.held k b) = mine (.held x.letter b) ∧ frame (.claim k b) = mine (.claim x.letter b)
          ∧ frame (.spent k b) = mine (.spent x.letter b))
        ∧ frame (.holds k) = mine (.holds x.letter ((x.current.map (·.block)).toList ++ x.reserve.toList)))
  ∧ (∀ (q : List QueuedFrame) (f : QueuedFrame), ∃ before behind, q = before ++ behind
    ∧ insertFrame q f = before ++ f :: behind
    ∧ (∀ x ∈ before, x.frame.frameClass.rank ≤ f.frame.frameClass.rank)
    ∧ (∀ x ∈ behind.head?, f.frame.frameClass.rank < x.frame.frameClass.rank))
  ∧ ∀ s : State, s.sends = true →
    ∃ (t : State) (entered : List OwedItem), exec .owedItemEntry s = .next t
      ∧ s.owedItems = entered ++ t.owedItems
      ∧ t.hall.queue =
        entered.foldl (fun q item => insertFrame q { frame := s.buildFrame (s.itemBody item), check := none }) s.hall.queue
      ∧ (∀ item ∈ t.owedItems, t.hall.queue.length < 16 → item.frameClass = .normal ∧ 12 ≤ t.hall.queue.length)
      ∧ (∀ k b, OwedItem.claim k b ∈ entered → ∃ y, t.alloc.slots[k]? = some y ∧ y.claim = .queued b)
      ∧ s.hall.queue.Sublist t.hall.queue
      ∧ (s.hall.queue.length ≤ 16 → t.hall.queue.length ≤ 16)
      ∧ t.hall = { s.hall with queue := t.hall.queue, owedJoin := t.hall.owedJoin }
      ∧ t.tariff = { s.tariff with owedCutover := t.tariff.owedCutover }
      ∧ t.bags.lateCount = s.bags.lateCount
      ∧ t.bags.rows.map (fun r => { r with owed := none }) = s.bags.rows.map (fun r => { r with owed := none })
      ∧ t.alloc.column = s.alloc.column ∧ t.alloc.log = s.alloc.log ∧ t.alloc.overflow = s.alloc.overflow
      ∧ t.alloc.slots.length = s.alloc.slots.length
      ∧ (∀ (k : Nat) (x y : Slot), s.alloc.slots[k]? = some x → t.alloc.slots[k]? = some y →
          y = { x with claim := y.claim, owedHeld := y.owedHeld, owedSpent := y.owedSpent, holdsOwed := y.holdsOwed }
            ∧ y.claim.block? = x.claim.block?)
      ∧ t.weighing = s.weighing ∧ t.gauge = s.gauge ∧ t.quotes = s.quotes ∧ t.link = s.link ∧ t.setup = s.setup

/-- Every well-formed frame, stuffed and with its check, is read back by a receiver, whatever the acknowledge slot shows
(R198, R199). A receiver refuses a frame of kind 0 or 10..15, of a class other than its kind's, with a bad check, or with a
dominant delimiter or end-field bit; a HOLDS of more than 2 blocks, while one of fewer has its unused block fields passed over;
six consecutive equal levels in the stuffed part; and a frame cut short (R164, R198, R199). FRAME_DISCARD counts such a sequence
(R164). The check is R193's: a register that begins at 65,535, its top bit compared with each bit in turn, moved up one place,
and combined with 4,129 where they differed. The bits it covers are class, station, kind, group and contents, each most
significant bit first, and the check follows them (R198); five equal levels are followed by one of the opposite level, the
first of the next run (R199). That a stuff bit also follows the last check bit is the model's reading (log 19), that
FRAME_DISCARD carries the levels received is its choice (log 34), and so is that the acknowledge slot is not driven where the
class field or the HOLDS count fails, the check being good (log 39). -/
def Obligations.FramesAreReadBackOrDiscarded : Prop :=
  let field (w n : Nat) : List Bool := (List.range w).map fun i => n.testBit (w - 1 - i)
  (∀ (i : Instr) (f : Frame) (ack : Bool), heardFrame? i = some f → i.wf = true → receive (f.levels ack) = .ok f)
  ∧ (∀ bits : List Bool, checkOf bits =
    bits.foldl (fun (reg : BitVec 16) bit =>
      if reg.getLsbD 15 = bit then reg <<< 1 else (reg <<< 1) ^^^ (4129#16)) 65535#16)
  ∧ (∀ f : Frame,
    f.coveredBits =
      (match f.body with
        | .claim _ _ | .held _ _ => field 3 0
        | .alive => field 3 2
        | _ => field 3 1)
      ++ field 5 f.station
      ++ (match f.body with
        | .join _ => field 4 1
        | .holds _ _ => field 4 2
        | .alive => field 4 3
        | .claim _ _ => field 4 4
        | .held _ _ => field 4 5
        | .spent _ _ => field 4 6
        | .posted _ _ _ _ _ => field 4 7
        | .bagnext _ _ => field 4 8
        | .cutover _ => field 4 9)
      ++ field 4 f.group
      ++ (match f.body with
        | .join office => field 16 office
        | .holds letter blocks =>
          field 8 letter ++ field 8 blocks.length ++ field 16 (blocks.getD 0 0) ++ field 16 (blocks.getD 1 0)
        | .alive => []
        | .claim letter block | .held letter block | .spent letter block => field 8 letter ++ field 16 block
        | .posted letter serial route bag weight =>
          field 8 letter ++ field 24 serial ++ field 8 route ++ field 16 bag ++ field 16 weight
        | .bagnext route bag => field 8 route ++ field 16 bag
        | .cutover version => field 16 version)
    ∧ ∀ ack, f.levels ack =
        stuff true 0 (f.coveredBits ++ field 16 (checkOf f.coveredBits).toNat) ++ [ack] ++ List.replicate 8 true)
  ∧ (∀ (level : Bool) (run : Nat), stuff level run [] = []
    ∧ ∀ (b : Bool) (rest : List Bool), stuff level run (b :: rest) =
        if (if b = level then run + 1 else 1) = 5 then b :: (!b) :: stuff (!b) 1 rest
        else b :: stuff b (if b = level then run + 1 else 1) rest)
  ∧ (∀ (i : Instr) (f : Frame), heardFrame? i = some f → i.wf = true →
    (∀ (frameClass check : Nat) (ack : Bool) (ending : List Bool), frameClass < 8 → check < 65536 →
      receive (stuff true 0 (field 3 frameClass ++ f.coveredBits.drop 3 ++ field 16 check) ++ ack :: ending) =
        if field 3 frameClass ≠ f.coveredBits.take 3 then .error .frameClass
        else if check ≠ (checkOf f.coveredBits).toNat then .error .check
        else if ending ≠ List.replicate 8 true then .error .delimiter
        else .ok f)
    ∧ (∀ (front rest : List Bool) (level : Bool),
      front <+: stuff true 0 (f.coveredBits ++ field 16 (checkOf f.coveredBits).toNat) →
      front.length + 6 ≤ f.coveredBits.length + 16 →
      ∃ cause, receive (front ++ List.replicate 6 level ++ rest) = .error cause)
    ∧ ∀ (ack : Bool) (n : Nat), n < (f.levels ack).length →
      ∃ cause, receive ((f.levels ack).take n) = .error cause)
  ∧ (∀ (frameClass station kind group : Nat) (rest : List Bool),
    frameClass < 8 → station < 32 → group < 16 → kind = 0 ∨ (10 ≤ kind ∧ kind < 16) →
    receive (stuff true 0 (field 3 frameClass ++ field 5 station ++ field 4 kind ++ field 4 group) ++ rest) = .error .kind)
  ∧ (∀ (station group letter count first second : Nat) (ack : Bool),
    station < 32 → group < 16 → letter < 256 → count < 256 → first < 65536 → second < 65536 →
    let bits := field 3 1 ++ field 5 station ++ field 4 2 ++ field 4 group
      ++ field 8 letter ++ field 8 count ++ field 16 first ++ field 16 second
    receive (stuff true 0 (bits ++ field 16 (checkOf bits).toNat) ++ ack :: List.replicate 8 true) =
      if 2 < count then .error .holdsCount
      else .ok { station := station, group := group, body := .holds letter ([first, second].take count) })
  ∧ ∀ (levels : List Bool) (cause : DiscardCause) (s : State), receive levels = .error cause →
    exec (.frameDiscard levels) s = .next (s.onHall fun h =>
      { h with
        receiveErrors := min (h.receiveErrors + 1) 65535
        ackDriven := decide (cause = .delimiter) && decide (h.state ≠ .muted) })

/-! ### Every step -/

/-- A command whose event cannot occur in the state changes nothing. The model's choice (log 3). -/
def Obligations.ImpossibleEventsChangeNothing : Prop :=
  ∀ (i : Instr) (s : State), s.scratch = .clear → occurs i s = false → exec i s = .next s

/-- Every step keeps the bounds: nothing is left over from an event, the outstanding list holds at most nine requests, the
ninth only beside a RESTART (R177, R180), every request still to be answered was taken before the next one (log 7), the transmit
queue holds at most 16 frames in order of class (R156), and every route row its ranges (R137). -/
def Obligations.StepKeepsTheBounds : Prop :=
  ∀ s t : State, step s = .next t →
    (ScratchClear s → ScratchClear t)
    ∧ (OutstandingBounded s → OutstandingBounded t)
    ∧ (RequestsEarlier s → RequestsEarlier t)
    ∧ (QueueOrdered s → QueueOrdered t)
    ∧ (RowsInRange s → RowsInRange t)

/-- Every step keeps the product slots sound: every held or claimed block lies in its window with its mark set, a reserve is
held only beside a current block, and the current block has a serial left (R110). In a sound state of eight product slots it
keeps each slot's supply state the one its map, holdings and claim give it (R111), and well-formed commands keep the eight slots
(R107). -/
def Obligations.StepKeepsHoldingsInTheWindow : Prop :=
  ∀ s t : State, SlotsSound s → step s = .next t →
    SlotsSound t
    ∧ (s.alloc.slots.length = 8 →
        (SuppliesCurrent s → SuppliesCurrent t) ∧ (s.pending.all Instr.wf = true → t.alloc.slots.length = 8))

/-- Every step keeps the quote table and the banks in step: at most four quotes under distinct numbers, the pending order
naming the COMMITTING ones once each, each bank's count the number of its quotes, and a bank with quotes ACTIVE or RETIRING
(R84, R90, R94, R101); at most one bank is LOADING and at most one ACTIVE (3.1). -/
def Obligations.StepKeepsQuotesAndBanksInStep : Prop :=
  ∀ s t : State, QuotesSound s → BanksSound s → step s = .next t → QuotesSound t ∧ BanksSound t

/-- Every step keeps Zo within 8,000 dg of Zinit, a parcel record in SETTLED, and a RATE waiting only in MOVING (R12, R66, R86
to R88). -/
def Obligations.StepKeepsTheScaleSound : Prop :=
  ∀ s t : State, ScaleSound s → step s = .next t → ScaleSound t

/-- No step but one that takes POWER_ON_RESET or the START of a part without configuration clears a mark of an exclusion map
(R108). -/
def Obligations.MarksAreNeverCleared : Prop :=
  ∀ s t : State, step s = .next t → s.setup ≠ none → (∀ straps rest, s.pending ≠ .powerOnReset straps :: rest) →
    ∀ (k n : Nat) (x : Slot), s.alloc.slots[k]? = some x → x.marks[n]? = some true →
      ∃ y, t.alloc.slots[k]? = some y ∧ y.marks[n]? = some true ∧ y.first = x.first ∧ y.letter = x.letter
end

