-- ==== Sys2Proof/Laws/State.lean ====
section
/-! SUPPORT. What each update of the state leaves in each field, by computation; no proof unfolds a record update. -/

namespace Sys2Proof.Machine.State

variable (s : State)

@[simp] theorem onWeighing_setup (f : Weighing → Weighing) : (s.onWeighing f).setup = s.setup := rfl
@[simp] theorem onWeighing_weighing (f : Weighing → Weighing) : (s.onWeighing f).weighing = f s.weighing := rfl
@[simp] theorem onWeighing_gauge (f : Weighing → Weighing) : (s.onWeighing f).gauge = s.gauge := rfl
@[simp] theorem onWeighing_tariff (f : Weighing → Weighing) : (s.onWeighing f).tariff = s.tariff := rfl
@[simp] theorem onWeighing_quotes (f : Weighing → Weighing) : (s.onWeighing f).quotes = s.quotes := rfl
@[simp] theorem onWeighing_alloc (f : Weighing → Weighing) : (s.onWeighing f).alloc = s.alloc := rfl
@[simp] theorem onWeighing_bags (f : Weighing → Weighing) : (s.onWeighing f).bags = s.bags := rfl
@[simp] theorem onWeighing_hall (f : Weighing → Weighing) : (s.onWeighing f).hall = s.hall := rfl
@[simp] theorem onWeighing_link (f : Weighing → Weighing) : (s.onWeighing f).link = s.link := rfl
@[simp] theorem onWeighing_scratch (f : Weighing → Weighing) : (s.onWeighing f).scratch = s.scratch := rfl
@[simp] theorem onWeighing_draws (f : Weighing → Weighing) : (s.onWeighing f).draws = s.draws := rfl
@[simp] theorem onWeighing_pending (f : Weighing → Weighing) : (s.onWeighing f).pending = s.pending := rfl

@[simp] theorem onGauge_setup (f : Gauge → Gauge) : (s.onGauge f).setup = s.setup := rfl
@[simp] theorem onGauge_weighing (f : Gauge → Gauge) : (s.onGauge f).weighing = s.weighing := rfl
@[simp] theorem onGauge_gauge (f : Gauge → Gauge) : (s.onGauge f).gauge = f s.gauge := rfl
@[simp] theorem onGauge_tariff (f : Gauge → Gauge) : (s.onGauge f).tariff = s.tariff := rfl
@[simp] theorem onGauge_quotes (f : Gauge → Gauge) : (s.onGauge f).quotes = s.quotes := rfl
@[simp] theorem onGauge_alloc (f : Gauge → Gauge) : (s.onGauge f).alloc = s.alloc := rfl
@[simp] theorem onGauge_bags (f : Gauge → Gauge) : (s.onGauge f).bags = s.bags := rfl
@[simp] theorem onGauge_hall (f : Gauge → Gauge) : (s.onGauge f).hall = s.hall := rfl
@[simp] theorem onGauge_link (f : Gauge → Gauge) : (s.onGauge f).link = s.link := rfl
@[simp] theorem onGauge_scratch (f : Gauge → Gauge) : (s.onGauge f).scratch = s.scratch := rfl
@[simp] theorem onGauge_draws (f : Gauge → Gauge) : (s.onGauge f).draws = s.draws := rfl
@[simp] theorem onGauge_pending (f : Gauge → Gauge) : (s.onGauge f).pending = s.pending := rfl

@[simp] theorem onHall_setup (f : Hall → Hall) : (s.onHall f).setup = s.setup := rfl
@[simp] theorem onHall_weighing (f : Hall → Hall) : (s.onHall f).weighing = s.weighing := rfl
@[simp] theorem onHall_gauge (f : Hall → Hall) : (s.onHall f).gauge = s.gauge := rfl
@[simp] theorem onHall_tariff (f : Hall → Hall) : (s.onHall f).tariff = s.tariff := rfl
@[simp] theorem onHall_quotes (f : Hall → Hall) : (s.onHall f).quotes = s.quotes := rfl
@[simp] theorem onHall_alloc (f : Hall → Hall) : (s.onHall f).alloc = s.alloc := rfl
@[simp] theorem onHall_bags (f : Hall → Hall) : (s.onHall f).bags = s.bags := rfl
@[simp] theorem onHall_hall (f : Hall → Hall) : (s.onHall f).hall = f s.hall := rfl
@[simp] theorem onHall_link (f : Hall → Hall) : (s.onHall f).link = s.link := rfl
@[simp] theorem onHall_scratch (f : Hall → Hall) : (s.onHall f).scratch = s.scratch := rfl
@[simp] theorem onHall_draws (f : Hall → Hall) : (s.onHall f).draws = s.draws := rfl
@[simp] theorem onHall_pending (f : Hall → Hall) : (s.onHall f).pending = s.pending := rfl

@[simp] theorem onLink_setup (f : Link → Link) : (s.onLink f).setup = s.setup := rfl
@[simp] theorem onLink_weighing (f : Link → Link) : (s.onLink f).weighing = s.weighing := rfl
@[simp] theorem onLink_gauge (f : Link → Link) : (s.onLink f).gauge = s.gauge := rfl
@[simp] theorem onLink_tariff (f : Link → Link) : (s.onLink f).tariff = s.tariff := rfl
@[simp] theorem onLink_quotes (f : Link → Link) : (s.onLink f).quotes = s.quotes := rfl
@[simp] theorem onLink_alloc (f : Link → Link) : (s.onLink f).alloc = s.alloc := rfl
@[simp] theorem onLink_bags (f : Link → Link) : (s.onLink f).bags = s.bags := rfl
@[simp] theorem onLink_hall (f : Link → Link) : (s.onLink f).hall = s.hall := rfl
@[simp] theorem onLink_link (f : Link → Link) : (s.onLink f).link = f s.link := rfl
@[simp] theorem onLink_scratch (f : Link → Link) : (s.onLink f).scratch = s.scratch := rfl
@[simp] theorem onLink_draws (f : Link → Link) : (s.onLink f).draws = s.draws := rfl
@[simp] theorem onLink_pending (f : Link → Link) : (s.onLink f).pending = s.pending := rfl

@[simp] theorem modifySlot_setup (k : Nat) (f : Slot → Slot) : (s.modifySlot k f).setup = s.setup := rfl
@[simp] theorem modifySlot_weighing (k : Nat) (f : Slot → Slot) : (s.modifySlot k f).weighing = s.weighing := rfl
@[simp] theorem modifySlot_gauge (k : Nat) (f : Slot → Slot) : (s.modifySlot k f).gauge = s.gauge := rfl
@[simp] theorem modifySlot_tariff (k : Nat) (f : Slot → Slot) : (s.modifySlot k f).tariff = s.tariff := rfl
@[simp] theorem modifySlot_quotes (k : Nat) (f : Slot → Slot) : (s.modifySlot k f).quotes = s.quotes := rfl
@[simp] theorem modifySlot_alloc (k : Nat) (f : Slot → Slot) :
    (s.modifySlot k f).alloc = { s.alloc with slots := s.alloc.slots.modify k f } := rfl
@[simp] theorem modifySlot_bags (k : Nat) (f : Slot → Slot) : (s.modifySlot k f).bags = s.bags := rfl
@[simp] theorem modifySlot_hall (k : Nat) (f : Slot → Slot) : (s.modifySlot k f).hall = s.hall := rfl
@[simp] theorem modifySlot_link (k : Nat) (f : Slot → Slot) : (s.modifySlot k f).link = s.link := rfl
@[simp] theorem modifySlot_scratch (k : Nat) (f : Slot → Slot) : (s.modifySlot k f).scratch = s.scratch := rfl
@[simp] theorem modifySlot_draws (k : Nat) (f : Slot → Slot) : (s.modifySlot k f).draws = s.draws := rfl
@[simp] theorem modifySlot_pending (k : Nat) (f : Slot → Slot) : (s.modifySlot k f).pending = s.pending := rfl

@[simp] theorem modifyColumn_setup (n k : Nat) (f : List Nat → List Nat) : (s.modifyColumn n k f).setup = s.setup := rfl
@[simp] theorem modifyColumn_weighing (n k : Nat) (f : List Nat → List Nat) :
    (s.modifyColumn n k f).weighing = s.weighing := rfl
@[simp] theorem modifyColumn_gauge (n k : Nat) (f : List Nat → List Nat) : (s.modifyColumn n k f).gauge = s.gauge := rfl
@[simp] theorem modifyColumn_tariff (n k : Nat) (f : List Nat → List Nat) :
    (s.modifyColumn n k f).tariff = s.tariff := rfl
@[simp] theorem modifyColumn_quotes (n k : Nat) (f : List Nat → List Nat) :
    (s.modifyColumn n k f).quotes = s.quotes := rfl
@[simp] theorem modifyColumn_alloc (n k : Nat) (f : List Nat → List Nat) :
    (s.modifyColumn n k f).alloc = { s.alloc with column := s.alloc.column.modify n fun row => row.modify k f } := rfl
@[simp] theorem modifyColumn_bags (n k : Nat) (f : List Nat → List Nat) : (s.modifyColumn n k f).bags = s.bags := rfl
@[simp] theorem modifyColumn_hall (n k : Nat) (f : List Nat → List Nat) : (s.modifyColumn n k f).hall = s.hall := rfl
@[simp] theorem modifyColumn_link (n k : Nat) (f : List Nat → List Nat) : (s.modifyColumn n k f).link = s.link := rfl
@[simp] theorem modifyColumn_scratch (n k : Nat) (f : List Nat → List Nat) :
    (s.modifyColumn n k f).scratch = s.scratch := rfl
@[simp] theorem modifyColumn_draws (n k : Nat) (f : List Nat → List Nat) : (s.modifyColumn n k f).draws = s.draws := rfl
@[simp] theorem modifyColumn_pending (n k : Nat) (f : List Nat → List Nat) :
    (s.modifyColumn n k f).pending = s.pending := rfl

@[simp] theorem modifyRow_setup (r : Nat) (f : Row → Row) : (s.modifyRow r f).setup = s.setup := rfl
@[simp] theorem modifyRow_weighing (r : Nat) (f : Row → Row) : (s.modifyRow r f).weighing = s.weighing := rfl
@[simp] theorem modifyRow_gauge (r : Nat) (f : Row → Row) : (s.modifyRow r f).gauge = s.gauge := rfl
@[simp] theorem modifyRow_tariff (r : Nat) (f : Row → Row) : (s.modifyRow r f).tariff = s.tariff := rfl
@[simp] theorem modifyRow_quotes (r : Nat) (f : Row → Row) : (s.modifyRow r f).quotes = s.quotes := rfl
@[simp] theorem modifyRow_alloc (r : Nat) (f : Row → Row) : (s.modifyRow r f).alloc = s.alloc := rfl
@[simp] theorem modifyRow_bags (r : Nat) (f : Row → Row) :
    (s.modifyRow r f).bags = { s.bags with rows := s.bags.rows.modify r f } := rfl
@[simp] theorem modifyRow_hall (r : Nat) (f : Row → Row) : (s.modifyRow r f).hall = s.hall := rfl
@[simp] theorem modifyRow_link (r : Nat) (f : Row → Row) : (s.modifyRow r f).link = s.link := rfl
@[simp] theorem modifyRow_scratch (r : Nat) (f : Row → Row) : (s.modifyRow r f).scratch = s.scratch := rfl
@[simp] theorem modifyRow_draws (r : Nat) (f : Row → Row) : (s.modifyRow r f).draws = s.draws := rfl
@[simp] theorem modifyRow_pending (r : Nat) (f : Row → Row) : (s.modifyRow r f).pending = s.pending := rfl

@[simp] theorem modifyPeer_setup (n : Nat) (f : Peer → Peer) : (s.modifyPeer n f).setup = s.setup := rfl
@[simp] theorem modifyPeer_weighing (n : Nat) (f : Peer → Peer) : (s.modifyPeer n f).weighing = s.weighing := rfl
@[simp] theorem modifyPeer_gauge (n : Nat) (f : Peer → Peer) : (s.modifyPeer n f).gauge = s.gauge := rfl
@[simp] theorem modifyPeer_tariff (n : Nat) (f : Peer → Peer) : (s.modifyPeer n f).tariff = s.tariff := rfl
@[simp] theorem modifyPeer_quotes (n : Nat) (f : Peer → Peer) : (s.modifyPeer n f).quotes = s.quotes := rfl
@[simp] theorem modifyPeer_alloc (n : Nat) (f : Peer → Peer) : (s.modifyPeer n f).alloc = s.alloc := rfl
@[simp] theorem modifyPeer_bags (n : Nat) (f : Peer → Peer) : (s.modifyPeer n f).bags = s.bags := rfl
@[simp] theorem modifyPeer_hall (n : Nat) (f : Peer → Peer) :
    (s.modifyPeer n f).hall = { s.hall with peers := s.hall.peers.modify n f } := rfl
@[simp] theorem modifyPeer_link (n : Nat) (f : Peer → Peer) : (s.modifyPeer n f).link = s.link := rfl
@[simp] theorem modifyPeer_scratch (n : Nat) (f : Peer → Peer) : (s.modifyPeer n f).scratch = s.scratch := rfl
@[simp] theorem modifyPeer_draws (n : Nat) (f : Peer → Peer) : (s.modifyPeer n f).draws = s.draws := rfl
@[simp] theorem modifyPeer_pending (n : Nat) (f : Peer → Peer) : (s.modifyPeer n f).pending = s.pending := rfl

@[simp] theorem modifyQuote_setup (n : Nat) (f : Quote → Quote) : (s.modifyQuote n f).setup = s.setup := rfl
@[simp] theorem modifyQuote_weighing (n : Nat) (f : Quote → Quote) : (s.modifyQuote n f).weighing = s.weighing := rfl
@[simp] theorem modifyQuote_gauge (n : Nat) (f : Quote → Quote) : (s.modifyQuote n f).gauge = s.gauge := rfl
@[simp] theorem modifyQuote_tariff (n : Nat) (f : Quote → Quote) : (s.modifyQuote n f).tariff = s.tariff := rfl
@[simp] theorem modifyQuote_quotes (n : Nat) (f : Quote → Quote) :
    (s.modifyQuote n f).quotes = { s.quotes with records := s.quotes.records.map fun q => if q.number = n then f q else q } := rfl
@[simp] theorem modifyQuote_alloc (n : Nat) (f : Quote → Quote) : (s.modifyQuote n f).alloc = s.alloc := rfl
@[simp] theorem modifyQuote_bags (n : Nat) (f : Quote → Quote) : (s.modifyQuote n f).bags = s.bags := rfl
@[simp] theorem modifyQuote_hall (n : Nat) (f : Quote → Quote) : (s.modifyQuote n f).hall = s.hall := rfl
@[simp] theorem modifyQuote_link (n : Nat) (f : Quote → Quote) : (s.modifyQuote n f).link = s.link := rfl
@[simp] theorem modifyQuote_scratch (n : Nat) (f : Quote → Quote) : (s.modifyQuote n f).scratch = s.scratch := rfl
@[simp] theorem modifyQuote_draws (n : Nat) (f : Quote → Quote) : (s.modifyQuote n f).draws = s.draws := rfl
@[simp] theorem modifyQuote_pending (n : Nat) (f : Quote → Quote) : (s.modifyQuote n f).pending = s.pending := rfl

@[simp] theorem clearWaiting_setup : (s.clearWaiting).setup = s.setup := rfl
@[simp] theorem clearWaiting_weighing : (s.clearWaiting).weighing = s.weighing := rfl
@[simp] theorem clearWaiting_gauge : (s.clearWaiting).gauge = s.gauge := rfl
@[simp] theorem clearWaiting_tariff : (s.clearWaiting).tariff = s.tariff := rfl
@[simp] theorem clearWaiting_quotes : (s.clearWaiting).quotes = { s.quotes with waiting := none } := rfl
@[simp] theorem clearWaiting_alloc : (s.clearWaiting).alloc = s.alloc := rfl
@[simp] theorem clearWaiting_bags : (s.clearWaiting).bags = s.bags := rfl
@[simp] theorem clearWaiting_hall : (s.clearWaiting).hall = s.hall := rfl
@[simp] theorem clearWaiting_link : (s.clearWaiting).link = s.link := rfl
@[simp] theorem clearWaiting_scratch : (s.clearWaiting).scratch = s.scratch := rfl
@[simp] theorem clearWaiting_draws : (s.clearWaiting).draws = s.draws := rfl
@[simp] theorem clearWaiting_pending : (s.clearWaiting).pending = s.pending := rfl

@[simp] theorem produce_setup (m : OutMsg) : (s.produce m).setup = s.setup := rfl
@[simp] theorem produce_weighing (m : OutMsg) : (s.produce m).weighing = s.weighing := rfl
@[simp] theorem produce_gauge (m : OutMsg) : (s.produce m).gauge = s.gauge := rfl
@[simp] theorem produce_tariff (m : OutMsg) : (s.produce m).tariff = s.tariff := rfl
@[simp] theorem produce_quotes (m : OutMsg) : (s.produce m).quotes = s.quotes := rfl
@[simp] theorem produce_alloc (m : OutMsg) : (s.produce m).alloc = s.alloc := rfl
@[simp] theorem produce_bags (m : OutMsg) : (s.produce m).bags = s.bags := rfl
@[simp] theorem produce_hall (m : OutMsg) : (s.produce m).hall = s.hall := rfl
@[simp] theorem produce_link (m : OutMsg) : (s.produce m).link = s.link := rfl
@[simp] theorem produce_scratch (m : OutMsg) :
    (s.produce m).scratch = { s.scratch with produced := s.scratch.produced ++ [m] } := rfl
@[simp] theorem produce_draws (m : OutMsg) : (s.produce m).draws = s.draws := rfl
@[simp] theorem produce_pending (m : OutMsg) : (s.produce m).pending = s.pending := rfl

@[simp] theorem reply_setup (r : RequestRef) (b : Reply) : (s.reply r b).setup = s.setup := rfl
@[simp] theorem reply_weighing (r : RequestRef) (b : Reply) : (s.reply r b).weighing = s.weighing := rfl
@[simp] theorem reply_gauge (r : RequestRef) (b : Reply) : (s.reply r b).gauge = s.gauge := rfl
@[simp] theorem reply_tariff (r : RequestRef) (b : Reply) : (s.reply r b).tariff = s.tariff := rfl
@[simp] theorem reply_quotes (r : RequestRef) (b : Reply) : (s.reply r b).quotes = s.quotes := rfl
@[simp] theorem reply_alloc (r : RequestRef) (b : Reply) : (s.reply r b).alloc = s.alloc := rfl
@[simp] theorem reply_bags (r : RequestRef) (b : Reply) : (s.reply r b).bags = s.bags := rfl
@[simp] theorem reply_hall (r : RequestRef) (b : Reply) : (s.reply r b).hall = s.hall := rfl
@[simp] theorem reply_link (r : RequestRef) (b : Reply) : (s.reply r b).link = s.link := rfl
@[simp] theorem reply_scratch (r : RequestRef) (b : Reply) :
    (s.reply r b).scratch = { s.scratch with produced := s.scratch.produced ++ [.reply (some r.id) r.tag b] } := rfl
@[simp] theorem reply_draws (r : RequestRef) (b : Reply) : (s.reply r b).draws = s.draws := rfl
@[simp] theorem reply_pending (r : RequestRef) (b : Reply) : (s.reply r b).pending = s.pending := rfl

@[simp] theorem notify_setup (n : Notice) : (s.notify n).setup = s.setup := rfl
@[simp] theorem notify_weighing (n : Notice) : (s.notify n).weighing = s.weighing := rfl
@[simp] theorem notify_gauge (n : Notice) : (s.notify n).gauge = s.gauge := rfl
@[simp] theorem notify_tariff (n : Notice) : (s.notify n).tariff = s.tariff := rfl
@[simp] theorem notify_quotes (n : Notice) : (s.notify n).quotes = s.quotes := rfl
@[simp] theorem notify_alloc (n : Notice) : (s.notify n).alloc = s.alloc := rfl
@[simp] theorem notify_bags (n : Notice) : (s.notify n).bags = s.bags := rfl
@[simp] theorem notify_hall (n : Notice) : (s.notify n).hall = s.hall := rfl
@[simp] theorem notify_link (n : Notice) :
    (s.notify n).link = { s.link with noticeSeq := (s.link.noticeSeq + 1) % 256 } := rfl
@[simp] theorem notify_scratch (n : Notice) :
    (s.notify n).scratch = { s.scratch with produced := s.scratch.produced ++ [.notice s.link.noticeSeq n] } := rfl
@[simp] theorem notify_draws (n : Notice) : (s.notify n).draws = s.draws := rfl
@[simp] theorem notify_pending (n : Notice) : (s.notify n).pending = s.pending := rfl

@[simp] theorem dueOffer_setup : (s.dueOffer).setup = s.setup := rfl
@[simp] theorem dueOffer_weighing : (s.dueOffer).weighing = s.weighing := rfl
@[simp] theorem dueOffer_gauge : (s.dueOffer).gauge = s.gauge := rfl
@[simp] theorem dueOffer_tariff : (s.dueOffer).tariff = s.tariff := rfl
@[simp] theorem dueOffer_quotes : (s.dueOffer).quotes = s.quotes := rfl
@[simp] theorem dueOffer_alloc : (s.dueOffer).alloc = s.alloc := rfl
@[simp] theorem dueOffer_bags : (s.dueOffer).bags = s.bags := rfl
@[simp] theorem dueOffer_hall : (s.dueOffer).hall = s.hall := rfl
@[simp] theorem dueOffer_link : (s.dueOffer).link = s.link := rfl
@[simp] theorem dueOffer_scratch : (s.dueOffer).scratch = { s.scratch with offerDue := true } := rfl
@[simp] theorem dueOffer_draws : (s.dueOffer).draws = s.draws := rfl
@[simp] theorem dueOffer_pending : (s.dueOffer).pending = s.pending := rfl

@[simp] theorem dueServe_setup : (s.dueServe).setup = s.setup := rfl
@[simp] theorem dueServe_weighing : (s.dueServe).weighing = s.weighing := rfl
@[simp] theorem dueServe_gauge : (s.dueServe).gauge = s.gauge := rfl
@[simp] theorem dueServe_tariff : (s.dueServe).tariff = s.tariff := rfl
@[simp] theorem dueServe_quotes : (s.dueServe).quotes = s.quotes := rfl
@[simp] theorem dueServe_alloc : (s.dueServe).alloc = s.alloc := rfl
@[simp] theorem dueServe_bags : (s.dueServe).bags = s.bags := rfl
@[simp] theorem dueServe_hall : (s.dueServe).hall = s.hall := rfl
@[simp] theorem dueServe_link : (s.dueServe).link = s.link := rfl
@[simp] theorem dueServe_scratch : (s.dueServe).scratch = { s.scratch with serveDue := true } := rfl
@[simp] theorem dueServe_draws : (s.dueServe).draws = s.draws := rfl
@[simp] theorem dueServe_pending : (s.dueServe).pending = s.pending := rfl

@[simp] theorem enqueue_setup (b : FrameBody) : (s.enqueue b).setup = s.setup := rfl
@[simp] theorem enqueue_weighing (b : FrameBody) : (s.enqueue b).weighing = s.weighing := rfl
@[simp] theorem enqueue_gauge (b : FrameBody) : (s.enqueue b).gauge = s.gauge := rfl
@[simp] theorem enqueue_tariff (b : FrameBody) : (s.enqueue b).tariff = s.tariff := rfl
@[simp] theorem enqueue_quotes (b : FrameBody) : (s.enqueue b).quotes = s.quotes := rfl
@[simp] theorem enqueue_alloc (b : FrameBody) : (s.enqueue b).alloc = s.alloc := rfl
@[simp] theorem enqueue_bags (b : FrameBody) : (s.enqueue b).bags = s.bags := rfl
@[simp] theorem enqueue_hall (b : FrameBody) :
    (s.enqueue b).hall = { s.hall with queue := insertFrame s.hall.queue { frame := s.buildFrame b, check := none } } := rfl
@[simp] theorem enqueue_link (b : FrameBody) : (s.enqueue b).link = s.link := rfl
@[simp] theorem enqueue_scratch (b : FrameBody) : (s.enqueue b).scratch = s.scratch := rfl
@[simp] theorem enqueue_draws (b : FrameBody) : (s.enqueue b).draws = s.draws := rfl
@[simp] theorem enqueue_pending (b : FrameBody) : (s.enqueue b).pending = s.pending := rfl

@[simp] theorem flush_setup (own : Nat) : (s.flush own).setup = s.setup := rfl
@[simp] theorem flush_weighing (own : Nat) : (s.flush own).weighing = s.weighing := rfl
@[simp] theorem flush_gauge (own : Nat) : (s.flush own).gauge = s.gauge := rfl
@[simp] theorem flush_tariff (own : Nat) : (s.flush own).tariff = s.tariff := rfl
@[simp] theorem flush_quotes (own : Nat) : (s.flush own).quotes = s.quotes := rfl
@[simp] theorem flush_alloc (own : Nat) : (s.flush own).alloc = s.alloc := rfl
@[simp] theorem flush_bags (own : Nat) : (s.flush own).bags = s.bags := rfl
@[simp] theorem flush_hall (own : Nat) : (s.flush own).hall = s.hall := rfl
@[simp] theorem flush_link (own : Nat) :
    (s.flush own).link = (ownFirst own s.scratch.produced).foldl Link.accept s.link := rfl
@[simp] theorem flush_scratch (own : Nat) : (s.flush own).scratch = .clear := rfl
@[simp] theorem flush_draws (own : Nat) : (s.flush own).draws = s.draws := rfl
@[simp] theorem flush_pending (own : Nat) : (s.flush own).pending = s.pending := rfl

@[simp] theorem setBank_setup (id : BankId) (b : Bank) : (s.setBank id b).setup = s.setup := by cases id <;> rfl
@[simp] theorem setBank_weighing (id : BankId) (b : Bank) : (s.setBank id b).weighing = s.weighing := by cases id <;> rfl
@[simp] theorem setBank_gauge (id : BankId) (b : Bank) : (s.setBank id b).gauge = s.gauge := by cases id <;> rfl
@[simp] theorem setBank_quotes (id : BankId) (b : Bank) : (s.setBank id b).quotes = s.quotes := by cases id <;> rfl
@[simp] theorem setBank_alloc (id : BankId) (b : Bank) : (s.setBank id b).alloc = s.alloc := by cases id <;> rfl
@[simp] theorem setBank_bags (id : BankId) (b : Bank) : (s.setBank id b).bags = s.bags := by cases id <;> rfl
@[simp] theorem setBank_hall (id : BankId) (b : Bank) : (s.setBank id b).hall = s.hall := by cases id <;> rfl
@[simp] theorem setBank_link (id : BankId) (b : Bank) : (s.setBank id b).link = s.link := by cases id <;> rfl
@[simp] theorem setBank_scratch (id : BankId) (b : Bank) : (s.setBank id b).scratch = s.scratch := by cases id <;> rfl
@[simp] theorem setBank_draws (id : BankId) (b : Bank) : (s.setBank id b).draws = s.draws := by cases id <;> rfl
@[simp] theorem setBank_pending (id : BankId) (b : Bank) : (s.setBank id b).pending = s.pending := by cases id <;> rfl

@[simp] theorem bank_setBank_same (id : BankId) (b : Bank) : (s.setBank id b).bank id = b := by cases id <;> rfl

@[simp] theorem bank_setBank_other (id : BankId) (b : Bank) : (s.setBank id b).bank id.other = s.bank id.other := by
  cases id <;> rfl

@[simp] theorem setBank_cursor (id : BankId) (b : Bank) : (s.setBank id b).tariff.cursor = s.tariff.cursor := by
  cases id <;> rfl

@[simp] theorem setBank_owedCutover (id : BankId) (b : Bank) :
    (s.setBank id b).tariff.owedCutover = s.tariff.owedCutover := by
  cases id <;> rfl

end Sys2Proof.Machine.State
end

