-- ==== Sys2Proof/Laws/Ops.lean ====
section
/-! SUPPORT. One lemma per shared operation that says what it can do: the end of an event, the output queue, the words of the
statements, banks and slots by name, the transmit queue, marks, and the passing of time. -/

namespace Sys2Proof.Machine

/-! ### The end of an event -/

/-- Nothing produced: the flush leaves a clear state as it stands. -/
theorem flush_clear (own : Nat) (s : State) (h : s.scratch = .clear) : s.flush own = s := by
  cases s
  simp only at h
  subst h
  rfl

/-- Nothing due: the end of an event is the flush alone. -/
theorem finish_quiet (own : Nat) (order : RoomOrder) (s : State) (h1 : s.scratch.offerDue = false)
    (h2 : s.scratch.serveDue = false) : s.finish own order = s.flush own := by
  cases order <;> simp [State.finish, State.settleRoom, State.serveIfDue, State.offerIfDue, h1, h2]

/-- Nothing produced and nothing due: the end of an event changes nothing. -/
theorem finish_clear (own : Nat) (order : RoomOrder) (s : State) (h : s.scratch = .clear) : s.finish own order = s := by
  rw [finish_quiet own order s (by rw [h]; rfl) (by rw [h]; rfl), flush_clear own s h]

/-- After the end of an event the scratch is clear. -/
@[simp] theorem finish_scratch (own : Nat) (order : RoomOrder) (s : State) : (s.finish own order).scratch = .clear := rfl

/-- A list of one message keeps its order. -/
@[simp] theorem ownFirst_single (own : Nat) (m : OutMsg) : ownFirst own [m] = [m] := by
  unfold ownFirst
  by_cases h : m.answers own <;> simp [h]

/-- No message at all. -/
@[simp] theorem ownFirst_nil (own : Nat) : ownFirst own [] = [] := rfl

/-- Replies alone keep their order (R179). -/
theorem ownFirst_replies (own : Nat) (l : List OutMsg) (h : ∀ m ∈ l, m.isReply = true) : ownFirst own l = l := by
  unfold ownFirst
  split
  · rfl
  · rename_i mine rest hd
    have ht : ∀ m ∈ l.takeWhile (fun m => !m.answers own), m.isReply = true :=
      fun m hm => h m (List.takeWhile_subset _ hm)
    show (l.takeWhile fun m => !m.answers own).takeWhile OutMsg.isReply
      ++ mine :: ((l.takeWhile fun m => !m.answers own).dropWhile OutMsg.isReply ++ rest) = l
    rw [List.takeWhile_eq_self_iff.mpr ht, List.dropWhile_eq_nil_iff.mpr ht, List.nil_append, ← hd,
      List.takeWhile_append_dropWhile]

/-- An event that produced one message and made nothing due ends with that message in the output queue. -/
theorem finish_produce (own : Nat) (order : RoomOrder) (m : OutMsg) (s : State) (h : s.scratch = .clear) :
    (s.produce m).finish own order = s.onLink fun l => l.accept m := by
  have hp : (s.produce m).scratch = { produced := [m], offerDue := false, serveDue := false } := by
    simp [State.produce, h, Scratch.clear]
  rw [finish_quiet own order _ (by rw [hp]) (by rw [hp])]
  cases s
  simp only at h
  subst h
  simp [State.flush, State.produce, State.onLink, Scratch.clear]

/-- A reply always enters the output queue (R179). -/
theorem admit_reply (l : Link) (request : Option Nat) (tag : Nat) (body : Reply) :
    l.accept (.reply request tag body) = { l with output := l.output ++ [OutEntry.of (.reply request tag body)] } := by
  simp [Link.accept, OutMsg.isReply]

/-- A notice enters while fewer than 23 messages are held, and is counted as dropped otherwise (R179). -/
theorem admit_notice (l : Link) (seq : Nat) (n : Notice) :
    l.accept (.notice seq n) =
      if l.output.length < 23 then { l with output := l.output ++ [OutEntry.of (.notice seq n)] }
      else { l with dropped := min (l.dropped + 1) 65535 } := by
  by_cases h : l.output.length < 23 <;> simp [Link.accept, OutMsg.isReply, Config.noticeLevel, sat, Config.max16, h]

/-- What enters the output queue touches neither the outstanding list nor the parser. -/
theorem foldl_accept_outstanding (msgs : List OutMsg) (l : Link) :
    (msgs.foldl Link.accept l).outstanding = l.outstanding ∧ (msgs.foldl Link.accept l).parser = l.parser
      ∧ (msgs.foldl Link.accept l).noticeSeq = l.noticeSeq ∧ (msgs.foldl Link.accept l).nextId = l.nextId := by
  induction msgs generalizing l with
  | nil => exact ⟨rfl, rfl, rfl, rfl⟩
  | cons m ms ih =>
    obtain ⟨h1, h2, h3, h4⟩ := ih (l.accept m)
    have h : (l.accept m).outstanding = l.outstanding ∧ (l.accept m).parser = l.parser
        ∧ (l.accept m).noticeSeq = l.noticeSeq ∧ (l.accept m).nextId = l.nextId := by
      unfold Link.accept
      split <;> exact ⟨rfl, rfl, rfl, rfl⟩
    exact ⟨h1.trans h.1, h2.trans h.2.1, h3.trans h.2.2.1, h4.trans h.2.2.2⟩

/-- The output queue only grows at its end while an event's messages enter. -/
theorem prefix_foldl_accept (msgs : List OutMsg) (l : Link) : l.output <+: (msgs.foldl Link.accept l).output := by
  induction msgs generalizing l with
  | nil => exact List.prefix_refl _
  | cons m ms ih =>
    refine List.IsPrefix.trans ?_ (ih (l.accept m))
    unfold Link.accept
    split
    · exact List.prefix_append _ _
    · exact List.prefix_refl _

/-- A request that is not turned away joins the outstanding list and goes to its owner (R177, R181). -/
theorem takeWhole_taken (tag : Nat) (r : Request) (s : State) (h : s.link.full r.kind = false) :
    takeWhole tag r s =
      (if s.started then (s.taken tag r.kind).handRequest (s.nextRef tag) r
        else (s.taken tag r.kind).handEarly (s.nextRef tag) r).finish s.link.nextId .owedFirst := by
  simp only [takeWhole, State.takeRequest, h, State.taken, State.nextRef]
  rfl

/-! ### The words of the statements -/

/-- What a command that answers a next state has done. -/
theorem did_of_next {i : Instr} {s t : State} (h : exec i s = .next t) : s.did i = t := by
  simp only [State.did, h]

/-- Nothing pending: a serving changes nothing. -/
theorem served_of_nil {s : State} (h : s.quotes.pendingOrder = []) : s.served = s := by
  simp only [State.served, h, List.foldl_nil]

@[simp] theorem turnedBack_nil (reason : Reason) (s : State) : s.turnedBack reason [] = s := rfl

/-- COMMITs are turned back one number after another. -/
theorem turnedBack_cons (reason : Reason) (n : Nat) (ns : List Nat) (s : State) :
    s.turnedBack reason (n :: ns) = (s.turnedBack reason [n]).turnedBack reason ns := rfl

/-- Turning COMMITs back touches the quote table and the counter link alone. -/
theorem turnedBack_frame (reason : Reason) (ns : List Nat) (s : State) :
    s.turnedBack reason ns =
      { s with quotes := (s.turnedBack reason ns).quotes, link := (s.turnedBack reason ns).link } := by
  induction ns generalizing s with
  | nil => rfl
  | cons n ns ih =>
    have h : s.turnedBack reason [n] =
        { s with quotes := (s.turnedBack reason [n]).quotes, link := (s.turnedBack reason [n]).link } := by
      simp only [State.turnedBack, List.foldl_cons, List.foldl_nil]
      split
      · rfl
      · split <;> rfl
    rw [turnedBack_cons, ih (s.turnedBack reason [n]), h]

/-- Turning COMMITs back leaves the other quotes and their figures: the same numbers stand in the table, in their order. -/
theorem turnedBack_numbers (reason : Reason) (ns : List Nat) (s : State) :
    (s.turnedBack reason ns).quotes.records.map Quote.number = s.quotes.records.map Quote.number := by
  induction ns generalizing s with
  | nil => rfl
  | cons n ns ih =>
    rw [turnedBack_cons, ih]
    simp only [State.turnedBack, List.foldl_cons, List.foldl_nil]
    split
    · rfl
    · split
      · rfl
      · simp only [State.replied, State.said, State.onLink, List.map_map]
        refine List.map_congr_left fun q _ => ?_
        simp only [Function.comp_apply]
        split <;> rfl

/-- Logging touches the conflict log, its overflow count and the counter link alone. -/
theorem logged_frame (r : ConflictRecord) (s : State) :
    s.logged r =
      { s with
        alloc := { s.alloc with log := (s.logged r).alloc.log, overflow := (s.logged r).alloc.overflow }
        link := (s.logged r).link } := by
  unfold State.logged
  split
  · split <;> rfl
  · rfl

/-- The supply state that a re-evaluation gives, as the table of R111 and as `Slot.supplyOf`. -/
theorem supplyOf_table (x : Slot) :
    x.supplyOf =
      if x.enabled = false then .off
      else if x.current.isSome then (if x.marks.count false = 0 then .last else .stocked)
      else if x.claim = .none ∧ x.marks.count false = 0 then .exhausted else .waiting := by
  obtain ⟨_, e, _, _, marks, current, _, claim⟩ := x
  cases e <;> cases current <;> simp [Slot.supplyOf, Slot.free] <;> congr

/-- A re-evaluation of a supply state touches the slots, the quote table and the counter link alone. -/
theorem resupplied_frame (k : Nat) (s : State) :
    s.resupplied k =
      { s with
        alloc := { s.alloc with slots := (s.resupplied k).alloc.slots }
        quotes := (s.resupplied k).quotes, link := (s.resupplied k).link } := by
  unfold State.resupplied
  split
  · rfl
  · rename_i x _
    generalize (if x.enabled = false then Supply.off
      else if x.current.isSome then (if x.marks.count false = 0 then Supply.last else Supply.stocked)
      else if x.claim = .none ∧ x.marks.count false = 0 then Supply.exhausted else Supply.waiting) = v
    dsimp only
    split
    · rw [turnedBack_frame]
      rfl
    · split
      · rfl
      · split <;> rfl

/-- A test of the need touches the slots, the quote table and the counter link alone. -/
theorem sought_frame (k : Nat) (s : State) :
    s.sought k =
      { s with
        alloc := { s.alloc with slots := (s.sought k).alloc.slots }
        quotes := (s.sought k).quotes, link := (s.sought k).link } := by
  unfold State.sought
  split
  · rfl
  · split
    · split
      · exact resupplied_frame k s
      · rw [resupplied_frame]
        rfl
    · rfl

/-- A test of the need in a JOINED station or another touches what `State.sought` touches. -/
theorem needTested_frame (k : Nat) (s : State) :
    s.needTested k =
      { s with
        alloc := { s.alloc with slots := (s.needTested k).alloc.slots }
        quotes := (s.needTested k).quotes, link := (s.needTested k).link } := by
  unfold State.needTested
  split
  · exact sought_frame k s
  · rfl

/-- The naming of a block touches the slots, the conflict log and the counter link alone. -/
theorem peerNamed_frame (k : Nat) (kind : FrameKind) (station : Nat) (serial : Option Nat) (s : State) (b : Nat) :
    s.peerNamed k kind station serial b =
      { s with
        alloc :=
        { s.alloc with
          slots := (s.peerNamed k kind station serial b).alloc.slots
          log := (s.peerNamed k kind station serial b).alloc.log
          overflow := (s.peerNamed k kind station serial b).alloc.overflow }
        link := (s.peerNamed k kind station serial b).link } := by
  unfold State.peerNamed
  split
  · rfl
  · split
    · split <;> rfl
    · split
      · rw [logged_frame]
      · rfl

/-- A lost claim touches the slots, the transmit queue, the quote table and the counter link alone. -/
theorem claimLost_frame (k b : Nat) (s : State) :
    s.claimLost k b =
      { s with
        alloc := { s.alloc with slots := (s.claimLost k b).alloc.slots }
        hall := { s.hall with queue := (s.claimLost k b).hall.queue }
        quotes := (s.claimLost k b).quotes, link := (s.claimLost k b).link } := by
  unfold State.claimLost
  split
  · rfl
  · dsimp only
    rw [needTested_frame, resupplied_frame]
    split <;> rfl

/-- A withdrawal touches the slots, the quote table and the counter link alone. -/
theorem blockWithdrawn_frame (k b : Nat) (s : State) :
    s.blockWithdrawn k b =
      { s with
        alloc := { s.alloc with slots := (s.blockWithdrawn k b).alloc.slots }
        quotes := (s.blockWithdrawn k b).quotes, link := (s.blockWithdrawn k b).link } := by
  unfold State.blockWithdrawn
  split
  · rfl
  · dsimp only
    rw [needTested_frame, resupplied_frame]
    rfl

/-- A heard POSTED touches the bag table alone. -/
theorem bagFollowed_frame (route bag weight : Nat) (s : State) :
    s.bagFollowed route bag weight = { s with bags := (s.bagFollowed route bag weight).bags } := by
  unfold State.bagFollowed
  dsimp only
  split_ifs <;> rfl

/-- A frame that does not wait in the queue is not withdrawn from it. -/
theorem withdrew_absent (body : FrameBody) (s : State) (h : ∀ q ∈ s.hall.queue, q.frame.body ≠ body) :
    s.withdrew body = s := by
  have e : (s.hall.queue.eraseP fun q => decide (q.frame.body = body ∧ s.hall.attempt ≠ some q.frame)) = s.hall.queue :=
    List.eraseP_of_forall_not fun q hq => by simp [h q hq]
  simp only [State.withdrew, State.onHall, e]

/-- Where an event calls for neither claimant, the room is left. -/
@[simp] theorem roomTaken_neither (order : RoomOrder) (s : State) : s.roomTaken order false false = s := by
  cases order <;> rfl

/-! ### Banks, slots and rows by name -/

/-- The bank just replaced. -/
@[simp] theorem bank_setBank_self (id : BankId) (b : Bank) (s : State) : (s.setBank id b).bank id = b := by cases id <;> rfl

/-- The other bank stands. -/
@[simp] theorem bank_setBank_other (id : BankId) (b : Bank) (s : State) :
    (s.setBank id b).bank id.other = s.bank id.other := by cases id <;> rfl

/-- The other bank, replaced. -/
@[simp] theorem bank_setBank_of_other (id : BankId) (b : Bank) (s : State) :
    (s.setBank id.other b).bank id = s.bank id := by cases id <;> rfl

/-- The other of the other. -/
@[simp] theorem other_other (id : BankId) : id.other.other = id := by cases id <;> rfl

/-- A slot after one slot changed. -/
theorem slots_modifySlot (k j : Nat) (f : Slot → Slot) (s : State) :
    (s.modifySlot k f).alloc.slots[j]? = if k = j then (s.alloc.slots[j]?).map f else s.alloc.slots[j]? := by
  simp only [State.modifySlot, List.getElem?_modify]
  split <;> cases s.alloc.slots[j]? <;> rfl

/-- A row after one row changed. -/
theorem rows_modifyRow (k j : Nat) (f : Row → Row) (s : State) :
    (s.modifyRow k f).bags.rows[j]? = if k = j then (s.bags.rows[j]?).map f else s.bags.rows[j]? := by
  simp only [State.modifyRow, List.getElem?_modify]
  split <;> cases s.bags.rows[j]? <;> rfl

/-- A peer after one peer changed. -/
theorem peers_modifyPeer (k j : Nat) (f : Peer → Peer) (s : State) :
    (s.modifyPeer k f).hall.peers[j]? = if k = j then (s.hall.peers[j]?).map f else s.hall.peers[j]? := by
  simp only [State.modifyPeer, List.getElem?_modify]
  split <;> cases s.hall.peers[j]? <;> rfl

/-! ### The transmit queue -/

/-- One frame more. -/
@[simp] theorem length_insertFrame (queue : List QueuedFrame) (f : QueuedFrame) :
    (insertFrame queue f).length = queue.length + 1 := by
  have h := congrArg List.length
    (List.takeWhile_append_dropWhile (p := fun g : QueuedFrame => decide (g.frame.frameClass.rank ≤ f.frame.frameClass.rank))
      (l := queue))
  simp only [List.length_append] at h
  simp only [insertFrame, List.length_append, List.length_cons]
  omega

/-- The frame has entered, and every other frame stays. -/
theorem mem_insertFrame (queue : List QueuedFrame) (f g : QueuedFrame) :
    g ∈ insertFrame queue f ↔ g = f ∨ g ∈ queue := by
  have h := List.takeWhile_append_dropWhile
    (p := fun g : QueuedFrame => decide (g.frame.frameClass.rank ≤ f.frame.frameClass.rank)) (l := queue)
  conv_rhs => rw [← h]
  simp only [insertFrame, List.mem_append, List.mem_cons]
  tauto

/-- The frames that waited keep their order. -/
theorem sublist_insertFrame (queue : List QueuedFrame) (f : QueuedFrame) : queue.Sublist (insertFrame queue f) := by
  have h := List.takeWhile_append_dropWhile
    (p := fun g : QueuedFrame => decide (g.frame.frameClass.rank ≤ f.frame.frameClass.rank)) (l := queue)
  conv_lhs => rw [← h]
  exact List.Sublist.append (List.Sublist.refl _) (List.sublist_cons_self _ _)

/-- The order of the classes is kept (R156). -/
theorem pairwise_insertFrame (queue : List QueuedFrame) (f : QueuedFrame)
    (h : (queue.map fun q => q.frame.frameClass.rank).Pairwise (· ≤ ·)) :
    ((insertFrame queue f).map fun q => q.frame.frameClass.rank).Pairwise (· ≤ ·) := by
  induction queue with
  | nil => simp [insertFrame]
  | cons q qs ih =>
    rw [List.map_cons, List.pairwise_cons] at h
    by_cases hq : q.frame.frameClass.rank ≤ f.frame.frameClass.rank
    · have he : insertFrame (q :: qs) f = q :: insertFrame qs f := by
        simp [insertFrame, hq]
      rw [he, List.map_cons, List.pairwise_cons]
      refine ⟨?_, ih h.2⟩
      intro r hr
      obtain ⟨g, hg, rfl⟩ := List.mem_map.mp hr
      rcases (mem_insertFrame qs f g).mp hg with rfl | hg
      · exact hq
      · exact h.1 _ (List.mem_map.mpr ⟨g, hg, rfl⟩)
    · have he : insertFrame (q :: qs) f = f :: q :: qs := by
        simp [insertFrame, hq]
      rw [he, List.map_cons, List.pairwise_cons, List.map_cons, List.pairwise_cons]
      refine ⟨?_, h.1, h.2⟩
      intro r hr
      rcases List.mem_cons.mp hr with rfl | hr
      · omega
      · exact le_trans (by omega) (h.1 r hr)

/-! ### Marks and holdings -/

/-- A mark that is set changes neither the window nor what is held or claimed. -/
theorem setMark_frame (b : Nat) (k : Slot) :
    (k.setMark b).marks.length = k.marks.length ∧ (k.setMark b).first = k.first ∧ (k.setMark b).count = k.count
      ∧ (k.setMark b).current = k.current ∧ (k.setMark b).reserve = k.reserve ∧ (k.setMark b).claim = k.claim
      ∧ (k.setMark b).letter = k.letter ∧ (k.setMark b).enabled = k.enabled := by
  simp [Slot.setMark]

/-- The mark of a block of the window is set (R108). -/
theorem marked_setMark_self (b : Nat) (k : Slot) (h : b - k.first < k.marks.length) : (k.setMark b).marked b = true := by
  simp [Slot.setMark, Slot.marked, List.getD, h]

/-- No mark is cleared (R108). -/
theorem marks_setMark (b n : Nat) (k : Slot) (h : k.marks[n]? = some true) : (k.setMark b).marks[n]? = some true := by
  have hn : n < k.marks.length := by
    rcases Nat.lt_or_ge n k.marks.length with h' | h'
    · exact h'
    · rw [List.getElem?_eq_none h'] at h
      exact absurd h (by simp)
  simp only [Slot.setMark, List.getElem?_set]
  split
  · split
    · rfl
    · omega
  · exact h

/-- A block that the search finds lies in the window with its mark free (R113). -/
theorem search_spec (k : Slot) (b : Nat) (h : k.search = some b) :
    ∃ n, b = k.first + n ∧ n < k.count ∧ k.marks.getD n true = false := by
  simp only [Slot.search, Option.map_eq_some_iff] at h
  obtain ⟨n, hn, rfl⟩ := h
  refine ⟨n, rfl, ?_, ?_⟩
  · rcases List.mem_append.mp (List.mem_of_find?_eq_some hn) with hm | hm
    · exact List.mem_range.mp (List.mem_of_mem_drop hm)
    · exact List.mem_range.mp (List.mem_of_mem_take hm)
  · simpa using List.find?_some hn

/-! ### The passing of time -/

/-- One millisecond of a running timer. -/
theorem runTo_one (limit t : Nat) : runTo limit t 1 = if t < limit then t + 1 else t := by
  unfold runTo
  split <;> omega

@[simp] theorem elapse_setup (d : Nat) (s : State) : (s.elapse d).setup = s.setup := rfl
@[simp] theorem elapse_weighing (d : Nat) (s : State) : (s.elapse d).weighing = s.weighing := rfl
@[simp] theorem elapse_tariff (d : Nat) (s : State) : (s.elapse d).tariff = s.tariff := rfl
@[simp] theorem elapse_bags (d : Nat) (s : State) : (s.elapse d).bags = s.bags := rfl
@[simp] theorem elapse_scratch (d : Nat) (s : State) : (s.elapse d).scratch = s.scratch := rfl
@[simp] theorem elapse_draws (d : Nat) (s : State) : (s.elapse d).draws = s.draws := rfl
@[simp] theorem elapse_pending (d : Nat) (s : State) : (s.elapse d).pending = s.pending := rfl

/-- Of the hall line, time moves the census, silence and liveness timers alone. -/
theorem elapse_hall (d : Nat) (s : State) :
    (s.elapse d).hall.queue = s.hall.queue ∧ (s.elapse d).hall.state = s.hall.state
      ∧ (s.elapse d).hall.attempt = s.hall.attempt ∧ (s.elapse d).hall.station = s.hall.station
      ∧ (s.elapse d).hall.owedJoin = s.hall.owedJoin := ⟨rfl, rfl, rfl, rfl, rfl⟩

/-- Of a slot, time moves a holdoff alone. -/
theorem elapse_slots (d k : Nat) (s : State) :
    (s.elapse d).alloc.slots[k]? = (s.alloc.slots[k]?).map fun x => { x with claim := x.claim.elapse d } := by
  simp [State.elapse]

/-- Time ends no claim: its block stays. -/
@[simp] theorem block_elapse (d : Nat) (c : Claim) : (c.elapse d).block? = c.block? := by cases c <;> rfl

/-- Quotes keep their numbers and states as they age. -/
theorem elapse_quotes (d : Nat) (s : State) :
    (s.elapse d).quotes.records.map Quote.number = s.quotes.records.map Quote.number
      ∧ (s.elapse d).quotes.pendingOrder = s.quotes.pendingOrder
      ∧ (s.elapse d).quotes.nextNumber = s.quotes.nextNumber := by
  refine ⟨?_, rfl, rfl⟩
  simp only [State.elapse, List.map_map]
  refine List.map_congr_left fun q _ => ?_
  simp only [Function.comp, Quote.elapse]
  split <;> rfl

end Sys2Proof.Machine
end

