-- ==== Sys2Proof/Laws/PerInstr.lean ====
section
/-! SUPPORT. The family BodyLength, one lemma per command: the body of a well-formed request command, laid out as a sender lays
it out, has the number of bytes that the table of R195 gives its kind. -/

namespace Sys2Proof.Laws.BodyLength

open Sys2Proof Sys2Proof.Machine

/-- The body length the table of R195 gives a request; a message of no request kind has none. -/
def tableLength : Request → Option Nat
  | .start _ => some 235
  | .status _ => some 1
  | .restart => some 0
  | .zero => some 0
  | .mapLoad _ _ _ => some 11
  | .logTake => some 0
  | .bankOpen _ _ => some 2
  | .cell _ _ _ => some 3
  | .band _ _ _ _ _ => some 20
  | .zone _ _ _ _ _ => some 11
  | .surch _ _ _ _ _ _ => some 19
  | .bankClose _ _ _ => some 6
  | .swap _ _ => some 2
  | .rate _ => some 18
  | .commit _ => some 2
  | .cancel _ => some 2
  | .bagClose _ => some 1
  | .unknown _ => none

/-- The statement of the family. -/
def Statement (i : Instr) : Prop :=
  ∀ (tag n : Nat) (r : Request), i.request? = some (tag, r) → tableLength r = some n → i.wf = true →
    (requestBody r).length = n

/-- A field of `w` bytes is `w` bytes long. -/
@[simp] theorem length_be (w n : Nat) : (be w n).length = w := by
  induction w with
  | zero => rfl
  | succ w ih => simp [be, ih]

/-- A signed field of `w` bytes is `w` bytes long. -/
@[simp] theorem length_beInt (w : Nat) (i : Int) : (beInt w i).length = w := length_be _ _

/-- A list of entries of `w` bytes each. -/
theorem length_flatMap_const {α : Type} (f : α → List Byte) (w : Nat) (h : ∀ x, (f x).length = w) (l : List α) :
    (l.flatMap f).length = w * l.length := by
  induction l with
  | nil => rfl
  | cons x xs ih => simp [List.flatMap_cons, h, ih, Nat.mul_add, Nat.add_comm]

/-- A beam mask is 16 bytes long. -/
@[simp] theorem length_maskBytes (mask : BeamSet) : (maskBytes mask).length = 16 := by simp [maskBytes]

/-- A span of flags is 8 bytes long. -/
@[simp] theorem length_spanBytes (span : List Bool) : (spanBytes span).length = 8 := by simp [spanBytes]

/-- A product record is 21 bytes long. -/
@[simp] theorem length_productBytes (p : ProductRecord) : (productBytes p).length = 21 := by simp [productBytes]

/-- A command that is no request states nothing. -/
theorem of_noRequest (i : Instr) (h : i.request? = none) : Statement i := by
  intro tag n r hr
  rw [h] at hr
  exact absurd hr (by simp)

theorem powerOnReset (straps : Nat) : Statement (.powerOnReset straps) := of_noRequest _ rfl

theorem start (tag : Nat) (body : StartBody) : Statement (.start tag body) := by
  intro tag' n r hr hn hw
  simp only [Instr.request?, Option.some.injEq, Prod.mk.injEq] at hr
  obtain ⟨_, rfl⟩ := hr
  simp only [tableLength, Option.some.injEq] at hn
  subst hn
  simp only [Instr.wf, Instr.request?, Request.wf, StartBody.wf, Bool.and_eq_true, decide_eq_true_eq] at hw
  have hz := length_flatMap_const (beInt 2) 2 (length_beInt 2) body.zeros
  have hf := length_flatMap_const (be 2) 2 (length_be 2) body.factors
  have hp := length_flatMap_const productBytes 21 length_productBytes body.products
  simp only [requestBody, List.length_append, length_be, length_maskBytes, hz, hf, hp]
  omega

theorem status (tag sect : Nat) : Statement (.status tag sect) := by
  intro tag' n r hr hn _
  simp only [Instr.request?, Option.some.injEq, Prod.mk.injEq] at hr
  obtain ⟨_, rfl⟩ := hr
  simp only [tableLength, Option.some.injEq] at hn
  subst hn
  simp [requestBody]

theorem restart (tag : Nat) : Statement (.restart tag) := by
  intro tag' n r hr hn _
  simp only [Instr.request?, Option.some.injEq, Prod.mk.injEq] at hr
  obtain ⟨_, rfl⟩ := hr
  simp only [tableLength, Option.some.injEq] at hn
  subst hn
  simp [requestBody]

theorem zero (tag : Nat) : Statement (.zero tag) := by
  intro tag' n r hr hn _
  simp only [Instr.request?, Option.some.injEq, Prod.mk.injEq] at hr
  obtain ⟨_, rfl⟩ := hr
  simp only [tableLength, Option.some.injEq] at hn
  subst hn
  simp [requestBody]

theorem mapLoad (tag letter startBlock : Nat) (span : List Bool) : Statement (.mapLoad tag letter startBlock span) := by
  intro tag' n r hr hn _
  simp only [Instr.request?, Option.some.injEq, Prod.mk.injEq] at hr
  obtain ⟨_, rfl⟩ := hr
  simp only [tableLength, Option.some.injEq] at hn
  subst hn
  simp [requestBody]

theorem logTake (tag : Nat) : Statement (.logTake tag) := by
  intro tag' n r hr hn _
  simp only [Instr.request?, Option.some.injEq, Prod.mk.injEq] at hr
  obtain ⟨_, rfl⟩ := hr
  simp only [tableLength, Option.some.injEq] at hn
  subst hn
  simp [requestBody]

theorem bankOpen (tag bank openDefault : Nat) : Statement (.bankOpen tag bank openDefault) := by
  intro tag' n r hr hn _
  simp only [Instr.request?, Option.some.injEq, Prod.mk.injEq] at hr
  obtain ⟨_, rfl⟩ := hr
  simp only [tableLength, Option.some.injEq] at hn
  subst hn
  simp [requestBody]

theorem cell (tag letter zone bandCount : Nat) : Statement (.cell tag letter zone bandCount) := by
  intro tag' n r hr hn _
  simp only [Instr.request?, Option.some.injEq, Prod.mk.injEq] at hr
  obtain ⟨_, rfl⟩ := hr
  simp only [tableLength, Option.some.injEq] at hn
  subst hn
  simp [requestBody]

theorem band (tag u p0 i sw p1 : Nat) : Statement (.band tag u p0 i sw p1) := by
  intro tag' n r hr hn _
  simp only [Instr.request?, Option.some.injEq, Prod.mk.injEq] at hr
  obtain ⟨_, rfl⟩ := hr
  simp only [tableLength, Option.some.injEq] at hn
  subst hn
  simp [requestBody]

theorem zone (tag low high zone route flags : Nat) : Statement (.zone tag low high zone route flags) := by
  intro tag' n r hr hn _
  simp only [Instr.request?, Option.some.injEq, Prod.mk.injEq] at hr
  obtain ⟨_, rfl⟩ := hr
  simp only [tableLength, Option.some.injEq] at hn
  subst hn
  simp [requestBody]

theorem surch (tag letter oversize irregular remoteRate insuranceUnit insurancePrice : Nat) : Statement (.surch tag letter oversize irregular remoteRate insuranceUnit insurancePrice) := by
  intro tag' n r hr hn _
  simp only [Instr.request?, Option.some.injEq, Prod.mk.injEq] at hr
  obtain ⟨_, rfl⟩ := hr
  simp only [tableLength, Option.some.injEq] at hn
  subst hn
  simp [requestBody]

theorem bankClose (tag version count sum : Nat) : Statement (.bankClose tag version count sum) := by
  intro tag' n r hr hn _
  simp only [Instr.request?, Option.some.injEq, Prod.mk.injEq] at hr
  obtain ⟨_, rfl⟩ := hr
  simp only [tableLength, Option.some.injEq] at hn
  subst hn
  simp [requestBody]

theorem swap (tag bank scope : Nat) : Statement (.swap tag bank scope) := by
  intro tag' n r hr hn _
  simp only [Instr.request?, Option.some.injEq, Prod.mk.injEq] at hr
  obtain ⟨_, rfl⟩ := hr
  simp only [tableLength, Option.some.injEq] at hn
  subst hn
  simp [requestBody]

theorem rate (tag : Nat) (body : RateBody) : Statement (.rate tag body) := by
  intro tag' n r hr hn _
  simp only [Instr.request?, Option.some.injEq, Prod.mk.injEq] at hr
  obtain ⟨_, rfl⟩ := hr
  simp only [tableLength, Option.some.injEq] at hn
  subst hn
  simp [requestBody]

theorem commit (tag number : Nat) : Statement (.commit tag number) := by
  intro tag' n r hr hn _
  simp only [Instr.request?, Option.some.injEq, Prod.mk.injEq] at hr
  obtain ⟨_, rfl⟩ := hr
  simp only [tableLength, Option.some.injEq] at hn
  subst hn
  simp [requestBody]

theorem cancel (tag number : Nat) : Statement (.cancel tag number) := by
  intro tag' n r hr hn _
  simp only [Instr.request?, Option.some.injEq, Prod.mk.injEq] at hr
  obtain ⟨_, rfl⟩ := hr
  simp only [tableLength, Option.some.injEq] at hn
  subst hn
  simp [requestBody]

theorem bagClose (tag route : Nat) : Statement (.bagClose tag route) := by
  intro tag' n r hr hn _
  simp only [Instr.request?, Option.some.injEq, Prod.mk.injEq] at hr
  obtain ⟨_, rfl⟩ := hr
  simp only [tableLength, Option.some.injEq] at hn
  subst hn
  simp [requestBody]

theorem linkMessageDiscard : Statement .linkMessageDiscard := of_noRequest _ rfl

theorem gapTimerExpiry : Statement .gapTimerExpiry := of_noRequest _ rfl

theorem messageTransmissionBegin : Statement .messageTransmissionBegin := of_noRequest _ rfl

theorem messageTransmissionComplete : Statement .messageTransmissionComplete := of_noRequest _ rfl

theorem sampleSequenceStart : Statement .sampleSequenceStart := of_noRequest _ rfl

theorem sequenceEnd (counts : List Int) (reference : Int) : Statement (.sequenceEnd counts reference) := of_noRequest _ rfl

theorem waitingRateRelease : Statement .waitingRateRelease := of_noRequest _ rfl

theorem waitingRateScaleRefusal : Statement .waitingRateScaleRefusal := of_noRequest _ rfl

theorem settleWaitTimerExpiry : Statement .settleWaitTimerExpiry := of_noRequest _ rfl

theorem gateLevelAccepted (level : GateLevel) : Statement (.gateLevelAccepted level) := of_noRequest _ rfl

theorem encoderCount (direction : Direction) (widthBlocked heightBlocked : BeamSet) : Statement (.encoderCount direction widthBlocked heightBlocked) := of_noRequest _ rfl

theorem encoderError : Statement .encoderError := of_noRequest _ rfl

theorem stallTimerExpiry : Statement .stallTimerExpiry := of_noRequest _ rfl

theorem quoteExpiry (number : Nat) : Statement (.quoteExpiry number) := of_noRequest _ rfl

theorem commitCompletion (number : Nat) : Statement (.commitCompletion number) := of_noRequest _ rfl

theorem holdoffExpiry (slot : Nat) (order : RoomOrder) : Statement (.holdoffExpiry slot order) := of_noRequest _ rfl

theorem heardClaim (station group letter block : Nat) (order : RoomOrder) : Statement (.heardClaim station group letter block order) := of_noRequest _ rfl

theorem heardHeld (station group letter block : Nat) (order : RoomOrder) : Statement (.heardHeld station group letter block order) := of_noRequest _ rfl

theorem heardSpent (station group letter block : Nat) (order : RoomOrder) : Statement (.heardSpent station group letter block order) := of_noRequest _ rfl

theorem heardHolds (station group letter : Nat) (blocks : List Nat) (order : RoomOrder) : Statement (.heardHolds station group letter blocks order) := of_noRequest _ rfl

theorem heardPosted (station group letter serial route bag weight : Nat) (order : RoomOrder) : Statement (.heardPosted station group letter serial route bag weight order) := of_noRequest _ rfl

theorem heardJoin (station group office : Nat) : Statement (.heardJoin station group office) := of_noRequest _ rfl

theorem heardBagnext (station group route bag : Nat) : Statement (.heardBagnext station group route bag) := of_noRequest _ rfl

theorem heardCutover (station group version : Nat) : Statement (.heardCutover station group version) := of_noRequest _ rfl

theorem heardAlive (station group : Nat) : Statement (.heardAlive station group) := of_noRequest _ rfl

theorem frameDiscard (levels : List Bool) : Statement (.frameDiscard levels) := of_noRequest _ rfl

theorem owedItemEntry : Statement .owedItemEntry := of_noRequest _ rfl

theorem attemptBegin : Statement .attemptBegin := of_noRequest _ rfl

theorem arbitrationLost (field : Nat) : Statement (.arbitrationLost field) := of_noRequest _ rfl

theorem failedAttempt : Statement .failedAttempt := of_noRequest _ rfl

theorem transmitCompletion (acknowledged : Bool) (order : RoomOrder) : Statement (.transmitCompletion acknowledged order) := of_noRequest _ rfl

theorem censusTimerExpiry (order : RoomOrder) : Statement (.censusTimerExpiry order) := of_noRequest _ rfl

theorem silenceTimerExpiry : Statement .silenceTimerExpiry := of_noRequest _ rfl

theorem livenessSilent (station : Nat) : Statement (.livenessSilent station) := of_noRequest _ rfl

theorem gateSample (level : GateLevel) : Statement (.gateSample level) := of_noRequest _ rfl

theorem byteReceived (byte : Byte) (framingError : Bool) : Statement (.byteReceived byte framingError) := of_noRequest _ rfl

theorem unknownRequestKind (tag kind : Nat) : Statement (.unknownRequestKind tag kind) := by
  intro tag' n r hr hn _
  simp only [Instr.request?, Option.some.injEq, Prod.mk.injEq] at hr
  obtain ⟨_, rfl⟩ := hr
  exact absurd hn (by simp [tableLength])

end Sys2Proof.Laws.BodyLength
end

