-- ==== Sys2Proof/Tests/Slice0.lean ====
section
/-! SUPPORT. The model's own tests: the well-formedness smoke, the manual's worked figures, and for every statement with
hypotheses a concrete state and operands that meet them, clause by clause. -/

namespace Sys2Proof.Test

open Sys2Proof Sys2Proof.Machine

/-! ### The part that the tests run -/

/-- A product record that is not enabled. -/
def spare (letter : Nat) : ProductRecord :=
  { enabled := 0, letter := letter, first := 0, count := 1, volumetric := 0, maxWeight := 1, longSide := 1, girth := 1,
    absLength := 1, absGirth := 1, maxValue := 0 }

/-- Product K of the worked cases (4.10), with a window of four blocks. -/
def productK : ProductRecord :=
  { enabled := 1, letter := 11, first := 268, count := 4, volumetric := 1, maxWeight := 20000, longSide := 600,
    girth := 1800, absLength := 1500, absGirth := 3000, maxValue := 500000 }

/-- A START body that passes every check, with fields at the ends of their ranges. -/
def body : StartBody :=
  { office := 417, group := 3, divisor := 5000, ru := 5, lowWater := 65535, strict := 1, weightLimit := 30000,
    itemLimit := 250, quoteLife := 60, settleCount := 4, settleBand := 1, cellEnable := 15,
    zeros := [2100, 2050, 2080, 2095], factors := [4800, 4832, 4790, 4816], nominal := 32000, widthMask := 0,
    heightMask := 0,
    products := [productK, { spare 2 with enabled := 1, first := 9999 }, spare 3, spare 4, spare 5, spare 6, spare 7,
      spare 8] }

/-- Its configuration. -/
def cfg : Setup := startSetup body

/-- The part after START, in the given station state, with nothing sent. -/
def part (state : StationState) : State :=
  { State.reset with
    setup := some cfg
    alloc := { Allocator.reset with slots := cfg.products.map Slot.configured }
    hall := { Hall.reset 0 with state := state } }

/-- The part in JOINED with product K's slot as given. -/
def withK (k : Slot) : State :=
  { part .joined with alloc := { (part .joined).alloc with slots := k :: ((part .joined).alloc.slots.drop 1) } }

/-- Product K's slot after START. -/
def slotK : Slot := Slot.configured (configuredProduct productK)

/-- Product K holding block 268, with serial 268391 next. -/
def heldK : Slot :=
  { slotK with
    marks := [true, false, false, false], current := some { block := 268, next := 391 }, cursor := 269, supply := .stocked }

/-- Product K claiming block 269. -/
def claiming (c : Claim) : Slot := { slotK with marks := [false, true, false, false], claim := c }

/-- Bank B of the worked load of 3.4. -/
def bankB : Bank :=
  { state := .active, version := 312, refs := 0, openDefault := false, cells := [{ slot := 0, zone := 3, first := 0, count := 2 }],
    bands := [{ u := 2000, p0 := 690, i := 2000, sw := 0, p1 := 0 }, { u := 10000, p0 := 1150, i := 1000, sw := 500, p1 := 85 }],
    zones := [{ low := 350000, high := 369999, zone := 3, route := 12, remote := true, noInsurance := false }],
    surcharges :=
      [{ slot := 0, oversize := 450, irregular := 200, remoteRate := 75, insuranceUnit := 10000, insurancePrice := 120 }] }

/-- A state with the given bank B. -/
def withBankB (b : Bank) (s : State) : State := { s with tariff := { s.tariff with bankB := b } }

/-- The parcel of 4.10.1 on the scale. -/
def settled (s : State) : State :=
  { s with
    weighing := { s.weighing with
      scale := .settled, zinit := some 0
      kept := [38460, 38460, 38460, 38460]
      parcel := some
        { settleNumber := 518, weight := 3846,
          dims := some { length := 420, width := 310, height := 250, edge := false, irregular := false, long := false } } } }

/-- The RATE of 4.10.1. -/
def rateK : RateBody :=
  { letter := 11, destination := 358114, declaredValue := 25000, flags := 0, manualWeight := 0, len1 := 0, len2 := 0, len3 := 0 }

/-- The result of 4.10.1. -/
def resultK : RateResult :=
  { letter := 11, destination := 358114, zone := 3, route := 12, bank := .b, version := 312, settleNumber := some 518,
    wa := 3846, wc := 6510, wv := some 6510,
    dims := some { a := 420, b := 310, c := 250, source := .gauge, edge := false, irregular := false, long := false },
    declared := some 25000,
    price := { band := 1830, oversize := 0, irregular := 0, remote := 137, insurance := 360, rounding := -2, total := 2325 },
    flags :=
      { manualWeight := false, manualDims := false, byVolume := true, large := false, irregular := false, remote := true,
        insured := true } }

/-- The COMMIT that a COMMITTING quote of these tests answers. -/
def commitRef : RequestRef := { id := 0, tag := 60 }

/-- A quote of that result. -/
def quoteK (state : QuoteState) : Quote := { number := 58, state := state, ageMs := 40000, result := resultK }

/-- A state that holds that quote. -/
def withQuote (state : QuoteState) (s : State) : State :=
  { withBankB { bankB with refs := 1 } s with
    quotes :=
    { records := [quoteK state], nextNumber := 59, waiting := none
      pendingOrder := match state with
        | .opened => []
        | .committing _ => [58] }
    link := { s.link with nextId := 1 } }

/-- A state with the given hall line queue. -/
def withQueue (q : List FrameBody) (s : State) : State :=
  { s with hall := { s.hall with queue := q.map fun b => { frame := s.buildFrame b, check := none } } }

/-- A parser state with what it has received. -/
def parsing (p : ParserState) (received : List Byte) (declared : Nat) : State :=
  { State.reset with link := { Link.reset with parser := p, received := received, declared := declared } }

/-- `n` outstanding requests of one kind. -/
def outstanding (n kind : Nat) (s : State) : State :=
  { s with link := { s.link with outstanding := List.replicate n { id := 0, tag := 1, kind := kind }, nextId := 1 } }

/-- The next state of a command, when it gives one. -/
def after (i : Instr) (s : State) : State :=
  match exec i s with
  | .next t => t
  | .fault f => nomatch f
  | .refused _ => s

/-- The bodies of the replies and notices that a command added, when the queue was empty. -/
def said (i : Instr) (s : State) : List OutMsg := (after i s).link.output.map (·.msg)

/-! ### Well-formedness -/

/-- One byte too wide in each field of a product record is refused. -/
theorem test_wf_product_refused :
    productK.wf = true
      ∧ ([{ productK with enabled := 256 }, { productK with letter := 256 }, { productK with first := 65536 },
          { productK with count := 65536 }, { productK with volumetric := 256 }, { productK with maxWeight := 65536 },
          { productK with longSide := 65536 }, { productK with girth := 65536 }, { productK with absLength := 65536 },
          { productK with absGirth := 65536 }, { productK with maxValue := 4294967296 }] : List ProductRecord).all
        (fun p => !p.wf) = true := by decide

/-- One field of START too wide, or a list of the wrong length, is refused. -/
theorem test_wf_start_refused :
    body.wf = true
      ∧ ([{ body with office := 65536 }, { body with group := 256 }, { body with divisor := 65536 }, { body with ru := 256 },
          { body with lowWater := 65536 }, { body with strict := 256 }, { body with weightLimit := 65536 },
          { body with itemLimit := 256 }, { body with quoteLife := 65536 }, { body with settleCount := 256 },
          { body with settleBand := 256 }, { body with cellEnable := 256 }, { body with zeros := [0] },
          { body with zeros := [0, 0, 0, 32768] }, { body with zeros := [0, 0, 0, -32769] }, { body with factors := [] },
          { body with factors := [0, 0, 0, 65536] }, { body with nominal := 65536 }, { body with products := [] },
          { body with products := List.replicate 8 { productK with letter := 256 } }] : List StartBody).all
        (fun b => !b.wf) = true := by decide

/-- One field of RATE too wide is refused. -/
theorem test_wf_rate_refused :
    rateK.wf = true
      ∧ ([{ rateK with letter := 256 }, { rateK with destination := 4294967296 }, { rateK with declaredValue := 4294967296 },
          { rateK with flags := 256 }, { rateK with manualWeight := 65536 }, { rateK with len1 := 65536 },
          { rateK with len2 := 65536 }, { rateK with len3 := 65536 }] : List RateBody).all (fun b => !b.wf) = true := by decide

/-- One operand of each other request too wide, and a tag too wide, are refused. -/
theorem test_wf_request_refused :
    ([.status 0 256, .mapLoad 0 256 0 (List.replicate 64 true), .mapLoad 0 0 65536 (List.replicate 64 true),
      .mapLoad 0 0 0 [], .bankOpen 0 256 0, .bankOpen 0 0 256, .cell 0 256 0 0, .cell 0 0 256 0, .cell 0 0 0 256,
      .band 0 4294967296 0 0 0 0, .band 0 0 4294967296 0 0 0, .band 0 0 0 4294967296 0 0, .band 0 0 0 0 4294967296 0,
      .band 0 0 0 0 0 4294967296, .zone 0 4294967296 0 0 0 0, .zone 0 0 4294967296 0 0 0, .zone 0 0 0 256 0 0,
      .zone 0 0 0 0 256 0, .zone 0 0 0 0 0 256, .surch 0 256 0 0 0 0 0, .surch 0 0 4294967296 0 0 0 0,
      .surch 0 0 0 4294967296 0 0 0, .surch 0 0 0 0 65536 0 0, .surch 0 0 0 0 0 4294967296 0,
      .surch 0 0 0 0 0 0 4294967296, .bankClose 0 65536 0 0, .bankClose 0 0 65536 0, .bankClose 0 0 0 65536,
      .swap 0 256 0, .swap 0 0 256, .commit 0 65536, .cancel 0 65536, .bagClose 0 256, .unknownRequestKind 0 256,
      .unknownRequestKind 0 17, .restart 256, .zero 256, .logTake 256, .start 256 body, .rate 256 rateK] : List Instr).all
      (fun i => !i.wf) = true := by decide

/-- One operand of each other command outside its range is refused. -/
theorem test_wf_event_refused :
    ([.powerOnReset 32, .sequenceEnd [] 0, .sequenceEnd [0, 0, 0, 32768] 0, .sequenceEnd [0, 0, 0, 0] (-32769),
      .quoteExpiry 0, .quoteExpiry 65536, .commitCompletion 0, .commitCompletion 65536, .holdoffExpiry 8 .owedFirst,
      .heardClaim 32 0 0 0 .owedFirst, .heardClaim 0 16 0 0 .owedFirst, .heardClaim 0 0 256 0 .owedFirst,
      .heardClaim 0 0 0 65536 .owedFirst, .heardHeld 32 0 0 0 .owedFirst, .heardSpent 0 0 256 0 .owedFirst,
      .heardHolds 0 16 0 [] .owedFirst, .heardHolds 0 0 256 [] .owedFirst, .heardHolds 0 0 0 [0, 0, 0] .owedFirst,
      .heardHolds 0 0 0 [65536] .owedFirst, .heardPosted 32 0 0 0 0 0 0 .owedFirst,
      .heardPosted 0 0 256 0 0 0 0 .owedFirst, .heardPosted 0 0 0 16777216 0 0 0 .owedFirst,
      .heardPosted 0 0 0 0 256 0 0 .owedFirst, .heardPosted 0 0 0 0 0 65536 0 .owedFirst,
      .heardPosted 0 0 0 0 0 0 65536 .owedFirst, .heardJoin 32 0 0, .heardJoin 0 0 65536, .heardBagnext 0 16 0 0,
      .heardBagnext 0 0 256 0, .heardBagnext 0 0 0 65536, .heardCutover 32 0 0, .heardCutover 0 0 65536, .heardAlive 0 16,
      .arbitrationLost 256, .livenessSilent 32] : List Instr).all (fun i => !i.wf) = true := by decide

/-! ### Worked figures of the manual -/

/-- The check digits of 10.1.1. -/
theorem test_worked_check_digits :
    itemNumber 417 11 268391 = [48, 52, 49, 55, 75, 48, 50, 54, 56, 51, 57, 49, 49]
      ∧ checkDigit 417 268000 = 0 := by decide

/-- The sample weight and the half-mean of 1.11.1. -/
theorem test_worked_sample :
    sampleWeight cfg [10412, 9987, 10205, 10118] 0 = 38039
      ∧ halfMean [38039, 38041, 38036, 38040, 38038, 38042, 38037, 38039] = 38039 ∧ rounded 38039 = 38040 := by decide

/-- The judgements of the table of 7.3. -/
theorem test_worked_judgements :
    [judge 731 731, judge 732 731, judge 731 732, judge 1 9999, judge 9999 1, judge 5099 100, judge 5100 100]
      = [.equal, .ahead, .behind, .ahead, .behind, .ahead, .behind] := by decide

/-- The worked load of 3.4: the records and the sum after it, and the bank it makes. -/
theorem test_worked_load :
    let s := [Instr.bankOpen 1 2 0, .cell 2 11 3 2, .band 3 2000 690 2000 0 0, .band 4 10000 1150 1000 500 85,
      .zone 5 350000 369999 3 12 1, .surch 6 11 450 200 75 10000 120].foldl (fun s i => after i s) (part .joining)
    s.tariff.cursor.records = 5 ∧ s.tariff.cursor.sum = 27416
      ∧ (after (.bankClose 7 312 5 27416) s).tariff.bankB = { bankB with state := .ready } := by decide

/-- The worked rating of 4.10.1, and rows of 4.10.2. -/
theorem test_worked_rating :
    let s := settled (withBankB bankB (part .joined))
    s.compute rateK = .ok resultK
      ∧ s.compute { rateK with destination := 370000 } = .error .unroutable
      ∧ s.compute { rateK with flags := 1, manualWeight := 3846 } = .error .noDims
      ∧ s.compute { rateK with declaredValue := 600000 } = .error .valueLimit := by decide

/-- The scans at 10 mm and 15 mm of 2.10.1: beams 38 to 62 except 50 (and 52), beam 51 masked. -/
theorem test_worked_scans :
    let beams (l : List Nat) : BeamSet := BitVec.ofNat 128 (l.foldl (fun n b => n + 2 ^ b) 0)
    let all := (List.range 25).map (38 + ·)
    scanExtent (beams [51]) (beams (all.filter (· ≠ 50))) = 125
      ∧ scanIrregular (beams [51]) (beams (all.filter (· ≠ 50))) = false
      ∧ scanIrregular (beams [51]) (beams (all.filter fun n => n ≠ 50 ∧ n ≠ 52)) = true := by decide

/-- The covered bits of station 4's CLAIM of 10.3.5. -/
theorem test_worked_claim_frame :
    let f : Frame := { station := 4, group := 3, body := .claim 11 269 }
    f.coveredBits
      = [false, false, false, false, false, true, false, false, false, true, false, false, false, false, true, true,
          false, false, false, false, true, false, true, true, false, false, false, false, false, false, false, true,
          false, false, false, false, true, true, false, true]
      ∧ receive (f.levels true) = .ok f := by decide +kernel

/-- The LABEL of the note of 10.3.3: the text, route 12, bag 732, the weights, the total 2,325 and the rounding -2. -/
theorem test_worked_label :
    let l : LabelRecord := { text := itemNumber 417 11 268391, quoteNumber := 58, bag := 732, station := 4, result := resultK }
    let bytes := ((OutMsg.reply (some 0) 60 (.label l)).content.drop 2).map BitVec.toNat
    bytes.length = 74 ∧ bytes.take 13 = [48, 52, 49, 55, 75, 48, 50, 54, 56, 51, 57, 49, 49] ∧ bytes[15]? = some 15
      ∧ bytes[22]? = some 12 ∧ (bytes.drop 23).take 2 = [2, 220] ∧ (bytes.drop 31).take 6 = [15, 6, 25, 110, 25, 110]
      ∧ bytes[68]? = some 254 ∧ (bytes.drop 69).take 4 = [0, 0, 9, 21] := by decide +kernel

/-- The worked session of 9.10.1: RATE is turned away before START, START answers station and JOINING, a second START is
refused. -/
theorem test_worked_session :
    said (.rate 2 rateK) State.reset = [.reply (some 0) 2 (.refused .notStarted none)]
      ∧ said (.start 3 body) State.reset = [.reply (some 0) 3 (.done (.start 0 .joining))]
      ∧ said (.start 20 body) (part .joined) = [.reply (some 0) 20 (.refused .already none)] := by decide

/-! ### The hypotheses of the statements are met -/

theorem test_meets_EmptyQueueLetsAMillisecondPass : State.reset.pending = [] ∧ (part .joined).pending = [] := by decide

theorem test_meets_PowerOnResetSetsEveryBlock : 0 < 32 ∧ 31 < 32 := by decide

/-- Every parser state, a length at each end of its range, a last check byte that is bad. -/
theorem test_meets_ByteMovesTheParser :
    State.reset.scratch = .clear ∧ State.reset.link.parser = .hunt
      ∧ (let s := parsing .length [] 0
         s.scratch = .clear ∧ s.link.parser ≠ .hunt ∧ s.link.parser = .length ∧ s.link.received = [])
      ∧ (let s := parsing .length [4] 0
         s.scratch = .clear ∧ s.link.parser = .length ∧ s.link.received = [4])
      ∧ (let s := parsing .content [0, 2] 2
         s.scratch = .clear ∧ s.link.parser = .content)
      ∧ (let s := parsing .check [0, 2, 7, 4] 2
         s.scratch = .clear ∧ s.link.parser = .check ∧ s.link.received.length + 1 < 4 + s.link.declared)
      ∧ (let s := parsing .check [0, 2, 7, 4, 0] 2
         s.scratch = .clear ∧ s.link.parser = .check ∧ ¬ s.link.received.length + 1 < 4 + s.link.declared
          ∧ goodCheck s.link.declared (s.link.received ++ [0]) = false) := by decide +kernel

theorem test_meets_MessagesAreDiscardedAndSent :
    (parsing .length [] 0).link.parser ≠ .hunt
      ∧ (∃ m rest, (after (.zero 1) State.reset).link.output = m :: rest ∧ (after (.zero 1) State.reset).link.onLine = none)
      ∧ (∃ m rest bytes, (after .messageTransmissionBegin (after (.zero 1) State.reset)).link.output = m :: rest
          ∧ (after .messageTransmissionBegin (after (.zero 1) State.reset)).link.onLine = some bytes) :=
  ⟨by decide, ⟨_, _, rfl, rfl⟩, ⟨_, _, _, rfl, rfl⟩⟩

/-- A request without a body, and the longest; a message of kinds 0 and 18, and of a body one byte from the table's length. -/
theorem test_meets_MessageBytesAreTakenAsTheRequest :
    State.reset.link = State.reset.link.hunting ∧ State.reset.scratch = .clear
      ∧ (Instr.zero 255).request? = some (255, .zero) ∧ (Instr.zero 255).wf = true ∧ (∀ k, Request.zero ≠ .unknown k)
      ∧ (Instr.start 0 body).request? = some (0, .start body) ∧ (Instr.start 0 body).wf = true
      ∧ (∀ k, Request.start body ≠ .unknown k)
      ∧ requestOfBody 0 [] = .unknown 0 ∧ requestOfBody 18 [1#8] = .unknown 18 ∧ requestOfBody 2 [1#8, 1#8] = .unknown 2
      ∧ ([] : List Byte).length ≤ 1022 ∧ State.reset.link.full 18 = false :=
  ⟨by decide, by decide, by decide, by decide, (fun _ h => nomatch h), by decide, by decide, (fun _ h => nomatch h),
    by decide, by decide, by decide, by decide, by decide⟩

theorem test_meets_RequestBodiesReadBack :
    (Request.commit 65535).wf = true ∧ (∀ k, Request.commit 65535 ≠ .unknown k) :=
  ⟨by decide, fun _ h => nomatch h⟩

/-- Eight outstanding, and nine with a RESTART among them. -/
theorem test_meets_FullListTurnsRequestsAway :
    (Instr.zero 1).request? = some (1, .zero) ∧ (outstanding 8 4 (part .joined)).scratch = .clear
      ∧ 8 ≤ (outstanding 8 4 (part .joined)).link.outstanding.length ∧ Request.zero.kind ≠ 3
      ∧ (Instr.restart 1).request? = some (1, .restart)
      ∧ 8 ≤ (outstanding 9 3 (part .joined)).link.outstanding.length
      ∧ (∃ o ∈ (outstanding 9 3 (part .joined)).link.outstanding, o.kind = 3) := by decide

theorem test_meets_EarlyAndUnknownRequestsAreRefused :
    State.reset.scratch = .clear ∧ State.reset.setup = none
      ∧ (Instr.restart 1).request? = some (1, .restart) ∧ State.reset.link.full 3 = false
      ∧ (∀ b, Request.restart ≠ .start b) ∧ (∀ n, Request.restart ≠ .status n) ∧ (∀ k, Request.restart ≠ .unknown k)
      ∧ State.reset.link.full 18 = false :=
  ⟨by decide, by decide, by decide, by decide, (fun _ h => nomatch h), (fun _ h => nomatch h), (fun _ h => nomatch h),
    by decide⟩

/-- Each field at the first value outside its range. -/
theorem test_meets_LinkFieldChecks :
    (part .joined).scratch = .clear ∧ (part .joined).started = true
      ∧ (∀ kind ∈ [1, 2, 5, 14, 15, 16, 17], (part .joined).link.full kind = false)
      ∧ 999999 < 1000000 ∧ 9999999 < 10000000 ∧ 3 < 4
      ∧ ({ rateK with flags := 1 } : RateBody).flags.testBit 0 = true ∧ ({ rateK with flags := 1 } : RateBody).manualWeight < 1
      ∧ ({ rateK with flags := 2 } : RateBody).flags.testBit 1 = true ∧ (∃ x ∈ [1, 2001, 1], x < 1 ∨ 2000 < x)
      ∧ 31 < 32 ∧ 26 < 27 ∧ 9 < 10 ∧ 65535 < 65536
      ∧ State.reset.scratch = .clear ∧ State.reset.setup = none ∧ State.reset.link.full 1 = false
      ∧ startGood body = true ∧ startGood { body with office := 10000 } = false
      ∧ startGood { body with cellEnable := 0 } = false ∧ startGood { body with cellEnable := 16 } = false
      ∧ startGood { body with products := [productK, productK] } = false
      ∧ startGood { body with products := [{ productK with first := 9997 }] } = false := by decide

theorem test_meets_StatusReportsItsSection :
    State.reset.scratch = .clear ∧ State.reset.link.full 2 = false
      ∧ (∃ r, (State.reset.taken 1 2).report 1 = some r) ∧ (∃ r, ((part .joined).taken 1 2).report 9 = some r) :=
  ⟨by decide, by decide, ⟨_, rfl⟩, ⟨_, rfl⟩⟩

/-- A hall without this station's number, and ones where it was heard in another group and in the configured one. -/
theorem test_meets_StartConfiguresAndJoins :
    State.reset.scratch = .clear ∧ State.reset.setup = none ∧ State.reset.link.full 1 = false ∧ startGood body = true
      ∧ State.reset.hall.state = .starting ∧ State.reset.hall.queue = [] ∧ State.reset.tariff.owedCutover = none
      ∧ (∀ r ∈ State.reset.bags.rows, r.owed = none) ∧ State.reset.quotes.pendingOrder = []
      ∧ (State.reset.hall.peers[State.reset.hall.station]?).map (·.liveness) ≠ some .live
      ∧ (let s := after (.heardAlive 0 9) State.reset
         s.scratch = .clear ∧ s.setup = none ∧ s.link.full 1 = false ∧ s.hall.state = .starting ∧ s.hall.queue = []
          ∧ s.hall.peers[s.hall.station]? = some { liveness := .live, ageMs := 0, lastGroup := some 9, office := none })
      ∧ (let s := after (.heardAlive 0 3) State.reset
         s.scratch = .clear ∧ s.setup = none ∧ s.link.full 1 = false ∧ s.hall.state = .starting
          ∧ s.quotes.pendingOrder = []
          ∧ s.hall.peers[s.hall.station]? = some { liveness := .live, ageMs := 0, lastGroup := some 3, office := none }) := by
  decide

/-! #### Conditions on states, for the states of these tests -/

/-- A slot is sound, as a computation. -/
def soundSlot (k : Slot) : Bool :=
  decide (k.marks.length = if k.enabled then k.count else 0)
    && (k.heldBlocks.all fun b => k.inWindow b && k.marked b)
    && (k.claim.block?.toList.all fun b => k.inWindow b && k.marked b && !k.heldBlocks.contains b)
    && decide k.heldBlocks.Nodup
    && (k.reserve.isNone || (k.current.isSome && decide (k.claim = .none)))
    && (k.current.toList.all fun c => decide (c.next < 1000))
    && (k.enabled || (k.current.isNone && decide (k.claim = .none)))

theorem sound_of_soundSlot (k : Slot) (h : soundSlot k = true) : k.sound := by
  simp only [soundSlot, Bool.and_eq_true, decide_eq_true_eq, List.all_eq_true, Bool.or_eq_true, Bool.not_eq_true',
    Option.isNone_iff_eq_none, Option.isSome_iff_ne_none, Option.mem_toList] at h
  obtain ⟨⟨⟨⟨⟨⟨h1, h2⟩, h3⟩, h4⟩, h5⟩, h6⟩, h7⟩ := h
  refine ⟨h1, h2, ?_, h4, ?_, h6, ?_⟩
  · intro b hb
    have := h3 b hb
    refine ⟨this.1, ?_⟩
    simpa using this.2
  · intro hr
    rcases h5 with h5 | h5
    · exact absurd h5 hr
    · exact h5
  · intro he
    rcases h7 with h7 | h7
    · simp [he] at h7
    · exact h7

theorem slotsSound_of (s : State) (h : s.alloc.slots.all soundSlot = true) : SlotsSound s :=
  fun k hk => sound_of_soundSlot k (List.all_eq_true.mp h k hk)

theorem rowsInRange_of (s : State) (h : s.bags.rows = List.replicate 32 Row.reset) : RowsInRange s := by
  refine ⟨by rw [h]; rfl, fun r hr => ?_⟩
  rw [h] at hr
  rw [List.eq_of_mem_replicate hr]
  unfold Row.inRange
  decide

theorem quotesSound_none (s : State) (h1 : s.quotes = QuoteTable.reset) (h2 : s.tariff.bankA.refs = 0)
    (h3 : s.tariff.bankB.refs = 0) : QuotesSound s := by
  refine ⟨by simp [h1, QuoteTable.reset], by simp [h1, QuoteTable.reset], by simp [h1, QuoteTable.reset],
    by simp [h1, QuoteTable.reset, Config.max16], by simp [h1, QuoteTable.reset], by simp [h1, QuoteTable.reset],
    by simp [h1, QuoteTable.reset], ?_, ?_⟩
  · intro id
    cases id <;> simp [State.bank, State.quotesUnder, h1, h2, h3, QuoteTable.reset]
  · intro id
    cases id <;> simp [State.bank, h2, h3]

/-- The request of every waiting RATE and COMMITTING quote was taken before, as a computation. -/
def earlierRequests (s : State) : Bool :=
  (s.quotes.waiting.toList.all fun w => decide (w.ref.id < s.link.nextId))
    && s.quotes.records.all fun q => match q.state with
      | .opened => true
      | .committing ref => decide (ref.id < s.link.nextId)

theorem requestsEarlier_of (s : State) (h : earlierRequests s = true) : RequestsEarlier s := by
  simp only [earlierRequests, Bool.and_eq_true, List.all_eq_true, Option.mem_toList, decide_eq_true_eq] at h
  refine ⟨fun w hw => h.1 w hw, fun q hq ref hr => ?_⟩
  have := h.2 q hq
  simpa [hr] using this

theorem suppliesCurrent_of (s : State) (h : (s.alloc.slots.all fun k => decide (k.supply = k.supplyOf)) = true) :
    SuppliesCurrent s :=
  fun k hk => of_decide_eq_true (List.all_eq_true.mp h k hk)

/-- A condition that no slot but the first meets. -/
theorem firstSlotOnly (slots : List Slot) (P : Slot → Prop) (h : ∀ x ∈ slots.drop 1, ¬ P x) (j : Nat) (x : Slot)
    (hx : slots[j]? = some x) (hp : P x) : j = 0 := by
  rcases j with _ | j
  · rfl
  · refine absurd hp (h x ?_)
    refine List.mem_of_getElem? (i := j) ?_
    rw [List.getElem?_drop, Nat.add_comm]
    exact hx

theorem quotesSound_committing : QuotesSound (withQuote (.committing commitRef) (part .joined)) := by
  refine ⟨by decide, by decide, by decide, by decide, by decide, by decide, ?_, ?_, ?_⟩
  · intro n
    simp [withQuote, quoteK, eq_comm]
  · intro id
    cases id <;> rfl
  · intro id
    cases id
    · intro h
      exact absurd h (by decide)
    · intro _
      exact Or.inl rfl

theorem banksSound_committing : BanksSound (withQuote (.committing commitRef) (part .joined)) := by
  intro state h
  rcases h with rfl | rfl <;> decide

/-! #### Witnesses, continued -/

theorem test_meets_RestartClearsTheCounterSide :
    let s := withQuote (.committing commitRef) (part .joined)
    Accepts 3 s ∧ QuotesSound s ∧ BanksSound s ∧ (s.bank .b).state = .active ∧ (s.bank .a).state = .empty
      ∧ (let u := withBankB { Bank.cleared with state := .loading } (part .joined)
         Accepts 3 u ∧ QuotesSound u ∧ BanksSound u ∧ (u.bank .b).state = .loading) :=
  ⟨⟨rfl, rfl, rfl⟩, quotesSound_committing, banksSound_committing, rfl, rfl, ⟨rfl, rfl, rfl⟩,
    quotesSound_none _ rfl rfl rfl, (by intro state h; rcases h with rfl | rfl <;> decide), rfl⟩

/-- The reference at each end of the 3% band, and a half with one place left after the sample. -/
theorem test_meets_ValidSampleEntersTheRing :
    (part .joined).started = true
      ∧ (let s : State := { part .joined with
          weighing := { Weighing.reset with firstHalf := [0, 0, 0, 0, 0, 0] } }
         s.setup = some cfg ∧ s.scratch = .clear ∧ s.weighing.scale ≠ .sensor
          ∧ 100 * (((31040 : Int) - cfg.nominal).natAbs) ≤ 3 * cfg.nominal
          ∧ 100 * (((32960 : Int) - cfg.nominal).natAbs) ≤ 3 * cfg.nominal
          ∧ (∀ c ∈ cfg.cells, ([-32767, 32766, 0, 0] : List Int).getD (c.channel - 1) 0 ≠ -32768
              ∧ ([-32767, 32766, 0, 0] : List Int).getD (c.channel - 1) 0 ≠ 32767)
          ∧ s.weighing.fillingHalf.length + 1 < 8) := by decide

/-- A half with one place left without a RATE that waits, and with one at an entry into SETTLED, EMPTY and RANGE, a WEIGHT
notice being due. -/
theorem test_meets_HalfCompletionDecidesTheScale :
    let counts : List Int := [10412, 9987, 10205, 10118]
    let w : WaitingRate := { ref := commitRef, body := rateK, timer := 5 }
    let s (x : Int) (waiting : Option WaitingRate) : State :=
      let u := withQuote .opened (part .joined)
      { u with
        weighing :=
        { Weighing.reset with
          scale := .moving, zo := 38039 - x, zinit := some 0, kept := [x, x, x], filling := .second
          secondHalf := [x, x, x, x, x, x, x] }
        quotes := { u.quotes with waiting := waiting } }
    (∀ x ∈ [38039, 0, 500000], ∀ waiting ∈ [none, some w],
      (s x waiting).setup = some cfg ∧ (s x waiting).scratch = .clear ∧ (s x waiting).quotes.waiting = waiting
        ∧ (s x waiting).weighing.scale ≠ .sensor ∧ (s x waiting).weighing.fillingHalf.length = 7
        ∧ min ((s x waiting).weighing.noticeGap + 1) 32 = 32
        ∧ (s x waiting).weighing.scale ≠ (s x waiting).weighing.reportedState
        ∧ earlierRequests (s x waiting) = true)
      ∧ (∀ u, earlierRequests u = true → RequestsEarlier u)
      ∧ 2 ≤ cfg.settleCount
      ∧ 100 * (((32000 : Int) - cfg.nominal).natAbs) ≤ 3 * cfg.nominal
      ∧ (∀ c ∈ cfg.cells, counts.getD (c.channel - 1) 0 ≠ -32768 ∧ counts.getD (c.channel - 1) 0 ≠ 32767)
      ∧ ([38039, 0, 500000].map fun x => (after (.sequenceEnd counts 32000) (s x (some w))).weighing.scale)
        = [.settled, .empty, .range] :=
  ⟨by decide, requestsEarlier_of, by decide, by decide, by decide, by decide +kernel⟩

/-- The counts on either side of 64 invalid and of 8 valid sequences, with and without a WEIGHT notice due and a RATE that waits;
the reference at the ends of the 3% band and beyond, and a count at each end of its range. -/
theorem test_meets_SensorFaultAndRecovery :
    let w : WaitingRate := { ref := commitRef, body := rateK, timer := 5 }
    let s (scale reported : ScaleState) (n : Nat) (waiting : Option WaitingRate) : State := { part .joined with
      weighing := { Weighing.reset with scale := scale, reportedState := reported, invalidRun := n, validRun := n }
      quotes := { QuoteTable.reset with waiting := waiting }, link := { Link.reset with nextId := 1 } }
    (∀ scale ∈ [ScaleState.sensor, .moving], ∀ reported ∈ [ScaleState.sensor, .moving], ∀ n ∈ [6, 7, 62, 63],
      ∀ waiting ∈ [none, some w],
        (s scale reported n waiting).setup = some cfg ∧ (s scale reported n waiting).scratch = .clear
          ∧ earlierRequests (s scale reported n waiting) = true ∧ (s scale reported n waiting).weighing.scale = scale
          ∧ min ((s scale reported n waiting).weighing.noticeGap + 1) 32 = 32)
      ∧ (∀ u, earlierRequests u = true → RequestsEarlier u)
      ∧ 62 + 1 < 64 ∧ 63 + 1 = 64 ∧ 6 + 1 < 8 ∧ 7 + 1 = 8
      ∧ 3 * cfg.nominal < 100 * (((31039 : Int) - cfg.nominal).natAbs) ∧ 3 * cfg.nominal < 100 * (((32961 : Int) - cfg.nominal).natAbs)
      ∧ (∃ c ∈ cfg.cells, ([-32768, 0, 0, 0] : List Int).getD (c.channel - 1) 0 = -32768)
      ∧ (∃ c ∈ cfg.cells, ([0, 0, 0, 32767] : List Int).getD (c.channel - 1) 0 = 32767)
      ∧ (∀ reference ∈ ([31040, 32960] : List Int), ¬ 3 * cfg.nominal < 100 * (reference - cfg.nominal).natAbs)
      ∧ (¬ ∃ c ∈ cfg.cells, ([-32767, 32766, 0, 0] : List Int).getD (c.channel - 1) 0 = -32768
          ∨ ([-32767, 32766, 0, 0] : List Int).getD (c.channel - 1) 0 = 32767) :=
  ⟨by decide, requestsEarlier_of, by decide, by decide, by decide, by decide, by decide, by decide, by decide, by decide,
    by decide, by decide⟩

theorem test_meets_ZeroRequestByScaleState :
    Accepts 4 (settled (part .joined)) ∧ ScaleSound (settled (part .joined))
      ∧ (settled (part .joined)).weighing.scale = .settled
      ∧ Accepts 4 (part .joined) ∧ ScaleSound (part .joined) ∧ (part .joined).weighing.scale ≠ .empty
      ∧ (part .joined).weighing.scale ≠ .settled := by
  unfold ScaleSound Accepts
  decide

/-- Exact halves, on both sides of 0 and at the change of interval. -/
theorem test_meets_HalfMeanRounding :
    rounded 10 = 20 ∧ rounded (-10) = -20 ∧ rounded 99990 = 100000 ∧ rounded 100050 = 100100
      ∧ 0 < 8 ∧ 0 < 4096 ∧ roundDiv 12 8 = 2 ∧ roundDiv (-12) 8 = -2 ∧ roundDiv (-11) 8 = -1 := by decide

theorem test_meets_GateSampleDebounces :
    let s (n : Nat) : State := { part .joined with gauge := { Gauge.reset with gateRun := n } }
    (s 0).started = true ∧ GateLevel.clear = (s 0).gauge.accepted ∧ GateLevel.blocked ≠ (s 6).gauge.accepted
      ∧ (s 6).gauge.gateRun + 1 < 8 ∧ 8 ≤ (s 7).gauge.gateRun + 1 := by decide

/-- The beginning of a pass, its completion at 2,000 and 2,001 mm with and without a record in the slot, the three discards, the
end of a stall, and an accepted BLOCKED in a pass. -/
theorem test_meets_AcceptedGateLevelActsOnThePass :
    let s (pass : PassState) (accepted : GateLevel) (l w h : Nat) (slot : Option Measurement) : State := { part .joined with
      gauge := { Gauge.reset with pass := pass, accepted := accepted, length := l, width := w, height := h, slot := slot } }
    let m : Measurement := { length := 1, width := 1, height := 1, edge := false, irregular := false, long := false }
    (part .joined).started = true ∧ (part .joined).gauge.pass = .idle ∧ (part .joined).gauge.accepted ≠ .blocked
      ∧ (∀ x ∈ [s .passing .blocked 2000 5 5 none, s .passing .blocked 2001 5 5 (some m), s .passing .blocked 0 5 5 none,
          s .passing .blocked 5 0 5 none, s .passing .blocked 5 5 0 none, s .stalled .blocked 5 5 5 none],
        x.started = true ∧ x.gauge.accepted ≠ .clear)
      ∧ ([s .passing .blocked 2000 5 5 none, s .passing .blocked 2001 5 5 (some m), s .passing .blocked 0 5 5 none,
          s .stalled .blocked 5 5 5 none].map fun x =>
            let g := (after (.gateLevelAccepted .clear) x).gauge
            (g.slot.map fun r => (r.length, r.long), g.replacedCount, g.discardCount))
        = [(some (2000, false), 0, 0), (some (2000, true), 1, 0), (none, 0, 1), (none, 0, 0)] := by decide

/-- Single and end beams, and a pass at and on either side of its high-water mark. -/
theorem test_meets_EncoderCountMeasuresThePass :
    let s (l h : Nat) : State := { part .joined with
      gauge := { Gauge.reset with pass := .passing, length := l, highWater := h } }
    (part .joined).setup = some cfg ∧ (part .joined).gauge.pass ≠ .passing
      ∧ (s 3 4).setup = some cfg ∧ (s 3 4).gauge.pass = .passing ∧ min ((s 3 4).gauge.length + 1) 65535 ≤ (s 3 4).gauge.highWater
      ∧ (s 65535 65535).gauge.pass = .passing
      ∧ min ((s 65535 65535).gauge.length + 1) 65535 ≤ (s 65535 65535).gauge.highWater
      ∧ (s 3 3).gauge.highWater < min ((s 3 3).gauge.length + 1) 65535 ∧ min ((s 3 3).gauge.length + 1) 65535 % 5 ≠ 0
      ∧ (s 4 4).gauge.highWater < min ((s 4 4).gauge.length + 1) 65535 ∧ min ((s 4 4).gauge.length + 1) 65535 % 5 = 0
      ∧ (∀ n, n < 128 → (0 : BeamSet).getLsbD n = true ∨ (0 : BeamSet).getLsbD n = false)
      ∧ scanExtent 0 1 = 5 ∧ (1 : BeamSet).getLsbD 0 = true ∧ (0 : BeamSet).getLsbD 0 = false := by decide

theorem test_meets_EncoderErrorsAndStalls :
    (part .joined).started = true
      ∧ (let s : State := { part .joined with gauge := { Gauge.reset with pass := .passing, stallTimer := 5000 } }
         s.gauge.pass = .passing ∧ s.gauge.stallTimer ≤ 5000) := by decide

theorem test_meets_BankOpenStartsALoad :
    Accepts 7 (part .joined) ∧ BankId.ofCode 1 = some .a ∧ BankId.ofCode 2 = some .b ∧ 0 ≤ 1 ∧ 1 ≤ 1 ∧ 0 ≠ 1 ∧ 3 ≠ 2 :=
  ⟨⟨rfl, rfl, rfl⟩, rfl, rfl, by decide, by decide, by decide, by decide⟩

/-- Bank B in LOADING with the given cursor. -/
def loading (c : Cursor) : State :=
  let s := withBankB { Bank.cleared with state := .loading } (part .joined)
  { s with tariff := { s.tariff with cursor := c } }

/-- Bank B in LOADING holding all of the worked load, with the given cursor. -/
def loadingFull (c : Cursor) : State :=
  let s := withBankB { bankB with state := .loading } (part .joined)
  { s with tariff := { s.tariff with cursor := c } }

/-- Each field at the end of its range. -/
theorem test_meets_RecordsAreLoaded :
    let s := loading .cleared
    let o : OpenCell := { slot := 0, zone := 3, expected := 1, lastU := some 5 }
    s.scratch = .clear ∧ s.started = true ∧ s.bankIn .loading = some .b ∧ s.tariff.cursor.openCell = none
      ∧ (∀ kind ∈ [8, 9, 10, 11], s.link.full kind = false)
      ∧ (0 ≤ 999999 ∧ 999999 ≤ 999999 ∧ 15 ≤ 15 ∧ 31 ≤ 31 ∧ 3 ≤ 3 ∧ s.tariff.cursor.lastHigh = none
        ∧ (loading { Cursor.cleared with zones := 255 }).tariff.cursor.zones < 256)
      ∧ (s.productIndex 11 = some 0 ∧ 500 ≤ 500 ∧ 1 ≤ 1 ∧ 1000000 ≤ 1000000
        ∧ (∀ x ∈ (s.bank .b).surcharges, x.slot ≠ 0))
      ∧ (12 ≤ 12 ∧ (∀ c ∈ (s.bank .b).cells, c.slot ≠ 0 ∨ c.zone ≠ 3)
        ∧ (loading { Cursor.cleared with bands := 500 }).tariff.cursor.bands + 12 ≤ 512)
      ∧ (loading { Cursor.cleared with openCell := some o }).tariff.cursor.openCell = some o
      ∧ (∀ last ∈ o.lastU, last < 6) := by decide

theorem test_meets_LoadingNeedsALoadingBank :
    (Instr.cell 1 11 0 1).request? = some (1, .cell 11 0 1) ∧ Accepts (Request.cell 11 0 1).kind (part .joined)
      ∧ 8 ≤ (Request.cell 11 0 1).kind ∧ (Request.bankClose 1 1 1).kind ≤ 12 ∧ (∀ k, Request.cell 11 0 1 ≠ .unknown k)
      ∧ (part .joined).tariff.bankA.state ≠ .loading ∧ (part .joined).tariff.bankB.state ≠ .loading :=
  ⟨rfl, ⟨rfl, rfl, rfl⟩, by decide, by decide, (fun _ h => nomatch h), by decide, by decide⟩

/-- An open cell, a repeated cell, zone or surcharge, each room of the bank at its end, and fields one beyond their ranges. -/
theorem test_meets_StructuralFaultEndsTheLoad :
    let o : OpenCell := { slot := 0, zone := 3, expected := 1, lastU := some 5 }
    let opened := loading { Cursor.cleared with openCell := some o }
    let full := loadingFull { Cursor.cleared with bands := 512, zones := 256, lastHigh := some 369999 }
    full.scratch = .clear ∧ full.started = true ∧ full.bankIn .loading = some .b
      ∧ opened.scratch = .clear ∧ opened.started = true ∧ opened.bankIn .loading = some .b
      ∧ (∀ kind ∈ [8, 9, 10, 11], full.link.full kind = false ∧ opened.link.full kind = false)
      ∧ full.productIndex 11 = some 0 ∧ full.productIndex 1 = none ∧ full.productIndex 26 = none
      ∧ 12 < 13 ∧ 15 < 16 ∧ 31 < 32 ∧ 3 < 4 ∧ 500 < 501 ∧ 999999 < 1000000 ∧ 1000000 < 1000001
      ∧ opened.tariff.cursor.openCell ≠ none
      ∧ (∃ c ∈ (full.bank .b).cells, c.slot = 0 ∧ c.zone = 3)
      ∧ full.tariff.cursor.openCell = none ∧ (∀ c ∈ (full.bank .b).cells, c.slot ≠ 0 ∨ c.zone ≠ 4)
      ∧ 512 < full.tariff.cursor.bands + 1
      ∧ opened.tariff.cursor.openCell = some o ∧ o.lastU = some 5 ∧ 5 ≤ 5
      ∧ full.tariff.cursor.lastHigh = some 369999 ∧ 369999 ≤ 369999 ∧ 369999 < 370000 ∧ 256 ≤ full.tariff.cursor.zones
      ∧ (∃ x ∈ (full.bank .b).surcharges, x.slot = 0) := by decide

theorem test_meets_BankCloseChecksCountAndSum :
    Accepts 12 (loading .cleared) ∧ (loading .cleared).bankIn .loading = some .b := ⟨⟨rfl, rfl, rfl⟩, rfl⟩

theorem test_meets_SwapActivatesAReadyBank :
    let s (b : BankState) := withBankB { bankB with state := b } (part .joined)
    BankId.ofCode 2 = some .b ∧ (∀ b ∈ [BankState.active, .loading, .retiring, .empty, .ready],
      (s b).scratch = .clear ∧ (s b).started = true ∧ (s b).link.full 13 = false ∧ ((s b).bank .b).state = b) := by decide

theorem test_meets_HeardCutoverActivatesOrIsMissed :
    let s (b : BankState) := withBankB { bankB with state := b } (part .joined)
    HeardFromPeer 4 3 (part .joined) ∧ HeardFromPeer 4 3 (s .active) ∧ HeardFromPeer 4 3 (s .ready)
      ∧ ((s .active).activeBank.map fun id => ((s .active).bank id).version) = some 312
      ∧ (part .joined).activeBank = none ∧ (part .joined).readyBank 312 = none
      ∧ (s .ready).activeBank = none ∧ (s .ready).readyBank 312 = some .b :=
  ⟨⟨rfl, by decide, rfl, by decide⟩, ⟨rfl, by decide, rfl, by decide⟩, ⟨rfl, by decide, rfl, by decide⟩, rfl, rfl, rfl,
    rfl, rfl⟩

/-- The ends of the worked bank's zone entry and of its bands. -/
theorem test_meets_ZoneAndBandLookup :
    (∀ d ∈ [350000, 369999], ∃ z ∈ bankB.zones, z.low ≤ d ∧ d ≤ z.high)
      ∧ (∀ z ∈ bankB.zones, 370000 < z.low ∨ z.high < 370000)
      ∧ (∀ x ∈ bankB.bands, x.u < 10001)
      ∧ (∃ x, bankB.bands[0]? = some x ∧ 2000 ≤ x.u)
      ∧ (∃ x, bankB.bands[1]? = some x ∧ 2001 ≤ x.u ∧ ∀ y ∈ bankB.bands.take 1, y.u < 2001) :=
  ⟨by decide, by decide, by decide, ⟨_, rfl, by decide⟩, ⟨_, rfl, by decide, by decide⟩⟩

theorem test_meets_PriceArithmetic : nearestMultiple 2325 10 = 2330 ∧ 0 < 10 := by decide

/-- Weight and dimensions from the parcel record, and from the RATE. -/
theorem test_meets_QuotedResultHoldsTogether :
    let s := settled (withBankB bankB (part .joined))
    s.setup = some cfg ∧ 0 < cfg.roundingUnit ∧ s.compute rateK = .ok resultK
      ∧ ((withBankB bankB (part .joined)).compute
          { rateK with flags := 3, manualWeight := 10000, len1 := 250, len2 := 420, len3 := 310 }).toOption.isSome = true :=
  ⟨by decide, by decide, by decide, by decide +kernel⟩

/-- Every scale state, with and without an ACTIVE bank; letters without a slot, of one not enabled and of an enabled one. -/
theorem test_meets_RateIsPricedWaitsOrIsRefused :
    let s (scale : ScaleState) : State :=
      let u := withBankB bankB (part .joined)
      { u with weighing := { u.weighing with scale := scale } }
    (Accepts 14 (part .joined) ∧ (part .joined).activeBank = none)
      ∧ (∀ scale ∈ [ScaleState.noZero, .range, .sensor, .empty, .moving],
        (s scale).scratch = .clear ∧ (s scale).started = true ∧ (s scale).link.full 14 = false
          ∧ (s scale).activeBank ≠ none ∧ (s scale).weighing.scale = scale)
      ∧ Accepts 14 (settled (withBankB bankB (part .joined)))
      ∧ rateFieldsGood rateK = true ∧ rateFieldsGood { rateK with flags := 1, manualWeight := 40000 } = true
      ∧ rateK.flags.testBit 0 = false ∧ ({ rateK with flags := 1 } : RateBody).flags.testBit 0 = true
      ∧ (let t := settled (withBankB bankB (part .joined))
         t.setup = some cfg ∧ t.activeBank = some .b ∧ t.weighing.parcel ≠ none ∧ t.productIndex 1 = none
          ∧ t.productIndex 3 = some 2 ∧ (t.products[2]?).map (·.enabled) = some false
          ∧ t.productIndex 11 = some 0 ∧ (t.products[0]?).map (·.enabled) = some true)
      ∧ [65533, 65535, 1, 2].length ≤ 4 ∧ 1 ≤ 65534 ∧ 65535 ≤ 65535 ∧ advanceCounter [65533, 65535, 1, 2] 65534 = 3 :=
  ⟨⟨⟨rfl, rfl, rfl⟩, rfl⟩, by decide, ⟨rfl, rfl, rfl⟩, by decide, by decide, by decide, by decide, by decide, by decide,
    by decide, by decide, by decide⟩

theorem test_meets_WaitingRateEnds :
    let w : WaitingRate := { ref := { id := 0, tag := 61 }, body := rateK, timer := 3000 }
    let s (scale : ScaleState) : State := { part .joined with
      weighing := { Weighing.reset with scale := scale }, quotes := { QuoteTable.reset with waiting := some w } }
    ∀ scale ∈ [ScaleState.settled, .empty, .range, .sensor],
      (s scale).scratch = .clear ∧ (s scale).quotes.waiting = some w ∧ (s scale).weighing.scale = scale := by decide

theorem test_meets_QuotesExpireAndAreCancelled :
    let s := withQuote .opened (part .joined)
    s.scratch = .clear ∧ s.quote? 58 = some (quoteK .opened) ∧ (quoteK .opened).state = .opened ∧ s.started = true
      ∧ s.link.full 16 = false ∧ s.quote? 1 = none ∧ s.quote? 65535 = none := by decide

/-- Product K with a block in JOINED, every state that turns a COMMIT away or makes it wait, and a COMMIT behind a pending one. -/
theorem test_meets_CommitJoinsThePendingOrder :
    let s (state : StationState) := withQuote .opened (part state)
    let exhausted := withQuote .opened (withK { heldK with current := none, supply := .exhausted })
    let ready := withQuote .opened (withK heldK)
    let full := withQueue (List.replicate 12 .alive) ready
    let almost := withQueue (List.replicate 11 .alive) ready
    (Accepts 15 (part .joined) ∧ (part .joined).quote? 1 = none)
      ∧ (Accepts 15 (withQuote (.committing commitRef) (part .joined))
        ∧ (withQuote (.committing commitRef) (part .joined)).quote? 58
          = some (quoteK (.committing commitRef)))
      ∧ (Accepts 15 (s .muted) ∧ (s .muted).quote? 58 = some (quoteK .opened) ∧ (s .muted).hall.state = .muted)
      ∧ (Accepts 15 exhausted ∧ exhausted.quote? 58 = some (quoteK .opened)
        ∧ ((exhausted.slotOf 11).bind fun k => (exhausted.alloc.slots[k]?).map (·.supply)) = some .exhausted)
      ∧ (Accepts 15 (s .joining) ∧ (s .joining).hall.state ≠ .joined)
      ∧ (Accepts 15 full ∧ full.quote? 58 = some (quoteK .opened) ∧ 12 ≤ full.hall.queue.length)
      ∧ (Accepts 15 almost ∧ almost.quote? 58 = some (quoteK .opened) ∧ almost.hall.state = .joined
        ∧ almost.hall.queue.length < 12 ∧ almost.quotes.pendingOrder = []
        ∧ ((almost.slotOf 11).bind fun k => (almost.alloc.slots[k]?).bind (·.current)) = some { block := 268, next := 391 }
        ∧ ((almost.slotOf 11).bind fun k => (almost.alloc.slots[k]?).map (·.supply)) ≠ some .exhausted)
      ∧ (let behind : State :=
          { almost with
            quotes :=
            { almost.quotes with
              records := [quoteK .opened, { quoteK (.committing commitRef) with number := 59 }], pendingOrder := [59]
              nextNumber := 60 } }
         Accepts 15 behind ∧ behind.quote? 58 = some (quoteK .opened) ∧ behind.hall.state = .joined
          ∧ behind.hall.queue.length < 12 ∧ behind.quotes.pendingOrder = [59] ∧ earlierRequests behind = true
          ∧ ((behind.slotOf 11).bind fun k => (behind.alloc.slots[k]?).map (·.supply)) ≠ some .exhausted)
      ∧ (∃ before : List OutMsg, ∃ m : OutMsg, (∀ x ∈ before, x.answers 1 = false)
          ∧ m = .reply (some 1) 60 (.refused .noNumbers none) ∧ before = [.notice 0 (.exhausted 11)]) := by
  refine ⟨?_, ?_, ?_, ?_, ?_, ?_, ?_, ?_, ⟨_, _, ?_, rfl, rfl⟩⟩
  all_goals try unfold Accepts
  all_goals decide

/-- The last serial of a block, and the one at the low-water mark; and the last serial of the product, with another COMMITTING
quote, which becomes EXHAUSTED. -/
theorem test_meets_CompletionPostsAndLabels :
    let k (next : Nat) (marks : List Bool) : Slot :=
      { heldK with current := some { block := 268, next := next }, marks := marks }
    let s (x : Slot) : State :=
      let u := withQuote (.committing commitRef) (withK x)
      { u with
        quotes :=
        { u.quotes with
          records := [quoteK (.committing commitRef), { quoteK (.committing commitRef) with number := 59 }]
          pendingOrder := [58, 59], nextNumber := 60 } }
    (∀ x ∈ [k 999 [true, false, false, false], k 899 [true, false, false, false], k 999 [true, true, true, true]],
      (s x).scratch = .clear ∧ (s x).setup = some cfg ∧ (s x).quote? 58 = some (quoteK (.committing commitRef))
        ∧ (s x).hall.state = .joined ∧ (s x).hall.queue.length < 12 ∧ (s x).slotOf 11 = some 0
        ∧ (s x).alloc.slots[0]? = some x ∧ x.current.isSome = true ∧ (s x).bags.rows = List.replicate 32 Row.reset
        ∧ (s x).quotes.pendingOrder.Nodup)
      ∧ (∀ u : State, u.bags.rows = List.replicate 32 Row.reset → RowsInRange u) ∧ resultK.route < 32
      ∧ (k 899 [true, false, false, false]).claim = .none ∧ 1000 - 900 ≤ cfg.lowWater
      ∧ (k 899 [true, false, false, false]).search = some 269
      ∧ (let u := s (k 999 [true, true, true, true])
         (after (.commitCompletion 58) u).alloc.slots[0]?.map (·.supply) = some .exhausted
          ∧ (after (.commitCompletion 58) u).quote? 59 = some { quoteK .opened with number := 59, ageMs := 0 }) :=
  ⟨by decide +kernel, rowsInRange_of, by decide, by decide, by decide, by decide, by decide +kernel⟩

theorem test_meets_ItemNumberText : 9999 ≤ 9999 ∧ 9999999 ≤ 9999999 ∧ checkDigit 9999 9999999 ≤ 9 := by decide

theorem test_meets_MapLoadAndLogTake :
    (∀ state ∈ [StationState.joining, .joined, .muted],
        (part state).scratch = .clear ∧ (part state).started = true ∧ (part state).link.full 5 = false
          ∧ (part state).link.full 6 = false ∧ (part state).hall.state = state ∧ (part state).slotOf 11 = some 0
          ∧ (part state).alloc.slots[0]? = some slotK ∧ (part state).slotOf 1 = none ∧ (part state).slotOf 26 = none)
      ∧ 9999 < 10000 ∧ 9999 ≤ 9999 ∧ { slotK with marks := [true, true, true, false] }.supplyOf = slotK.supply
      ∧ (let k : Slot := { slotK with marks := [true, true, true, false] }
         let s : State := { withQuote (.committing commitRef) (withK k) with hall := { Hall.reset 0 with state := .joining } }
         s.scratch = .clear ∧ s.started = true ∧ s.link.full 5 = false ∧ s.hall.state = .joining ∧ s.slotOf 11 = some 0
          ∧ s.alloc.slots[0]? = some k
          ∧ (after (.mapLoad 1 11 271 [true]) s).alloc.slots[0]?.map (·.supply) = some .exhausted
          ∧ s.pendingOf 11 = [58]) := by decide +kernel

/-- With no block held, with one held, and with a COMMIT waiting for the block. -/
theorem test_meets_HoldoffExpiryWinsTheBlock :
    let beside : Slot := { heldK with marks := [true, true, false, false], claim := .holdoff 269 250 }
    (∀ x ∈ [claiming (.holdoff 269 250), beside],
      let s := withQuote (.committing commitRef) (withK x)
      s.scratch = .clear ∧ s.setup = some cfg ∧ s.alloc.slots[0]? = some x ∧ x.enabled = true
        ∧ x.claim = .holdoff 269 250 ∧ x.reserve = none ∧ s.quotes.pendingOrder = [58] ∧ earlierRequests s = true)
      ∧ (∀ s, earlierRequests s = true → RequestsEarlier s) ∧ cfg.lowWater ≤ 999
      ∧ beside.current.isSome = true ∧ (claiming (.holdoff 269 250)).current = none :=
  ⟨by decide, requestsEarlier_of, by decide, by decide, by decide⟩

/-- A free slot, a slot with one mark left, the same holding block 268, with and without a reserve, and a claim in HOLDOFF; a COMMIT
waits. Blocks at both ends of the window and just outside it, the strict window flag set and clear; a letter of no slot. -/
theorem test_meets_HeardBlocksAreMarked :
    let nearly : Slot := { slotK with marks := [true, true, true, false] }
    let held : Slot := { heldK with marks := [true, true, true, false] }
    let full : Slot := { heldK with marks := [true, true, false, false], reserve := some 269 }
    let s (k : Slot) := withQuote (.committing commitRef) (withK k)
    (∀ k ∈ [slotK, nearly, held, full, claiming (.holdoff 269 1)],
      (s k).scratch = .clear ∧ (s k).hall.state ≠ .starting ∧ (s k).setup.map (·.group) = some 3
        ∧ 4 ≠ (s k).hall.station ∧ earlierRequests (s k) = true ∧ (s k).slotOf 11 = some 0 ∧ (s k).slotOf 1 = none
        ∧ (s k).alloc.slots[0]? = some k
        ∧ (∀ b ∈ [267, 268, 269, 271, 272], k.claim ≠ .owed b ∧ k.claim ≠ .queued b)
        ∧ (∀ b ∈ [267, 268, 271, 272], k.claim.block? ≠ some b)
        ∧ (s k).setup.map (·.strictWindow) = some true
        ∧ (∀ b ∈ [267, 271, 272], k.holds b = false) ∧ k.inWindow 268 = true ∧ k.inWindow 271 = true
        ∧ k.inWindow 267 = false ∧ k.inWindow 272 = false)
      ∧ (∀ u, earlierRequests u = true → RequestsEarlier u) ∧ [268, 271].Nodup ∧ slotK.holds 268 = false
      ∧ full.holds 268 = true ∧ full.holds 269 = true
      ∧ (s full).mayOweHeld full 269 = true ∧ (s full).mayOweHeld { full with owedHeld := [269] } 269 = false
      ∧ (let u : State := { withK slotK with setup := some { cfg with strictWindow := false } }
         HeardFromPeer 4 3 u ∧ u.quotes.pendingOrder = [] ∧ u.setup.map (·.strictWindow) = some false)
      ∧ ([nearly, held].map fun k => (after (.heardClaim 4 3 11 271 .owedFirst) (s k)).alloc.slots[0]?.map (·.supply))
        = [some .exhausted, some .last]
      ∧ ([full, claiming (.holdoff 269 1)].map fun k =>
          (after (.heardClaim 4 3 11 269 .owedFirst) (s k)).hall.queue.map (·.frame.body))
        = [[.held 11 269], [.held 11 269]] :=
  ⟨by decide, requestsEarlier_of, by decide, by decide, by decide, by decide, by decide, by decide,
    ⟨⟨rfl, by decide, rfl, by decide⟩, rfl, rfl⟩, by decide +kernel, by decide +kernel⟩

/-- A claim in each state that it can be lost or kept in, with a HELD owed for the block, and its CLAIM and HELD queued, with no
COMMIT waiting and with one. -/
theorem test_meets_ClaimRaceIsDecidedByTheLine :
    ∀ c ∈ [Claim.owed 269, .queued 269, .holdoff 269 1], ∀ owed ∈ [[], [269]],
      let k : Slot := { claiming c with owedHeld := owed }
      let s := withQueue [.claim 11 269, .held 11 269] (withK k)
      let u := withQuote (.committing commitRef) s
      HeardFromPeer 4 3 s ∧ SlotsSound s ∧ s.slotOf 11 = some 0 ∧ s.alloc.slots[0]? = some k
        ∧ k.claim.block? = some 269 ∧ s.quotes.pendingOrder = []
        ∧ 269999 / 1000 = 269 ∧ s.hall.attempt = none ∧ k.owedHeld.Nodup ∧ k.owedHeld.length < 4
        ∧ s.hall.queue.countP (fun q => decide (q.frame.body = .claim 11 269)) ≤ 1
        ∧ s.hall.queue.countP (fun q => decide (q.frame.body = .held 11 269)) ≤ 1
        ∧ (∀ j x, s.alloc.slots[j]? = some x → x.claim = .owed 269 → j = 0)
        ∧ (∀ j x, s.alloc.slots[j]? = some x → 269 ∈ x.owedHeld → j = 0)
        ∧ HeardFromPeer 4 3 u ∧ SlotsSound u ∧ u.slotOf 11 = some 0 ∧ u.alloc.slots[0]? = some k ∧ RequestsEarlier u := by
  intro c hc owed ho
  simp only [List.mem_cons, List.not_mem_nil, or_false] at hc ho
  rcases hc with rfl | rfl | rfl <;> rcases ho with rfl | rfl <;>
    exact ⟨⟨rfl, by decide, rfl, by decide⟩, slotsSound_of _ (by decide), rfl, rfl, rfl, rfl, by decide, rfl,
      by decide, by decide, by decide, by decide, firstSlotOnly _ (fun x => x.claim = .owed 269) (by decide),
      firstSlotOnly _ (fun x => 269 ∈ x.owedHeld) (by decide), ⟨rfl, by decide, rfl, by decide⟩,
      slotsSound_of _ (by decide), rfl, rfl, requestsEarlier_of _ (by decide)⟩

/-- A CLAIM lost in the queue makes room, and the next free block is claimed in it. -/
theorem test_next_claim :
    (after (.heardClaim 4 3 11 269 .owedFirst) (withQueue [.claim 11 269] (withK (claiming (.queued 269))))).hall.queue.map
      (·.frame.body) = [.claim 11 270] := by decide +kernel

/-- A set mark, a clear one, the last clear one with a COMMIT waiting, and blocks just outside the window with the strict window
flag set. -/
theorem test_meets_HeardPostedMovesTheRow :
    let s (k : Slot) := withQuote (.committing commitRef) (withK k)
    (∀ k ∈ [slotK, { slotK with marks := [true, false, false, false] }, { slotK with marks := [true, true, true, false] }],
      (s k).scratch = .clear ∧ (s k).hall.state ≠ .starting ∧ (s k).setup.map (·.group) = some 3
        ∧ 4 ≠ (s k).hall.station ∧ earlierRequests (s k) = true ∧ (s k).bags.rows = List.replicate 32 Row.reset
        ∧ (s k).slotOf 1 = none ∧ (s k).slotOf 11 = some 0 ∧ (s k).alloc.slots[0]? = some k ∧ k.claim = .none
        ∧ (s k).setup.map (·.strictWindow) = some true
        ∧ (∀ serial ∈ [268000, 271999], k.inWindow (serial / 1000) = true)
        ∧ (∀ serial ∈ [267999, 272000], k.inWindow (serial / 1000) = false)
        ∧ (∀ serial ∈ [267999, 268000, 271999, 272000], k.holds (serial / 1000) = false))
      ∧ (∀ u : State, u.bags.rows = List.replicate 32 Row.reset → RowsInRange u)
      ∧ (∀ u, earlierRequests u = true → RequestsEarlier u)
      ∧ slotK.marked 268 = false ∧ { slotK with marks := [true, false, false, false] }.marked 268 = true
      ∧ (after (.heardPosted 4 3 11 271000 3 1 500 .owedFirst)
          (s { slotK with marks := [true, true, true, false] })).alloc.slots[0]?.map (·.supply) = some .exhausted :=
  ⟨by decide +kernel, rowsInRange_of, requestsEarlier_of, by decide, by decide, by decide +kernel⟩

/-- The current block, and the reserve beside it, with an empty log, in JOINED and in MUTED; and with a COMMIT waiting. -/
theorem test_meets_DoublyHeldBlockIsWithdrawn :
    let k : Slot := { heldK with marks := [true, true, false, false], reserve := some 269 }
    (∀ state ∈ [StationState.joined, .muted],
      let s : State := { withK k with hall := { Hall.reset 0 with state := state } }
      HeardFromPeer 4 3 s ∧ SlotsSound s ∧ s.slotOf 11 = some 0 ∧ s.alloc.slots[0]? = some k ∧ k.holds 268 = true
        ∧ k.holds 269 = true ∧ s.quotes.pendingOrder = [] ∧ s.alloc.log = [] ∧ k.owedHeld.length < 4
        ∧ s.hall.state = state ∧ 268000 / 1000 = 268)
      ∧ (let s := withQuote (.committing commitRef) (withK k)
         HeardFromPeer 4 3 s ∧ SlotsSound s ∧ s.slotOf 11 = some 0 ∧ s.alloc.slots[0]? = some k ∧ RequestsEarlier s
          ∧ (after (.heardHeld 4 3 11 268 .servingFirst) s).quotes.records = []) := by
  refine ⟨?_, ⟨rfl, by decide, rfl, by decide⟩, slotsSound_of _ (by decide), rfl, rfl, requestsEarlier_of _ (by decide),
    by decide +kernel⟩
  intro state h
  simp only [List.mem_cons, List.not_mem_nil, or_false] at h
  rcases h with rfl | rfl <;>
    exact ⟨⟨rfl, by decide, rfl, by decide⟩, slotsSound_of _ (by decide), rfl, rfl, by decide, by decide, rfl, rfl,
      by decide, rfl, by decide⟩

theorem test_meets_BagsAreClosedAndFollowed :
    Accepts 17 (part .joined) ∧ Accepts 17 (part .muted) ∧ 31 < 32 ∧ HeardFromPeer 4 3 (part .joined) :=
  ⟨⟨rfl, rfl, rfl⟩, ⟨rfl, rfl, rfl⟩, by decide, ⟨rfl, by decide, rfl, by decide⟩⟩

theorem test_meets_HeardJoinAndAlive :
    HeardFromPeer 4 3 (part .joined) ∧ HeardFromPeer 31 3 (part .muted) :=
  ⟨⟨rfl, by decide, rfl, by decide⟩, ⟨rfl, by decide, rfl, by decide⟩⟩

theorem test_meets_UnheardFramesReachNoOwner :
    heardFrame? (.heardJoin 4 9 417) = some { station := 4, group := 9, body := .join 417 }
      ∧ State.reset.scratch = .clear ∧ State.reset.hall.state = .starting
      ∧ (part .joined).scratch = .clear ∧ (part .joined).hall.state ≠ .starting ∧ (part .joined).setup.map (·.group) ≠ some 9
      ∧ (part .muted).scratch = .clear ∧ (part .muted).hall.station = 0 ∧ (part .muted).hall.state = .muted := by decide

/-- With a COMMITTING quote, and with a claim whose end leaves its product without a block or a free mark. -/
theorem test_meets_DuplicateStationIsMuted :
    let k : Slot := { slotK with marks := [true, true, true, true], claim := .queued 269 }
    let s := withQuote (.committing commitRef) (part .joined)
    let u := withK k
    heardFrame? (.heardAlive 0 3) = some { station := 0, group := 3, body := .alive }
      ∧ s.scratch = .clear ∧ QuotesSound s ∧ RequestsEarlier s ∧ SuppliesCurrent s ∧ s.hall.state = .joined
      ∧ s.setup.map (·.group) = some 3 ∧ s.hall.station = 0
      ∧ u.scratch = .clear ∧ QuotesSound u ∧ RequestsEarlier u ∧ SuppliesCurrent u ∧ u.hall.state = .joined
      ∧ (after (.heardAlive 0 3) u).alloc.slots[0]?.map (·.supply) = some .exhausted :=
  ⟨rfl, rfl, quotesSound_committing, requestsEarlier_of _ (by decide), suppliesCurrent_of _ (by decide), rfl, rfl, rfl,
    rfl, quotesSound_none _ rfl rfl rfl, requestsEarlier_of _ (by decide), suppliesCurrent_of _ (by decide), rfl,
    by decide +kernel⟩

/-- The fifteenth, sixteenth and a later failure. -/
theorem test_meets_AttemptsKeepTheFrame :
    let f : Frame := { station := 0, group := 3, body := .alive }
    let q : QueuedFrame := { frame := f, check := none }
    let s (n : Nat) (latch : Bool) (a : Option Frame) : State := { part .joined with
      hall := { (part .joined).hall with queue := [q], attempt := a, failures := n, lineFault := latch } }
    (s 0 false none).scratch = .clear ∧ (s 0 false none).sends = true ∧ (s 0 false none).hall.queue = [q]
      ∧ (s 0 false (some f)).hall.attempt = some f ∧ 63 < f.frameClass.code * 32 + f.station
      ∧ (s 14 false (some f)).hall.failures ≤ 16 ∧ (s 14 false (some f)).hall.failures ≠ 15
      ∧ (s 14 false (some f)).hall.failures ≠ 16
      ∧ (s 15 false (some f)).hall.failures = 15 ∧ (s 15 false (some f)).hall.lineFault = false
      ∧ (s 16 true (some f)).hall.failures ≤ 16 ∧ (s 16 true (some f)).hall.lineFault = true := by decide

/-- The end of a CLAIM, a JOIN and another frame, with nothing owed and nothing pending, and with both. -/
theorem test_meets_TransmitCompletionEndsTheFrame :
    let ending (b : FrameBody) (s : State) : State :=
      { s with hall := { s.hall with attempt := some { station := 0, group := 3, body := b } } }
    (∀ b ∈ [FrameBody.claim 11 269, .join 417, .alive],
      let s := ending b (part .joined)
      s.scratch = .clear ∧ s.hall.attempt = some { station := 0, group := 3, body := b } ∧ s.owedItems = []
        ∧ s.quotes.pendingOrder = [])
      ∧ (∀ b ∈ [FrameBody.claim 11 269, .join 417, .alive],
        let s := ending b (withQuote (.committing commitRef) (withK { heldK with holdsOwed := true }))
        s.scratch = .clear ∧ s.hall.attempt = some { station := 0, group := 3, body := b } ∧ s.owedItems = [.holds 0]
          ∧ s.quotes.pendingOrder = [58] ∧ earlierRequests s = true)
      ∧ (∀ s, earlierRequests s = true → RequestsEarlier s) :=
  ⟨by decide, by decide, requestsEarlier_of⟩

/-- A census that ends with slots in need of a claim, and with a COMMIT waiting for the last free mark; a LIVE peer; searches that
go round the window and find nothing. -/
theorem test_meets_HallTimersExpire :
    (∀ marks ∈ [[false, false, false, false], [true, true, true, true]],
      let k : Slot := { slotK with marks := marks }
      let u := withQuote (.committing commitRef) (withK k)
      let s : State := { u with hall := { u.hall with state := .joining, census := some 1000 } }
      s.scratch = .clear ∧ s.hall.census = some 1000 ∧ s.quotes.pendingOrder = [58] ∧ earlierRequests s = true
        ∧ s.alloc.slots[0]? = some k ∧ k.enabled = true ∧ k.current = none ∧ k.reserve = none ∧ k.claim = .none)
      ∧ (∀ u, earlierRequests u = true → RequestsEarlier u)
      ∧ (part .joined).sends = true
      ∧ (∃ p, (after (.heardAlive 31 3) (part .joined)).hall.peers[31]? = some p ∧ p.liveness = .live)
      ∧ slotK.marks.length = slotK.count ∧ slotK.search = some 268
      ∧ { slotK with marks := [false, true, true, true], cursor := 270 }.search = some 268
      ∧ { slotK with marks := [true, true, true, true], cursor := 271 }.search = none :=
  ⟨by decide, requestsEarlier_of, rfl, ⟨_, rfl, rfl⟩, by decide, by decide, by decide, by decide⟩

/-- Items of every class owed, with room for all, for the urgent ones alone, and for none. -/
theorem test_meets_OwedItemsEnterTheQueue :
    let k : Slot := { claiming (.owed 269) with owedHeld := [270, 271], owedSpent := [268] }
    ∀ n ∈ [0, 12, 16],
      let s := withQueue (List.replicate n (.posted 11 268000 1 1 1)) (withK k)
      s.sends = true ∧ s.hall.queue.length = n ∧ s.alloc.slots[0]? = some k
        ∧ s.owedItems = [.held 0 270, .held 0 271, .claim 0 269, .spent 0 268] := by decide

/-- A frame of each kind, with fields at the ends of their ranges, and a sequence that fails. -/
theorem test_meets_FramesAreReadBackOrDiscarded :
    (∀ i ∈ [Instr.heardClaim 31 15 26 9999 .owedFirst, .heardHeld 0 0 1 0 .owedFirst, .heardSpent 31 0 26 9999 .owedFirst,
        .heardHolds 31 15 26 [] .owedFirst, .heardHolds 31 15 26 [0, 9999] .owedFirst,
        .heardPosted 31 15 26 9999999 31 9999 40000 .owedFirst, .heardJoin 31 15 9999, .heardBagnext 31 15 31 9999,
        .heardCutover 31 15 65535, .heardAlive 0 0], (heardFrame? i).isSome = true ∧ i.wf = true)
      ∧ (∃ cause, receive [true, true, true, true, true, true] = .error cause)
      ∧ ([] : List Bool) <+: stuff true 0 [] ∧ ([] : List Bool).length + 6 ≤ 16 + 16
      ∧ (let f : Frame := { station := 31, group := 15, body := .alive }
         receive (f.levels true) = .ok f ∧ (f.levels true).length - 1 < (f.levels true).length
          ∧ [(f.levels true).dropLast, (f.levels true).dropLast ++ [false], (f.levels true).set 0 true,
              (f.levels true).set 7 (!(f.levels true).getD 7 true)].map (fun l => (receive l).toOption)
            = [none, none, none, none])
      ∧ (10 ≤ 15 ∧ 15 < 16) ∧ (2 < 3 ∧ 3 < 256) :=
  ⟨by decide, ⟨_, rfl⟩, List.nil_prefix, by decide, by decide +kernel, by decide, by decide⟩

theorem test_meets_ImpossibleEventsChangeNothing :
    (part .joined).scratch = .clear ∧ occurs .gapTimerExpiry (part .joined) = false := by decide

/-- A step that starts in a state that meets every condition. -/
theorem test_meets_StepInvariants :
    let s : State := { withK heldK with pending := [.sampleSequenceStart] }
    (∃ t, step s = .next t) ∧ ScratchClear s ∧ OutstandingBounded s ∧ QueueOrdered s ∧ RowsInRange s ∧ SlotsSound s
      ∧ QuotesSound s ∧ BanksSound s ∧ ScaleSound s ∧ RequestsEarlier s ∧ SuppliesCurrent s ∧ s.setup ≠ none
      ∧ s.alloc.slots.length = 8 ∧ s.pending.all Instr.wf = true
      ∧ (∀ straps rest, s.pending ≠ .powerOnReset straps :: rest)
      ∧ (∃ x, s.alloc.slots[0]? = some x ∧ x.marks[0]? = some true) :=
  ⟨⟨_, rfl⟩, rfl, Or.inl (by decide), ⟨by decide, by decide⟩, rowsInRange_of _ rfl, slotsSound_of _ (by decide),
    quotesSound_none _ rfl rfl rfl, (by intro state h; rcases h with rfl | rfl <;> decide),
    (by unfold ScaleSound; decide), requestsEarlier_of _ (by decide),
    suppliesCurrent_of _ (by decide), by decide, rfl, rfl, (fun _ _ h => nomatch h), ⟨_, rfl, rfl⟩⟩

end Sys2Proof.Test
end

section
/-! What an event's end makes of the messages it produced, in the words of the statements: the flush carries each message
produced without an own reply over into `State.noticed` and `State.replied`. -/

namespace Sys2Proof.Machine

/-- Nothing is due in the event so far, and none of its messages answers the request `own`. -/
structure State.Quiet (own : Nat) (s : State) : Prop where
  offer : s.scratch.offerDue = false
  serve : s.scratch.serveDue = false
  foreign : ∀ m ∈ s.scratch.produced, m.answers own = false

/-- A reply to a request other than `own` leaves the event quiet. -/
theorem State.Quiet.reply {own : Nat} {s : State} (h : s.Quiet own) {r : RequestRef} (hr : r.id < own) (b : Reply) :
    (s.reply r b).Quiet own := by
  refine ⟨h.offer, h.serve, fun m hm => ?_⟩
  rcases List.mem_append.mp hm with hm | hm
  · exact h.foreign m hm
  · obtain rfl := List.mem_singleton.mp hm
    simp [OutMsg.answers, Nat.ne_of_lt hr]

/-- A notice leaves the event quiet. -/
theorem State.Quiet.notify {own : Nat} {s : State} (h : s.Quiet own) (n : Notice) : (s.notify n).Quiet own := by
  refine ⟨h.offer, h.serve, fun m hm => ?_⟩
  rcases List.mem_append.mp hm with hm | hm
  · exact h.foreign m hm
  · obtain rfl := List.mem_singleton.mp hm
    rfl

/-- An event that has produced nothing is quiet. -/
theorem State.quiet_of_clear {own : Nat} {s : State} (h : s.scratch = .clear) : s.Quiet own :=
  ⟨by rw [h]; rfl, by rw [h]; rfl, by simp [h, Scratch.clear]⟩

/-- Whether an event is quiet is a matter of its scratch alone. -/
theorem State.Quiet.congr {own : Nat} {s t : State} (h : s.Quiet own) (hscratch : t.scratch = s.scratch) : t.Quiet own :=
  ⟨hscratch ▸ h.offer, hscratch ▸ h.serve, hscratch ▸ h.foreign⟩

/-- Messages none of which answers the event's own request keep their order (R179). -/
theorem ownFirst_foreign (own : Nat) (l : List OutMsg) (h : ∀ m ∈ l, m.answers own = false) : ownFirst own l = l := by
  have hdrop : l.dropWhile (fun m => !m.answers own) = [] :=
    List.dropWhile_eq_nil_iff.mpr fun m hm => by simp [h m hm]
  simp only [ownFirst, hdrop]

/-- The notice counter has no part in what enters the output queue. -/
theorem foldl_accept_noticeSeq (msgs : List OutMsg) (n : Nat) (l : Link) :
    msgs.foldl Link.accept { l with noticeSeq := n } = { msgs.foldl Link.accept l with noticeSeq := n } := by
  induction msgs generalizing l with
  | nil => rfl
  | cons m ms ih =>
    have haccept : Link.accept { l with noticeSeq := n } m = { l.accept m with noticeSeq := n } := by
      unfold Link.accept
      split <;> rfl
    rw [List.foldl_cons, List.foldl_cons, haccept, ih]

/-- A quiet event ends with its flush alone. -/
theorem State.Quiet.finish {own : Nat} {s : State} (h : s.Quiet own) (order : RoomOrder) :
    s.finish own order = s.flush own :=
  finish_quiet own order s h.offer h.serve

/-- What a quiet event produced enters the output queue in the order of production. -/
theorem State.Quiet.flush_link {own : Nat} {s : State} (h : s.Quiet own) :
    (s.flush own).link = s.scratch.produced.foldl Link.accept s.link := by
  rw [State.flush_link, ownFirst_foreign own _ h.foreign]

/-- The flush of a quiet event that produced a notice last. -/
theorem State.Quiet.flush_notify {own : Nat} {s : State} (h : s.Quiet own) (n : Notice) :
    (s.notify n).flush own = (s.flush own).noticed n := by
  have hseq : (s.flush own).link.noticeSeq = s.link.noticeSeq := by
    rw [h.flush_link, (foldl_accept_outstanding s.scratch.produced s.link).2.2.1]
  have hlink : ((s.notify n).flush own).link = ((s.flush own).noticed n).link := by
    rw [(h.notify n).flush_link, State.notify_link, foldl_accept_noticeSeq, State.notify_scratch, List.foldl_concat,
      ← h.flush_link, ← hseq]
    rfl
  exact congrArg (fun l => { s.flush own with link := l }) hlink

/-- The flush of a quiet event that replied last, to an earlier request. -/
theorem State.Quiet.flush_reply {own : Nat} {s : State} (h : s.Quiet own) {r : RequestRef} (hr : r.id < own) (b : Reply) :
    (s.reply r b).flush own = (s.flush own).replied r b := by
  have hlink : ((s.reply r b).flush own).link = ((s.flush own).replied r b).link := by
    rw [(h.reply hr b).flush_link, State.reply_scratch, List.foldl_concat, State.reply_link, ← h.flush_link]
    rfl
  exact congrArg (fun l => { s.flush own with link := l }) hlink

/-- A request whose one effect is its reply: that reply enters the output queue at the end of the event (R178, R179). -/
theorem finish_reply_taken (tag kind own : Nat) (body : Reply) (order : RoomOrder) (s : State) (h : s.scratch = .clear) :
    ((s.taken tag kind).reply (s.nextRef tag) body).finish own order = s.answered tag kind body :=
  finish_produce own order _ (s.taken tag kind) h

/-- The outcome of a computation has reached the quote table and its reply the output queue: a refusal, or a quote where the
table has a place (R82, R84, R89, R90). -/
def State.outcomeStored (r : RequestRef) (outcome : Except Reason RateResult) (s : State) : State :=
  match outcome with
  | .error reason => s.replied r (.refused reason none)
  | .ok result =>
    if 4 ≤ s.quotes.records.length then s.replied r (.refused .quotesFull none)
    else
      let n := s.quotes.nextNumber
      let records := s.quotes.records ++ [{ number := n, state := .opened, ageMs := 0, result := result }]
      let u : State :=
        { s with
          quotes := { s.quotes with records := records, nextNumber := advanceCounter (records.map Quote.number) n } }
      (u.setBank result.bank { s.bank result.bank with refs := (s.bank result.bank).refs + 1 }).replied r
        (.quote n s.hall.station result)

/-- The flush of a quiet event that stored an outcome last, for an earlier request. -/
theorem State.Quiet.flush_storeOutcome {own : Nat} {s : State} (h : s.Quiet own) {r : RequestRef} (hr : r.id < own)
    (outcome : Except Reason RateResult) :
    (s.storeOutcome r outcome).flush own = (s.flush own).outcomeStored r outcome := by
  cases outcome with
  | error reason => exact h.flush_reply hr _
  | ok result =>
    unfold State.storeOutcome State.outcomeStored
    by_cases hfull : 4 ≤ s.quotes.records.length
    · simp only [State.flush_quotes, Config.maxQuotes, ge_iff_le, hfull, if_true]
      exact h.flush_reply hr _
    · simp only [State.flush_quotes, Config.maxQuotes, ge_iff_le, hfull, if_false]
      rw [State.Quiet.flush_reply (h.congr (by simp [State.takeRef])) hr]
      cases hbank : result.bank <;> rfl

/-- A stored outcome leaves the event quiet. -/
theorem State.Quiet.storeOutcome {own : Nat} {s : State} (h : s.Quiet own) {r : RequestRef} (hr : r.id < own)
    (outcome : Except Reason RateResult) : (s.storeOutcome r outcome).Quiet own := by
  unfold State.storeOutcome
  split
  · exact h.reply hr _
  · split
    · exact h.reply hr _
    · exact State.Quiet.reply (h.congr (by simp [State.takeRef])) hr _

end Sys2Proof.Machine
end

section
namespace Sys2Proof.Machine

/-- The rounded quotient of R6 and R8 has the sign of the numerator and this magnitude. -/
theorem roundDiv_eq (n : Int) (d : Nat) :
    roundDiv n d = if n < 0 then -(((2 * n.natAbs + d) / (2 * d) : Nat) : Int) else ((2 * n.natAbs + d) / (2 * d) : Nat) :=
  rfl

/-- Half up on magnitudes: `d` times the rounded quotient lies above `a` by half of `d` at most, and below it by less. -/
theorem mul_roundedQuotient_bounds (a d : Nat) (hd : 0 < d) :
    2 * (d * ((2 * a + d) / (2 * d))) ≤ 2 * a + d ∧ 2 * a < 2 * (d * ((2 * a + d) / (2 * d))) + d := by
  have hdiv := Nat.div_add_mod (2 * a + d) (2 * d)
  have hmod := Nat.mod_lt (2 * a + d) (show 0 < 2 * d by omega)
  rw [Nat.mul_assoc] at hdiv
  omega

/-- R6, R8: the rounded quotient is a nearest whole number, an exact half going away from zero. -/
theorem roundDiv_nearest (n : Int) (d : Nat) (hd : 0 < d) :
    2 * (d * roundDiv n d - n).natAbs ≤ d
      ∧ (2 * (d * roundDiv n d - n).natAbs = d → n.natAbs < (d * roundDiv n d).natAbs) := by
  obtain ⟨hle, hlt⟩ := mul_roundedQuotient_bounds n.natAbs d hd
  rw [roundDiv_eq]
  generalize (2 * n.natAbs + d) / (2 * d) = q at hle hlt ⊢
  have hcast : (d : Int) * (q : Int) = ((d * q : Nat) : Int) := by push_cast; rfl
  split
  · rw [Int.mul_neg, hcast]
    omega
  · rw [hcast]
    omega

/-- R9: a rounded half-mean is the nearest multiple of the interval of the unrounded one, an exact half going away from zero. -/
theorem rounded_nearest (m : Int) :
    rounded m % interval m = 0 ∧ 2 * (rounded m - m).natAbs ≤ interval m
      ∧ (2 * (rounded m - m).natAbs = interval m → m.natAbs < (rounded m).natAbs) := by
  unfold rounded interval
  dsimp only
  split <;> split <;> omega

/-- Settles O19: `roundDiv_nearest` for R6 and R8, `rounded_nearest` for R9. -/
theorem halfMeanRounding : Obligations.HalfMeanRounding := by
  refine ⟨roundDiv_nearest, fun m => ?_⟩
  have h := rounded_nearest m
  by_cases hm : m < 100000 <;> simpa [interval, hm] using h

end Sys2Proof.Machine
end

section
namespace Sys2Proof.Machine

/-! ### Power-on reset -/

/-- Settles O3: `State.powerOn` holds every block's initial state; the lists of 8 slots and of 32 by 8 peer lists are uniform. -/
theorem powerOnResetSetsEveryBlock : Obligations.PowerOnResetSetsEveryBlock := by
  intro straps s _
  have hbank : ∀ id, (State.powerOn straps s.pending).bank id = .cleared := fun id => by cases id <;> rfl
  have hslots : ∀ k ∈ Allocator.reset.slots, k = .off := fun k hk => List.eq_of_mem_replicate hk
  have hcolumn : ∀ station slot, (State.powerOn straps s.pending).peerBlocks station slot = [] := fun station slot => by
    simp only [State.peerBlocks, State.powerOn, Allocator.reset, emptyColumn, List.getElem?_replicate]
    split
    · simp only [Option.getD_some, List.getElem?_replicate]
      split <;> rfl
    · rfl
  refine ⟨{ State.powerOn straps s.pending with draws := s.draws }, rfl, rfl, rfl, rfl, hbank, rfl, rfl, rfl, rfl, ?_,
    hcolumn, rfl, rfl, rfl, rfl, rfl, rfl, rfl, rfl, rfl, rfl, rfl, rfl, rfl, rfl, rfl, rfl, rfl, rfl, rfl, rfl, rfl,
    rfl, rfl, rfl⟩
  intro k hk
  obtain rfl := hslots k hk
  exact ⟨rfl, rfl, rfl, rfl, rfl, rfl, rfl, rfl, rfl⟩

/-- A slot that is OFF holds and claims nothing, so that nothing is asked of it (R110, R134). -/
theorem Slot.sound_off : Slot.off.sound := by
  have hheld : Slot.off.heldBlocks = [] := rfl
  have hclaim : Slot.off.claim.block? = none := rfl
  have hcurrent : Slot.off.current = none := rfl
  have hreserve : Slot.off.reserve = none := rfl
  exact ⟨rfl, by simp [hheld], by simp [hclaim], by simp [hheld], by simp [hreserve], by simp [hcurrent],
    fun _ => ⟨rfl, rfl⟩⟩

/-- An empty quote table beside two banks without references is sound (R84, R104). -/
theorem quotesSound_reset : QuotesSound State.reset := by
  refine ⟨by decide, by decide, by decide, by decide, by decide, by decide, fun n => ?_, fun id => by cases id <;> rfl,
    fun id h => ?_⟩
  · exact ⟨fun h => absurd h List.not_mem_nil, fun ⟨_, h, _⟩ => absurd h List.not_mem_nil⟩
  · cases id <;> exact absurd h (by decide)

/-- At reset both banks are EMPTY (R61). -/
theorem banksSound_reset : BanksSound State.reset := by
  rintro state (rfl | rfl) <;> decide

/-- At reset the scale has no zero, no parcel record and no waiting RATE (R22, R104). -/
theorem scaleSound_reset : ScaleSound State.reset :=
  ⟨fun _ => rfl, .inl rfl, rfl, fun h => absurd h (by decide), fun h => absurd rfl h⟩

/-- Every route row starts in its ranges (R137, R150). -/
theorem rowsInRange_reset : RowsInRange State.reset := by
  refine ⟨rfl, fun r hr => ?_⟩
  obtain rfl : r = Row.reset := List.eq_of_mem_replicate hr
  exact ⟨by decide, by decide, by decide, by decide, fun _ => rfl⟩

/-- No request waits for its reply at reset, as no RATE waits and no quote is stored (R104). -/
theorem requestsEarlier_reset : RequestsEarlier State.reset :=
  ⟨fun _ h => absurd h (Option.some_ne_none _).symm, fun _ h => absurd h List.not_mem_nil⟩

/-- Settles O4, condition by condition; every product slot is OFF. -/
theorem conditionsHoldAtReset : Obligations.ConditionsHoldAtReset := by
  have hoff : ∀ k ∈ State.reset.alloc.slots, k = .off := fun k hk => List.eq_of_mem_replicate hk
  refine ⟨rfl, ⟨by decide, .nil⟩, rowsInRange_reset, ?_, quotesSound_reset, banksSound_reset, scaleSound_reset,
    .inl (by decide), requestsEarlier_reset, ?_, rfl, rfl, rfl, rfl⟩
  · intro k hk
    exact hoff k hk ▸ Slot.sound_off
  · intro k hk
    exact hoff k hk ▸ rfl

end Sys2Proof.Machine
end

section
namespace Sys2Proof.Machine

/-! ### STATUS -/

/-- A STATUS goes to the same operation before START and after (R181, R183). -/
theorem takeWhole_status (tag sect : Nat) (s : State) (h : s.link.full 2 = false) :
    takeWhole tag (.status sect) s =
      ((s.taken tag 2).takeStatus (s.nextRef tag) sect).finish s.link.nextId .owedFirst := by
  rw [takeWhole_taken tag (.status sect) s h]
  split <;> rfl

/-- The nine sections are 1 to 9 (R183). -/
theorem report_isSome_iff (sect : Nat) (s : State) : (∃ report, s.report sect = some report) ↔ 1 ≤ sect ∧ sect ≤ 9 := by
  constructor
  · rintro ⟨report, h⟩
    unfold State.report at h
    split at h <;> simp at h ⊢
  · rintro ⟨h1, h9⟩
    interval_cases sect <;> exact ⟨_, rfl⟩

/-- The weight field and the states it is present in (R19). -/
theorem weightField_eq (w : Weighing) :
    w.weightField =
      if w.scale = .empty ∨ w.scale = .settled ∨ w.scale = .moving then w.kept.getLast?.map fun m => rounded m / 10
      else none := by
  unfold Weighing.weightField
  cases w.scale <;> simp

/-- The stable states (R19). -/
theorem stable_eq (x : ScaleState) : x.stable = decide (x = .empty ∨ x = .settled) := by cases x <;> rfl

/-- A bank is LOADING exactly when the search for one finds it. -/
theorem bankIn_map {α : Type} (state : BankState) (x : α) (s : State) :
    ((s.bankIn state).map fun _ => x) =
      if s.tariff.bankA.state = state ∨ s.tariff.bankB.state = state then some x else none := by
  unfold State.bankIn
  split_ifs <;> simp_all

/-- The class of a frame, by the kinds of the class (8.2). -/
theorem frameClass_iff (k : FrameKind) :
    (k.frameClass = .urgent ↔ k ∈ [FrameKind.claim, .held])
      ∧ (k.frameClass = .normal ↔ k ∈ [FrameKind.join, .holds, .spent, .posted, .bagnext, .cutover])
      ∧ (k.frameClass = .low ↔ k = .alive) := by
  cases k <;> decide

/-- LINE counts the frames of each class by their kinds (R170). -/
theorem queuedOf_eq (h : Hall) :
    h.queuedOf .urgent = h.queue.countP (fun q => decide (q.frame.body.kind ∈ [FrameKind.claim, .held]))
      ∧ h.queuedOf .normal = h.queue.countP (fun q =>
          decide (q.frame.body.kind ∈ [FrameKind.join, .holds, .spent, .posted, .bagnext, .cutover]))
      ∧ h.queuedOf .low = h.queue.countP (fun q => decide (q.frame.body.kind = .alive)) := by
  refine ⟨?_, ?_, ?_⟩ <;> refine List.countP_congr fun q _ => ?_ <;>
    simp only [decide_eq_true_eq, Frame.frameClass, frameClass_iff]

/-- SCALE, with the weight and stability written out (R19, R21). -/
theorem report_scale (s : State) :
    s.report 1 = some (.scale
      { scale := s.weighing.scale
        weight :=
          if s.weighing.scale = .empty ∨ s.weighing.scale = .settled ∨ s.weighing.scale = .moving then
            s.weighing.kept.getLast?.map fun m => rounded m / 10
          else none
        stable := decide (s.weighing.scale = .empty ∨ s.weighing.scale = .settled)
        zo := s.weighing.zo, zinit := s.weighing.zinit, settleNumber := s.weighing.settleNumber
        parcel := s.weighing.parcel }) := by
  rw [← weightField_eq, ← stable_eq]
  rfl

/-- The configuration part of a slot's report is absent before START (R183). -/
theorem Slot.report_eq (setup : Option Setup) (k : Slot) :
    k.report setup.isSome =
      { config :=
          if setup = none then none
          else some { letter := k.letter, enabled := k.enabled, first := k.first, count := k.count }
        supply := k.supply, current := k.current.map fun c => (c.block, 1000 - c.next), reserve := k.reserve
        claim := k.claim, cursor := if k.enabled then some k.cursor else none, free := k.marks.count false
        owedHeld := k.owedHeld.length, owedSpent := k.owedSpent.length
        owedHolds := if k.holdsOwed then 1 else 0 } := by
  cases setup <;> cases h : k.holdsOwed <;> simp [Slot.report, h, CurrentBlock.left, Config.blockSize, Slot.free]

/-- Settles O12: the reply from `takeWhole_status`, the sections by computation but where the statement writes a figure out. -/
theorem statusReportsItsSection : Obligations.StatusReportsItsSection := by
  refine ⟨fun tag sect report s hclear hroom hreport => ?_, report_isSome_iff, fun s => ?_⟩
  · have hstatus : (s.taken tag 2).takeStatus (s.nextRef tag) sect =
        (s.taken tag 2).reply (s.nextRef tag) (.done (.status report)) := by
      simp only [State.takeStatus, hreport, State.done]
    show Host.Outcome.next (takeWhole tag (.status sect) s) = _
    rw [takeWhole_status tag sect s hroom, hstatus, finish_reply_taken tag 2 _ _ _ s hclear]
  · refine ⟨report_scale s, rfl, ?_, ?_, ?_, ⟨_, rfl, ?_, ?_⟩, rfl, ⟨_, rfl, ?_⟩, rfl⟩
    · simp only [State.report, State.tariffReport, bankIn_map]
      rfl
    · have hslots : s.alloc.slots.map (Slot.report s.started) = s.alloc.slots.map _ :=
        List.map_congr_left fun k _ => Slot.report_eq s.setup k
      simp only [State.report, State.numbersReport, hslots]
    · have hothers : (fun n : Nat => n != s.hall.station) = fun n => decide (n ≠ s.hall.station) :=
        funext fun n => Bool.eq_iff_iff.mpr (by simp)
      simp only [State.report, State.peersReport, hothers]
      rfl
    · simp only [List.map_map]
      rfl
    · simp only [List.map_map]
      rfl
    · obtain ⟨hurgent, hnormal, hlow⟩ := queuedOf_eq s.hall
      exact ⟨rfl, rfl, rfl, rfl, rfl, hurgent, hnormal, hlow, rfl, rfl, rfl, rfl, rfl, rfl, rfl⟩

end Sys2Proof.Machine
end

section
namespace Sys2Proof.Machine

/-! ### The quote table hears of the scale -/

/-- A transition of the scale has reached the waiting RATE: it is released into a computation, or refused (R87, R88, R89). -/
def State.scaleTold (scale : ScaleState) (s : State) : State :=
  match s.quotes.waiting with
  | none => s
  | some r =>
    match scale with
    | .settled => s.clearWaiting.outcomeStored r.ref (s.compute r.body)
    | .empty => s.clearWaiting.replied r.ref (.refused .noParcel none)
    | .range => s.clearWaiting.replied r.ref (.refused .overload none)
    | .sensor => s.clearWaiting.replied r.ref (.refused .sensor none)
    | .noZero | .moving => s

/-- The end of a quiet event whose last effect is the word of a transition to the quote table. -/
theorem State.Quiet.finish_tellScale {own : Nat} {s : State} (h : s.Quiet own)
    (hearlier : ∀ w, s.quotes.waiting = some w → w.ref.id < own) (scale : ScaleState) (order : RoomOrder) :
    (s.tellScale scale).finish own order = (s.flush own).scaleTold scale := by
  cases hw : s.quotes.waiting with
  | none =>
    have htell : s.tellScale scale = s := by
      cases scale <;> simp only [State.tellScale, State.releaseWaiting, State.refuseWaiting, hw]
    rw [htell, h.finish order]
    simp only [State.scaleTold, State.flush_quotes, hw]
  | some r =>
    have hr : r.ref.id < own := hearlier r hw
    have hclear : s.clearWaiting.Quiet own := h.congr rfl
    have hrefuse (reason : Reason) :
        (s.clearWaiting.refuse r.ref reason).finish own order
          = (s.flush own).clearWaiting.replied r.ref (.refused reason none) :=
      ((hclear.reply hr _).finish order).trans (hclear.flush_reply hr _)
    cases scale <;>
      simp only [State.tellScale, State.releaseWaiting, State.refuseWaiting, scaleRefusal, hw, State.scaleTold,
        State.flush_quotes, hrefuse]
    case settled => exact ((hclear.storeOutcome hr _).finish order).trans (hclear.flush_storeOutcome hr _)
    all_goals exact h.finish order

/-- A transition into NOZERO or MOVING concerns no waiting RATE. -/
theorem enterScale_untold {new : ScaleState} (h : new = .noZero ∨ new = .moving) (s : State) :
    s.enterScale new = s.onWeighing fun w => { w with scale := new } := by
  unfold State.enterScale
  rcases h with rfl | rfl <;> exact ite_self _

/-! ### The WEIGHT notice -/

/-- A WEIGHT notice goes out at the end of this sequence: the gap is over, and the state or the weight differs from the last
reported pair (R20). -/
@[reducible] def Weighing.noticeDue (w : Weighing) : Prop :=
  min (w.noticeGap + 1) 32 = 32 ∧ (w.scale ≠ w.reportedState ∨ w.weightField ≠ w.reportedWeight)

/-- The notice limiter after a sequence, which is no longer converting (R20). -/
def Weighing.gapCounted (w : Weighing) : Weighing :=
  { w with
    noticeGap := if w.noticeDue then 0 else min (w.noticeGap + 1) 32
    reportedState := if w.noticeDue then w.scale else w.reportedState
    reportedWeight := if w.noticeDue then w.weightField else w.reportedWeight
    converting := false }

/-- The sequence has been counted, and the WEIGHT notice that it brings has been sent (R20). -/
def State.weightReported (s : State) : State :=
  if s.weighing.noticeDue then
    (s.onWeighing Weighing.gapCounted).noticed (.weight s.weighing.scale s.weighing.weightField s.weighing.scale.stable)
  else s.onWeighing Weighing.gapCounted

/-- The part after a sequence's notice test and before its sample has an effect. -/
def State.sequenceNoted (s : State) : State := s.weightNotice.onWeighing fun w => { w with converting := false }

/-- The notice test as a whole: the limiter has counted, and the notice is produced where it is due. -/
theorem sequenceNoted_eq (s : State) :
    s.sequenceNoted =
      if s.weighing.noticeDue then
        (s.onWeighing Weighing.gapCounted).notify
          (.weight s.weighing.scale s.weighing.weightField s.weighing.scale.stable)
      else s.onWeighing Weighing.gapCounted := by
  have hnotice : s.weightNotice =
      if s.weighing.noticeDue then
        (s.onWeighing fun w =>
          { w with reportedState := w.scale, reportedWeight := w.weightField, noticeGap := 0 }).notify
            (.weight s.weighing.scale s.weighing.weightField s.weighing.scale.stable)
      else s.onWeighing fun w => { w with noticeGap := min (w.noticeGap + 1) 32 } := rfl
  rw [State.sequenceNoted, hnotice]
  by_cases hdue : s.weighing.noticeDue
  · simp only [if_pos hdue, State.onWeighing, Weighing.gapCounted]
    rfl
  · simp only [if_neg hdue, State.onWeighing, Weighing.gapCounted]

/-- The notice test concerns the limiter, the counter link and the event's messages alone. -/
@[simp] theorem sequenceNoted_weighing (s : State) : s.sequenceNoted.weighing = s.weighing.gapCounted := by
  rw [sequenceNoted_eq]
  split <;> rfl

@[simp] theorem sequenceNoted_quotes (s : State) : s.sequenceNoted.quotes = s.quotes := by
  rw [sequenceNoted_eq]
  split <;> rfl

/-- Between two events nothing is due, and a notice is no reply. -/
theorem sequenceNoted_quiet (own : Nat) {s : State} (h : s.scratch = .clear) : s.sequenceNoted.Quiet own := by
  have hquiet : (s.onWeighing Weighing.gapCounted).Quiet own := State.quiet_of_clear h
  rw [sequenceNoted_eq]
  split
  · exact hquiet.notify _
  · exact hquiet

/-- The flush of the notice test, in the words of the statements. -/
theorem flush_sequenceNoted (own : Nat) {s : State} (h : s.scratch = .clear) :
    s.sequenceNoted.flush own = s.weightReported := by
  have hclear : (s.onWeighing Weighing.gapCounted).scratch = .clear := h
  rw [sequenceNoted_eq, State.weightReported]
  split
  · rw [(State.quiet_of_clear hclear).flush_notify, flush_clear own _ hclear]
  · exact flush_clear own _ hclear

/-- The end of a sequence that did nothing further but change the front end. -/
theorem finish_onWeighing_noted (f : Weighing → Weighing) {s : State} (h : s.scratch = .clear) :
    (s.sequenceNoted.onWeighing f).finish s.link.nextId .owedFirst = s.weightReported.onWeighing f := by
  have hquiet : (s.sequenceNoted.onWeighing f).Quiet s.link.nextId := (sequenceNoted_quiet s.link.nextId h).congr rfl
  rw [hquiet.finish, ← flush_sequenceNoted s.link.nextId h]
  rfl

/-- The notice leaves the quote table. -/
@[simp] theorem weightReported_quotes (s : State) : s.weightReported.quotes = s.quotes := by
  unfold State.weightReported
  split <;> rfl

/-- A further change of the front end commutes with the notice. -/
theorem onWeighing_weightReported (f : Weighing → Weighing) (s : State) :
    s.weightReported.onWeighing f =
      if s.weighing.noticeDue then
        (s.onWeighing fun w => f w.gapCounted).noticed
          (.weight s.weighing.scale s.weighing.weightField s.weighing.scale.stable)
      else s.onWeighing fun w => f w.gapCounted := by
  unfold State.weightReported
  split <;> rfl

/-- SEQUENCE_END with a configuration: the notice test, the disposal of the sequence, and the end of the event (R2 to R8, R20). -/
theorem exec_sequenceEnd (counts : List Int) (reference : Int) {cfg : Setup} {s : State} (hcfg : s.setup = some cfg) :
    exec (.sequenceEnd counts reference) s =
      .next ((if validSequence cfg counts reference then s.sequenceNoted.validSample cfg counts
        else s.sequenceNoted.invalidSequence).finish s.link.nextId .owedFirst) := by
  show Host.Outcome.next ((s.sequenceEnd counts reference).finish _ _) = _
  simp only [State.sequenceEnd, hcfg]
  rfl

/-- Validity of a sequence: the reference within 3% of the nominal count, no enabled cell at an end of its range (R3). -/
theorem validSequence_iff (cfg : Setup) (counts : List Int) (reference : Int) :
    validSequence cfg counts reference = true ↔
      100 * (reference - cfg.nominal).natAbs ≤ 3 * cfg.nominal
        ∧ ∀ c ∈ cfg.cells, counts.getD (c.channel - 1) 0 ≠ -32768 ∧ counts.getD (c.channel - 1) 0 ≠ 32767 := by
  simp only [validSequence, Bool.and_eq_true, decide_eq_true_eq, List.all_eq_true]

/-- An invalid sequence that ends a run in no way but by its own count (R4, R5). -/
theorem invalidSequence_short {s : State} (h : s.weighing.scale = .sensor ∨ s.weighing.invalidRun + 1 < 64) :
    s.invalidSequence =
      if s.weighing.scale = .sensor then s.onWeighing fun w => { w with validRun := 0 }
      else s.onWeighing fun w => { w with invalidRun := w.invalidRun + 1 } := by
  unfold State.invalidSequence
  split
  · rfl
  · rename_i hscale
    have hrun : s.weighing.invalidRun + 1 < 64 := h.resolve_left hscale
    exact if_neg (Nat.not_le.mpr hrun)

/-- The 64th invalid sequence in succession brings SENSOR (R4). -/
theorem invalidSequence_sensor {s : State} (hscale : s.weighing.scale ≠ .sensor) (hrun : 64 ≤ s.weighing.invalidRun + 1) :
    s.invalidSequence =
      (s.onWeighing fun w => { w.emptyRing with invalidRun := 64, validRun := 0, scale := .sensor }).tellScale .sensor := by
  unfold State.invalidSequence
  exact (if_neg hscale).trans ((if_pos hrun).trans (if_neg hscale))

/-- A valid sequence in SENSOR lengthens the valid run, and the eighth ends SENSOR (R5). -/
theorem validSample_sensor (cfg : Setup) (counts : List Int) {s : State} (hscale : s.weighing.scale = .sensor) :
    s.validSample cfg counts =
      if s.weighing.validRun + 1 < 8 then s.onWeighing fun w => { w with validRun := w.validRun + 1 }
      else s.onWeighing fun w =>
        { w.emptyRing with
          invalidRun := 0, validRun := 0, scale := if w.zinit.isSome then .moving else .noZero } := by
  have hnew : (if s.weighing.zinit.isSome then ScaleState.moving else .noZero) = .noZero
      ∨ (if s.weighing.zinit.isSome then ScaleState.moving else .noZero) = .moving := by
    cases s.weighing.zinit <;> simp
  unfold State.validSample
  rw [if_pos hscale]
  by_cases hrun : s.weighing.validRun + 1 < 8
  · rw [if_pos hrun]
    exact if_neg (Nat.not_le.mpr hrun)
  · rw [if_neg hrun]
    exact (if_pos (Nat.not_lt.mp hrun)).trans (enterScale_untold hnew _)

/-- Settles O17: the notice test first (`flush_sequenceNoted`), then what the sequence does, case by case. -/
theorem sensorFaultAndRecovery : Obligations.SensorFaultAndRecovery := by
  intro counts reference cfg s hcfg hclear hearlier w invalid gap due u v
  have hend : ∀ f, (s.sequenceNoted.onWeighing f).finish s.link.nextId .owedFirst = v.onWeighing f := fun f =>
    finish_onWeighing_noted f hclear
  have hinvalid : invalid ↔ ¬ validSequence cfg counts reference = true := by
    rw [validSequence_iff]
    simp only [invalid]
    constructor
    · rintro (h | ⟨c, hc, h⟩) ⟨href, hcells⟩
      · omega
      · exact h.elim (hcells c hc).1 (hcells c hc).2
    · intro h
      by_contra hno
      rw [not_or] at hno
      obtain ⟨href, hcells⟩ := hno
      exact h ⟨by omega, fun c hc => ⟨fun hx => hcells ⟨c, hc, .inl hx⟩, fun hx => hcells ⟨c, hc, .inr hx⟩⟩⟩
  have hweighing : s.sequenceNoted.weighing = w.gapCounted := sequenceNoted_weighing s
  have hscale : s.sequenceNoted.weighing.scale = w.scale := by rw [hweighing]; rfl
  have hrun : s.sequenceNoted.weighing.invalidRun = w.invalidRun := by rw [hweighing]; rfl
  have hvalid : s.sequenceNoted.weighing.validRun = w.validRun := by rw [hweighing]; rfl
  rw [exec_sequenceEnd counts reference hcfg]
  refine ⟨fun hbad => ?_, fun hgood hsensor => ?_⟩
  · rw [if_neg (hinvalid.mp hbad)]
    refine ⟨fun hsensor => ?_, fun hsensor h63 => ?_, fun hsensor h64 => ?_⟩
    · rw [invalidSequence_short (.inl (hscale.trans hsensor)), if_pos (hscale.trans hsensor), hend]
    · rw [invalidSequence_short (.inr (by omega)), if_neg (hscale ▸ hsensor), hend]
    · have hquiet : ∀ f, (s.sequenceNoted.onWeighing f).Quiet s.link.nextId := fun f =>
        (sequenceNoted_quiet s.link.nextId hclear).congr rfl
      have hlost : ∀ f, (s.sequenceNoted.onWeighing f).flush s.link.nextId = v.onWeighing f := fun f =>
        ((hquiet f).finish .owedFirst).symm.trans (hend f)
      have hquotes : v.quotes = s.quotes := weightReported_quotes s
      rw [invalidSequence_sensor (hscale ▸ hsensor) (by omega),
        (hquiet _).finish_tellScale (by simpa using hearlier.1), hlost]
      simp only [State.scaleTold, State.onWeighing_quotes, hquotes]
      cases s.quotes.waiting <;> rfl
  · rw [if_pos (not_not.mp (mt hinvalid.mpr hgood)), validSample_sensor cfg counts (hscale.trans hsensor), hvalid]
    refine ⟨fun h7 => ?_, fun h8 => ?_⟩
    · rw [if_pos h7, hend]
    · rw [if_neg (by omega), hend]
      rfl

/-! ### A sample that completes no half -/

/-- A sample stands at the end of the filling half; the other half stays (R7). -/
theorem push_eq (x : Int) (w : Weighing) :
    w.push x =
      { w with
        firstHalf := if w.filling = .first then w.firstHalf ++ [x] else w.firstHalf
        secondHalf := if w.filling = .first then w.secondHalf else w.secondHalf ++ [x] } := by
  unfold Weighing.push
  cases hfilling : w.filling <;> simp only [if_true, if_false, reduceCtorEq]

/-- The filling half after a sample. -/
theorem fillingHalf_push (x : Int) (w : Weighing) : (w.push x).fillingHalf = w.fillingHalf ++ [x] := by
  unfold Weighing.push Weighing.fillingHalf
  cases hfilling : w.filling <;> rfl

/-- A valid sequence outside SENSOR: the invalid run ends, and the sample enters the ring (R4, R6, R7). -/
def Weighing.sampled (x : Int) (w : Weighing) : Weighing := ({ w with invalidRun := 0 } : Weighing).push x

/-- Outside SENSOR a valid sequence brings a sample, and the eighth of a half completes it (R4, R6, R7, R8). -/
theorem validSample_ring (cfg : Setup) (counts : List Int) {s : State} (hscale : s.weighing.scale ≠ .sensor) :
    s.validSample cfg counts =
      let x := sampleWeight cfg counts s.weighing.zo
      if s.weighing.fillingHalf.length + 1 < 8 then s.onWeighing (Weighing.sampled x)
      else ((s.onWeighing (Weighing.sampled x)).onWeighing (Weighing.completeHalf cfg)).halfComplete cfg := by
  have hfilled : ∀ x, (s.weighing.sampled x).fillingHalf.length = s.weighing.fillingHalf.length + 1 := fun x => by
    rw [Weighing.sampled, fillingHalf_push, List.length_append]
    rfl
  unfold State.validSample
  rw [if_neg hscale]
  by_cases hlen : s.weighing.fillingHalf.length + 1 < 8
  · exact (if_neg (Nat.not_le.mpr ((hfilled _).trans_lt hlen))).trans (if_pos hlen).symm
  · exact (if_pos ((Nat.not_lt.mp hlen).trans_eq (hfilled _).symm)).trans (if_neg hlen).symm

/-- Settles O15: the notice test moves no field of the ring (`sequenceNoted`), then the sample enters (`validSample_ring`). -/
theorem validSampleEntersTheRing : Obligations.ValidSampleEntersTheRing := by
  refine ⟨fun w => ⟨weightField_eq w, stable_eq w.scale⟩, fun s hstarted => ?_, ?_⟩
  · show Host.Outcome.next (if s.started then _ else s) = _
    rw [if_pos hstarted]
    rfl
  · intro counts reference cfg s hcfg hclear hscale href hcells hlen w x gap u
    have hweighing : s.sequenceNoted.weighing = w.gapCounted := sequenceNoted_weighing s
    have hx : sampleWeight cfg counts s.sequenceNoted.weighing.zo = x := by rw [hweighing]; rfl
    have hhalf : s.sequenceNoted.weighing.fillingHalf = w.fillingHalf := by rw [hweighing]; rfl
    have hsample : s.sequenceNoted.validSample cfg counts = s.sequenceNoted.onWeighing (Weighing.sampled x) := by
      rw [validSample_ring cfg counts (by rw [hweighing]; exact hscale), hx, hhalf]
      exact if_pos hlen
    have hring : w.gapCounted.sampled x =
        { u.weighing with
          noticeGap := w.gapCounted.noticeGap
          reportedState := w.gapCounted.reportedState, reportedWeight := w.gapCounted.reportedWeight } :=
      push_eq x _
    rw [exec_sequenceEnd counts reference hcfg, if_pos ((validSequence_iff _ _ _).mpr ⟨href, hcells⟩), hsample,
      finish_onWeighing_noted _ hclear, onWeighing_weightReported]
    by_cases hdue : w.noticeDue
    · have hdueRing : w.gapCounted.sampled x =
          { u.weighing with reportedState := w.scale, reportedWeight := w.weightField, noticeGap := 0 } :=
        hring.trans (by simp only [Weighing.gapCounted, if_pos hdue])
      rw [if_pos hdue, if_pos hdue]
      exact congrArg (fun y => Host.Outcome.next ((s.onWeighing fun _ => y).noticed _)) hdueRing
    · have hgapRing : w.gapCounted.sampled x = u.weighing :=
        hring.trans (by simp only [Weighing.gapCounted, if_neg hdue]; rfl)
      rw [if_neg hdue, if_neg hdue]
      exact congrArg (fun y => Host.Outcome.next (s.onWeighing fun _ => y)) hgapRing

end Sys2Proof.Machine
end

section
namespace Sys2Proof.Machine

/-! ### The kept half-means -/

/-- What is kept is the newest end of the list, `n` entries where there are as many (R8). -/
theorem keepNewest_spec (n : Nat) (l : List Int) :
    ∃ older, l = older ++ keepNewest n l ∧ (keepNewest n l).length = min n l.length := by
  refine ⟨l.take (l.length - n), (List.take_append_drop _ l).symm, ?_⟩
  rw [keepNewest, List.length_drop]
  omega

/-- The newest entry is among those kept, when any are (R8). -/
theorem getLast?_keepNewest {n : Nat} (hn : 0 < n) (l : List Int) (m : Int) : (keepNewest n (l ++ [m])).getLast? = some m := by
  rw [keepNewest, List.getLast?_drop, if_neg (by simp; omega), List.getLast?_concat]

/-- The spread of a list is its largest less its smallest (R10). -/
theorem spread_eq (l : List Int) (low high : Int) (hlow : low ∈ l) (hhigh : high ∈ l)
    (hbounds : ∀ x ∈ l, low ≤ x ∧ x ≤ high) : spread l = high - low := by
  cases l with
  | nil => exact absurd hlow List.not_mem_nil
  | cons x xs =>
    have hmax : (x :: xs).max? = some high := List.max?_eq_some_iff.mpr ⟨hhigh, fun y hy => (hbounds y hy).2⟩
    have hmin : (x :: xs).min? = some low := List.min?_eq_some_iff.mpr ⟨hlow, fun y hy => (hbounds y hy).1⟩
    rw [List.max?_cons', Option.some.injEq] at hmax
    rw [List.min?_cons', Option.some.injEq] at hmin
    rw [spread, hmax, hmin]

/-- The zero limit: within 8,000 dg of Zinit (R12). -/
theorem withinZeroLimit_iff (w : Weighing) (zo : Int) :
    w.withinZeroLimit zo = true ↔ ∃ z, w.zinit = some z ∧ z - 8000 ≤ zo ∧ zo ≤ z + 8000 := by
  unfold Weighing.withinZeroLimit
  cases w.zinit <;> simp [Config.zeroLimit]

/-! ### The evaluation at the completion of a half -/

/-- The scale state after a half-mean `m`, by the present state and the settled condition (R11, R13). -/
def decideScale (present : ScaleState) (m : Int) (settled : Bool) : ScaleState :=
  match present with
  | .noZero => if settled = true ∧ -40000 ≤ m ∧ m ≤ 40000 then .empty else .noZero
  | .sensor => .sensor
  | .range => if m > 400900 ∨ m < -400 then .range else .moving
  | .empty | .moving | .settled =>
    if m > 400900 ∨ m < -400 then .range
    else if settled = true then (if rounded m ≤ 200 then .empty else .settled)
    else .moving

/-- The scale state that the completion of a half leads to; the newest half-mean is kept already (R11, R13). -/
def Weighing.decided (cfg : Setup) (w : Weighing) : ScaleState :=
  decideScale w.scale w.newest (settledCondition cfg w.kept)

/-- What the held samples and half-means are reduced by: the initial zero, or a step of zero tracking in EMPTY (R11, R12, R17). -/
def Weighing.zeroStep (cfg : Setup) (w : Weighing) : Int :=
  if w.scale = .noZero then (if w.decided cfg = .empty then w.newest else 0)
  else if w.decided cfg = .empty ∧ -10 ≤ w.newest ∧ w.newest ≤ 10 ∧ w.withinZeroLimit (w.zo + w.newest) = true then w.newest
  else 0

/-- The front end after the evaluation: scale state, zero, settle number and parcel record; `slot` is the gauge's record (R11, R12,
R13, R14, R15, R17). -/
def Weighing.evaluated (cfg : Setup) (slot : Option Measurement) (w : Weighing) : Weighing :=
  { w.shiftZero (w.zeroStep cfg) with
    scale := w.decided cfg
    zo := if w.scale = .noZero ∧ w.decided cfg = .empty then w.newest else w.zo + w.zeroStep cfg
    zinit := if w.scale = .noZero ∧ w.decided cfg = .empty then some w.newest else w.zinit
    settleNumber :=
      if w.decided cfg = .settled ∧ w.scale ≠ .settled then (w.settleNumber + 1) % 65536 else w.settleNumber
    parcel :=
      if w.decided cfg = .settled then
        if w.scale = .settled then w.parcel.map fun p => { p with weight := (rounded w.newest / 10).toNat }
        else some
          { settleNumber := (w.settleNumber + 1) % 65536, weight := (rounded w.newest / 10).toNat, dims := slot }
      else w.parcel }

/-- The part after the evaluation, before the quote table hears of a transition: an entry into SETTLED takes the gauge's record
(R14, R37). -/
def State.halfDecided (cfg : Setup) (s : State) : State :=
  { s with
    weighing := s.weighing.evaluated cfg s.gauge.slot
    gauge :=
    { s.gauge with
      slot := if s.weighing.decided cfg = .settled ∧ s.weighing.scale ≠ .settled then none else s.gauge.slot } }

/-- A shift by nothing. -/
theorem shiftZero_zero (w : Weighing) : w.shiftZero 0 = w := by
  simp [Weighing.shiftZero]

/-- Zero tracking as one shift, by 0 where there is none (R17). -/
theorem trackZero_eq (s : State) :
    s.trackZero = s.onWeighing (Weighing.shiftZero
      (if -10 ≤ s.weighing.newest ∧ s.weighing.newest ≤ 10
          ∧ s.weighing.withinZeroLimit (s.weighing.zo + s.weighing.newest) = true then s.weighing.newest else 0)) := by
  have hzero : s.onWeighing (Weighing.shiftZero 0) = s := by rw [State.onWeighing, shiftZero_zero]
  unfold State.trackZero
  by_cases h0 : s.weighing.newest = 0
  · rw [if_neg (by simp [h0]), h0, ite_self, hzero]
  · simp only [ne_eq, h0, not_false_eq_true, true_and]
    split
    · rfl
    · exact hzero.symm

/-- Zero tracking after the word to the quote table, and before it. -/
theorem trackZero_tellScale_empty (s : State) : (s.tellScale .empty).trackZero = s.trackZero.tellScale .empty := by
  rw [trackZero_eq, trackZero_eq]
  unfold State.tellScale State.refuseWaiting
  cases hw : s.quotes.waiting <;> simp only [State.onWeighing_quotes, hw]
  rfl

/-- Where the zero does not move and the scale does not come to rest on a parcel, the evaluation sets the scale state alone. -/
theorem halfDecided_plain (cfg : Setup) {s : State} (hstep : s.weighing.zeroStep cfg = 0)
    (hsettled : s.weighing.decided cfg ≠ .settled) (hzero : ¬ (s.weighing.scale = .noZero ∧ s.weighing.decided cfg = .empty)) :
    s.halfDecided cfg = s.onWeighing fun w => { w with scale := s.weighing.decided cfg } := by
  simp only [State.halfDecided, Weighing.evaluated, State.onWeighing, hstep, shiftZero_zero, hsettled, hzero, false_and,
    if_false, Int.add_zero]

/-- Where a transition changes the scale state alone, entering it is the whole evaluation. -/
theorem enterScale_decided (cfg : Setup) {s : State} {new : ScaleState} (hnew : s.weighing.decided cfg = new)
    (hstep : s.weighing.zeroStep cfg = 0) (hsettled : new ≠ .settled)
    (hzero : ¬ (s.weighing.scale = .noZero ∧ new = .empty)) :
    s.enterScale new =
      if s.weighing.decided cfg = s.weighing.scale then s.halfDecided cfg
      else (s.halfDecided cfg).tellScale (s.weighing.decided cfg) := by
  subst hnew
  rw [halfDecided_plain cfg hstep hsettled hzero, State.enterScale]
  by_cases h : s.weighing.decided cfg = s.weighing.scale
  · rw [if_pos h, if_pos h.symm]
  · rw [if_neg h, if_neg (Ne.symm h)]

/-- The initial zero test, as one evaluation (R11). -/
theorem initialZero_eq (cfg : Setup) {s : State} (h : s.weighing.scale = .noZero) :
    s.initialZero cfg =
      if s.weighing.decided cfg = s.weighing.scale then s.halfDecided cfg
      else (s.halfDecided cfg).tellScale (s.weighing.decided cfg) := by
  by_cases hfound : settledCondition cfg s.weighing.kept = true ∧ -40000 ≤ s.weighing.newest ∧ s.weighing.newest ≤ 40000
  · have hnew : s.weighing.decided cfg = .empty := by simp only [Weighing.decided, decideScale, h, hfound, and_self, if_true]
    have hdecided : s.halfDecided cfg =
        s.onWeighing fun w => { w.shiftZero w.newest with zinit := some w.newest, zo := w.newest, scale := .empty } := by
      simp only [State.halfDecided, Weighing.evaluated, Weighing.zeroStep, State.onWeighing, hnew, h, and_self, if_true,
        reduceCtorEq, false_and, if_false]
      rfl
    rw [hnew, hdecided, if_neg (by simp [h])]
    exact (if_pos hfound).trans (if_neg (by simp [Weighing.shiftZero, h]))
  · have hnew : s.weighing.decided cfg = .noZero := by simp only [Weighing.decided, decideScale, h, hfound, if_false]
    have hstep : s.weighing.zeroStep cfg = 0 := by simp [Weighing.zeroStep, h, hnew]
    rw [if_pos (hnew.trans h.symm), halfDecided_plain cfg hstep (by simp [hnew]) (by simp [hnew]), hnew, ← h]
    exact if_neg hfound

/-- The completion of a half leads into SENSOR from nowhere (R4, R13). -/
theorem decided_ne_sensor (cfg : Setup) {w : Weighing} (h : w.scale ≠ .sensor) : w.decided cfg ≠ .sensor := by
  unfold Weighing.decided decideScale
  cases hscale : w.scale
  case sensor => exact absurd hscale h
  all_goals
    dsimp only
    split_ifs <;> decide

/-- The evaluation of a zeroed state in the order of R13. -/
theorem decided_zeroed (cfg : Setup) {w : Weighing} (hzero : w.scale ≠ .noZero) (hsensor : w.scale ≠ .sensor) :
    w.decided cfg =
      if w.newest > 400900 ∨ w.newest < -400 then .range
      else if w.scale = .range then .moving
      else if settledCondition cfg w.kept = true then (if rounded w.newest ≤ 200 then .empty else .settled)
      else .moving := by
  unfold Weighing.decided decideScale
  cases hscale : w.scale <;> simp_all

/-- In a zeroed state the zero moves in EMPTY alone (R17). -/
theorem zeroStep_zeroed (cfg : Setup) {w : Weighing} (hzero : w.scale ≠ .noZero) (hempty : w.decided cfg ≠ .empty) :
    w.zeroStep cfg = 0 := by
  rw [Weighing.zeroStep, if_neg hzero, if_neg (fun h => hempty h.1)]

/-- A half that leads a zeroed state into EMPTY, or leaves it there: the scale state and zero tracking (R13, R17). -/
theorem enterScale_empty_trackZero (cfg : Setup) {s : State} (hzero : s.weighing.scale ≠ .noZero)
    (hnew : s.weighing.decided cfg = .empty) :
    (s.enterScale .empty).trackZero =
      if s.weighing.decided cfg = s.weighing.scale then s.halfDecided cfg
      else (s.halfDecided cfg).tellScale (s.weighing.decided cfg) := by
  have hdecided : s.halfDecided cfg = (s.onWeighing fun w => { w with scale := .empty }).trackZero := by
    rw [trackZero_eq]
    simp only [State.halfDecided, Weighing.evaluated, Weighing.zeroStep, State.onWeighing, hnew, hzero, true_and, if_false,
      false_and, reduceCtorEq]
    rfl
  rw [hnew, hdecided, State.enterScale]
  by_cases h : s.weighing.scale = .empty
  · rw [if_pos h, if_pos h.symm]
  · rw [if_neg h, if_neg (Ne.symm h), trackZero_tellScale_empty]

/-- A half that leaves the scale SETTLED: the weight of the parcel record is that of the newest half-mean (R15). -/
theorem updateParcel_eq (cfg : Setup) {s : State} (h : s.weighing.scale = .settled) (hnew : s.weighing.decided cfg = .settled) :
    s.updateParcel = s.halfDecided cfg := by
  have hstep : s.weighing.zeroStep cfg = 0 := zeroStep_zeroed cfg (by simp [h]) (by simp [hnew])
  simp only [State.halfDecided, Weighing.evaluated, hstep, shiftZero_zero, State.updateParcel, State.onWeighing, h, hnew,
    if_true, ne_eq, not_true, and_false, if_false, reduceCtorEq, Int.add_zero]

/-- An entry into SETTLED: settle number, parcel record and the gauge's slot (R14, R37). -/
theorem enterSettled_eq (cfg : Setup) {s : State} (hzero : s.weighing.scale ≠ .noZero) (h : s.weighing.scale ≠ .settled)
    (hnew : s.weighing.decided cfg = .settled) : s.enterSettled = (s.halfDecided cfg).tellScale .settled := by
  have hstep : s.weighing.zeroStep cfg = 0 := zeroStep_zeroed cfg hzero (by simp [hnew])
  have hdecided : s.halfDecided cfg =
      { s with
        weighing :=
        { s.weighing with
          scale := .settled, settleNumber := (s.weighing.settleNumber + 1) % 65536
          parcel := some
            { settleNumber := (s.weighing.settleNumber + 1) % 65536,
              weight := (rounded s.weighing.newest / 10).toNat, dims := s.gauge.slot } }
        gauge := { s.gauge with slot := none } } := by
    simp only [State.halfDecided, Weighing.evaluated, hstep, shiftZero_zero, hnew, h, hzero, if_true,
      ne_eq, not_false_eq_true, and_self, if_false, false_and, Int.add_zero]
  rw [hdecided]
  exact if_neg h

/-- The evaluation in a zeroed state, with the word to the quote table last (R13, R14, R15, R17). -/
theorem evaluate_eq (cfg : Setup) {s : State} (hzero : s.weighing.scale ≠ .noZero) (hsensor : s.weighing.scale ≠ .sensor) :
    s.evaluate cfg =
      if s.weighing.decided cfg = s.weighing.scale then s.halfDecided cfg
      else (s.halfDecided cfg).tellScale (s.weighing.decided cfg) := by
  have hdecided := decided_zeroed cfg hzero hsensor
  have henter : ∀ new, s.weighing.decided cfg = new → new ≠ .settled → new ≠ .empty → s.enterScale new = _ :=
    fun new hnew hsettled hempty =>
      enterScale_decided cfg hnew (zeroStep_zeroed cfg hzero (hnew ▸ hempty)) hsettled fun h => hzero h.1
  unfold State.evaluate
  by_cases hload : s.weighing.newest > 400900 ∨ s.weighing.newest < -400
  · rw [if_pos hload] at hdecided
    exact (if_pos hload).trans (henter .range hdecided (by decide) (by decide))
  rw [if_neg hload] at hdecided
  refine (if_neg hload).trans ?_
  by_cases hrange : s.weighing.scale = .range
  · rw [if_pos hrange] at hdecided
    exact (if_pos hrange).trans (henter .moving hdecided (by decide) (by decide))
  rw [if_neg hrange] at hdecided
  refine (if_neg hrange).trans ?_
  by_cases hstill : settledCondition cfg s.weighing.kept = true
  · rw [if_pos hstill] at hdecided
    refine (if_pos hstill).trans ?_
    by_cases hlight : rounded s.weighing.newest ≤ 200
    · rw [if_pos hlight] at hdecided
      exact (if_pos hlight).trans (enterScale_empty_trackZero cfg hzero hdecided)
    rw [if_neg hlight] at hdecided
    refine (if_neg hlight).trans ?_
    by_cases h : s.weighing.scale = .settled
    · rw [if_pos h, hdecided, if_pos h.symm, updateParcel_eq cfg h hdecided]
    · rw [if_neg h, hdecided, if_neg (Ne.symm h), enterSettled_eq cfg hzero h hdecided]
  · rw [if_neg hstill] at hdecided
    exact (if_neg hstill).trans (henter .moving hdecided (by decide) (by decide))

/-- The completion of a half outside SENSOR: the evaluation, and the word of a transition to the quote table (R8, R13). -/
theorem halfComplete_eq (cfg : Setup) {s : State} (h : s.weighing.scale ≠ .sensor) :
    s.halfComplete cfg =
      if s.weighing.decided cfg = s.weighing.scale then s.halfDecided cfg
      else (s.halfDecided cfg).tellScale (s.weighing.decided cfg) := by
  cases hscale : s.weighing.scale
  case sensor => exact absurd hscale h
  case noZero =>
    rw [← hscale, ← initialZero_eq cfg hscale]
    simp only [State.halfComplete, hscale]
  all_goals
    rw [← hscale, ← evaluate_eq cfg (by simp [hscale]) h]
    simp only [State.halfComplete, hscale]

/-- The newest of the kept half-means is that of the half just completed (R8). -/
theorem getLast?_completeHalf {cfg : Setup} (h : 0 < cfg.settleCount) (w : Weighing) :
    (w.completeHalf cfg).kept.getLast? = some (halfMean w.fillingHalf) := by
  unfold Weighing.completeHalf Weighing.fillingHalf
  cases w.filling <;> exact getLast?_keepNewest h _ _

/-- The eighth sample: the filled half stays, the other one is emptied and filled next, and the half-mean is kept (R7, R8). -/
theorem completeHalf_sampled (cfg : Setup) (x : Int) (w : Weighing) :
    (w.sampled x).completeHalf cfg =
      { w with
        invalidRun := 0
        firstHalf := if w.filling = .first then w.firstHalf ++ [x] else []
        secondHalf := if w.filling = .first then [] else w.secondHalf ++ [x]
        filling := if w.filling = .first then .second else .first
        kept := keepNewest cfg.settleCount (w.kept ++ [halfMean (w.fillingHalf ++ [x])]) } := by
  unfold Weighing.completeHalf Weighing.sampled Weighing.push Weighing.fillingHalf
  cases w.filling <;> rfl

/-- The evaluation of a half touches the front end and the gauge alone, and so commutes with the notice. -/
theorem halfDecided_weightReported (cfg : Setup) (f : Weighing → Weighing) (s : State) :
    (s.weightReported.onWeighing f).halfDecided cfg =
      if s.weighing.noticeDue then
        ((s.onWeighing fun w => f w.gapCounted).halfDecided cfg).noticed
          (.weight s.weighing.scale s.weighing.weightField s.weighing.scale.stable)
      else (s.onWeighing fun w => f w.gapCounted).halfDecided cfg := by
  rw [onWeighing_weightReported]
  split <;> rfl

/-- The end of a sequence that completed a half outside SENSOR: the evaluation, and a transition's effect on a waiting RATE. -/
theorem finish_halfComplete (cfg : Setup) (f : Weighing → Weighing) {s : State} (hclear : s.scratch = .clear)
    (hearlier : RequestsEarlier s) (hscale : (f s.weighing.gapCounted).scale ≠ .sensor) :
    ((s.sequenceNoted.onWeighing f).halfComplete cfg).finish s.link.nextId .owedFirst =
      let y := f s.weighing.gapCounted
      let v := (s.weightReported.onWeighing f).halfDecided cfg
      if y.decided cfg = y.scale then v else v.scaleTold (y.decided cfg) := by
  have hweighing : (s.sequenceNoted.onWeighing f).weighing = f s.weighing.gapCounted := by simp
  have hquiet : ((s.sequenceNoted.onWeighing f).halfDecided cfg).Quiet s.link.nextId :=
    (sequenceNoted_quiet s.link.nextId hclear).congr rfl
  have hflush : ((s.sequenceNoted.onWeighing f).halfDecided cfg).flush s.link.nextId =
      (s.weightReported.onWeighing f).halfDecided cfg := by
    rw [← flush_sequenceNoted s.link.nextId hclear]
    rfl
  have hwaiting : ((s.sequenceNoted.onWeighing f).halfDecided cfg).quotes = s.quotes := sequenceNoted_quotes s
  rw [halfComplete_eq cfg (by rwa [hweighing]), hweighing]
  by_cases h : (f s.weighing.gapCounted).decided cfg = (f s.weighing.gapCounted).scale
  · rw [if_pos h, hquiet.finish, hflush]
    exact (if_pos h).symm
  · rw [if_neg h, hquiet.finish_tellScale (by simpa only [hwaiting] using hearlier.1), hflush]
    exact (if_neg h).symm

/-- Settles O16: the half's completion is written out, its evaluation is `halfComplete_eq`, and the fields agree one by one. -/
theorem halfCompletionDecidesTheScale : Obligations.HalfCompletionDecidesTheScale := by
  refine ⟨keepNewest_spec, spread_eq, withinZeroLimit_iff, ?_⟩
  intro counts reference cfg s hcfg hclear hearlier hcount hscale href hcells hlen w x m kept settled scale d first second gap
    due u v
  have hweighing : s.sequenceNoted.weighing = w.gapCounted := sequenceNoted_weighing s
  have hx : sampleWeight cfg counts s.sequenceNoted.weighing.zo = x := by rw [hweighing]; rfl
  have hhalf : s.sequenceNoted.weighing.fillingHalf.length = 7 := by rw [hweighing]; exact hlen
  have hsample : s.sequenceNoted.validSample cfg counts =
      (s.sequenceNoted.onWeighing fun y => (y.sampled x).completeHalf cfg).halfComplete cfg := by
    rw [validSample_ring cfg counts (by rw [hweighing]; exact hscale), hx, hhalf]
    exact if_neg (by decide)
  have hfilled : (w.gapCounted.sampled x).fillingHalf = w.fillingHalf ++ [x] := fillingHalf_push x _
  let y : Weighing := (w.gapCounted.sampled x).completeHalf cfg
  have hlast : y.kept.getLast? = some m := by
    rw [getLast?_completeHalf (by omega), hfilled]
    rfl
  have hy : y =
      { w.gapCounted with
        invalidRun := 0, firstHalf := first, secondHalf := second, kept := kept
        filling := if w.filling = .first then .second else .first } :=
    completeHalf_sampled cfg x w.gapCounted
  have hnewest : y.newest = m := by rw [Weighing.newest, hlast, Option.getD_some]
  have hsettled : settledCondition cfg y.kept = settled := by
    simp only [settledCondition, hlast]
    rw [hy]
    rfl
  have hyscale : y.scale = w.scale := by rw [hy]; rfl
  have hdecided : y.decided cfg = scale :=
    calc y.decided cfg = decideScale w.scale m settled := by rw [Weighing.decided, hyscale, hnewest, hsettled]
      _ = scale := rfl
  have hlimit : y.withinZeroLimit = w.withinZeroLimit := by rw [hy]; rfl
  have hzo : y.zo = w.zo := by rw [hy]; rfl
  have hstep : y.zeroStep cfg = d := by
    simp only [Weighing.zeroStep, hdecided, hnewest, hyscale, hlimit, hzo]
    rfl
  have hevaluated : y.evaluated cfg s.gauge.slot = u.weighing := by
    simp only [Weighing.evaluated, hstep, hdecided, hnewest, hyscale, Weighing.shiftZero]
    rw [hy]
    rfl
  have hu : (s.onWeighing fun z => (z.gapCounted.sampled x).completeHalf cfg).halfDecided cfg = u := by
    show { s with
      weighing := y.evaluated cfg s.gauge.slot
      gauge :=
      { s.gauge with slot := if y.decided cfg = .settled ∧ y.scale ≠ .settled then none else s.gauge.slot } } = u
    rw [hevaluated, hdecided, hyscale]
  have hv : (s.weightReported.onWeighing fun z => (z.sampled x).completeHalf cfg).halfDecided cfg = v := by
    rw [halfDecided_weightReported, hu]
  rw [exec_sequenceEnd counts reference hcfg, if_pos ((validSequence_iff _ _ _).mpr ⟨href, hcells⟩), hsample,
    finish_halfComplete cfg _ hclear hearlier (by exact hyscale ▸ hscale), hv]
  have hwaiting : v.quotes.waiting = s.quotes.waiting := by rw [← hv]; exact congrArg _ (weightReported_quotes s)
  show Host.Outcome.next (if y.decided cfg = y.scale then v else v.scaleTold (y.decided cfg)) = _
  rw [hdecided, hyscale, State.scaleTold, hwaiting]
  cases s.quotes.waiting with
  | none => simp only [ite_self]
  | some r =>
    by_cases hsame : scale = w.scale
    · simp only [if_pos hsame]
    · simp only [if_neg hsame]
      have hentered : scale ≠ .sensor := hdecided ▸ decided_ne_sensor cfg (hyscale ▸ hscale)
      generalize scale = entered at hentered ⊢
      cases entered
      case sensor => exact absurd rfl hentered
      case settled =>
        show Host.Outcome.next (v.clearWaiting.outcomeStored r.ref (v.compute r.body)) = _
        cases v.compute r.body <;> rfl
      all_goals rfl

end Sys2Proof.Machine
end

section
/-! The ZERO request. -/

namespace Sys2Proof.Machine

/-- In EMPTY and SETTLED no RATE waits, so that a transition tells the quote table nothing (R86, R87, R88). -/
theorem ScaleSound.waiting_none {s : State} (h : ScaleSound s) (hscale : s.weighing.scale ≠ .moving) :
    s.quotes.waiting = none := by
  by_contra hwaiting
  exact hscale (h.2.2.2.2 hwaiting)

/-- A transition while no RATE waits. -/
theorem enterScale_of_waiting_none {s : State} (h : s.quotes.waiting = none) (new : ScaleState) :
    s.enterScale new = s.onWeighing fun w => { w with scale := new } := by
  unfold State.enterScale
  split
  · rfl
  · cases new <;> simp [State.tellScale, State.releaseWaiting, State.refuseWaiting, h]

/-- A ZERO that is not turned away goes to the front end (R18, R181). -/
theorem exec_zero (tag : Nat) {s : State} (h : Accepts 4 s) :
    exec (.zero tag) s = .next (((s.taken tag 4).takeZero (s.nextRef tag)).finish s.link.nextId .owedFirst) := by
  obtain ⟨_, hstarted, hroom⟩ := h
  show Host.Outcome.next (takeWhole tag .zero s) = _
  rw [takeWhole_taken tag .zero s hroom, if_pos hstarted]
  rfl

/-- Settles O18, row by row of R18. -/
theorem zeroRequestByScaleState : Obligations.ZeroRequestByScaleState := by
  intro tag s haccepts hsound m
  have hclear : s.scratch = .clear := haccepts.1
  have hreply : ∀ t : State, t.scratch = .clear → t.link = s.link → ∀ body,
      ((t.taken tag 4).reply (s.nextRef tag) body).finish s.link.nextId .owedFirst = t.answered tag 4 body := by
    intro t ht hlink body
    have href : s.nextRef tag = t.nextRef tag := by rw [State.nextRef, State.nextRef, hlink]
    rw [href]
    exact finish_reply_taken tag 4 _ body _ t ht
  rw [exec_zero tag haccepts]
  refine ⟨fun hstill => ?_, fun hempty hsettled => ?_⟩
  · have htake : (s.taken tag 4).takeZero (s.nextRef tag) =
        if s.weighing.withinZeroLimit (s.weighing.zo + m) = true then
          ((s.onWeighing fun w => { w.shiftZero m with scale := .empty }).taken tag 4).done (s.nextRef tag) .plain
        else (s.taken tag 4).refuse (s.nextRef tag) .zeroRange := by
      have hwaiting : ((s.taken tag 4).onWeighing (Weighing.shiftZero s.weighing.newest)).quotes.waiting = none :=
        hsound.waiting_none (by rcases hstill with h | h <;> simp [h])
      have henter := enterScale_of_waiting_none hwaiting .empty
      have hscale : (s.taken tag 4).weighing = s.weighing := rfl
      unfold State.takeZero
      rcases hstill with h | h <;> simp only [hscale, h, henter] <;> rfl
    rw [htake]
    cases hzinit : s.weighing.zinit with
    | none =>
      rw [if_neg (by simp [Weighing.withinZeroLimit, hzinit])]
      exact congrArg _ (hreply s hclear rfl _)
    | some z =>
      have hlimit : s.weighing.withinZeroLimit (s.weighing.zo + m) = true ↔
          z - 8000 ≤ s.weighing.zo + m ∧ s.weighing.zo + m ≤ z + 8000 := by
        simp [withinZeroLimit_iff, hzinit]
      simp only [hlimit]
      split
      · exact congrArg _ (hreply (s.onWeighing fun w => { w.shiftZero m with scale := .empty }) hclear rfl _)
      · exact congrArg _ (hreply s hclear rfl _)
  · have htake : (s.taken tag 4).takeZero (s.nextRef tag) = (s.taken tag 4).refuse (s.nextRef tag) .unsettled := by
      have hscale : (s.taken tag 4).weighing = s.weighing := rfl
      unfold State.takeZero
      rw [hscale]
      cases h : s.weighing.scale
      case empty => exact absurd h hempty
      case settled => exact absurd h hsettled
      all_goals rfl
    rw [htake]
    exact congrArg _ (hreply s hclear rfl _)

end Sys2Proof.Machine
end

section
/-! RESTART, block by block: what the tariff store and the quote table forget, and the refusals it makes (R62, R105, R186). -/

namespace Sys2Proof.Machine

/-! ### References of banks -/

/-- A bank from which one quote's reference is dropped (R54). -/
def Bank.dropped (b : Bank) : Bank := if b.state = .retiring ∧ b.refs ≤ 1 then .cleared else { b with refs := b.refs - 1 }

/-- Dropping a reference replaces its bank (R54). -/
theorem dropRef_eq (id : BankId) (s : State) : s.dropRef id = s.setBank id (s.bank id).dropped :=
  (apply_ite (fun b => s.setBank id b) _ _ _).symm

/-- A bank after one bank is replaced. -/
theorem bank_setBank (id j : BankId) (b : Bank) (s : State) : (s.setBank id b).bank j = if id = j then b else s.bank j := by
  cases id <;> cases j <;> rfl

/-- A replaced bank touches the tariff store alone, and nothing else is read for it. -/
theorem setBank_frame (id : BankId) (b : Bank) (s : State) (quotes : QuoteTable) (scratch : Scratch) :
    ({ s with quotes := quotes, scratch := scratch } : State).setBank id b =
      { s.setBank id b with quotes := quotes, scratch := scratch } := by
  cases id <;> rfl

/-- Each bank loses the references of its own quotes, one after another. -/
theorem bank_foldl_dropRef (l : List Quote) (j : BankId) (s : State) :
    (l.foldl (fun t q => t.dropRef q.result.bank) s).bank j =
      Bank.dropped^[l.countP fun q => decide (q.result.bank = j)] (s.bank j) := by
  induction l generalizing s with
  | nil => rfl
  | cons q l ih =>
    rw [List.foldl_cons, ih, dropRef_eq, bank_setBank, List.countP_cons]
    by_cases h : q.result.bank = j
    · simp only [h, if_true, decide_true, Function.iterate_succ_apply]
    · simp only [h, if_false, decide_false, Nat.add_zero, Bool.false_eq_true]

/-- The last reference empties a RETIRING bank. -/
theorem iterate_dropped_retiring (n : Nat) {b : Bank} (h : b.state = .retiring) (hrefs : b.refs = n + 1) :
    Bank.dropped^[n + 1] b = .cleared := by
  induction n generalizing b with
  | zero => exact if_pos ⟨h, by omega⟩
  | succ n ih =>
    have hmore : b.dropped = { b with refs := n + 1 } := by
      rw [Bank.dropped, if_neg (by omega), hrefs]
      rfl
    rw [Function.iterate_succ_apply, hmore]
    exact ih h rfl

/-- Another bank keeps its state and its contents as its references go. -/
theorem iterate_dropped_keeps (n : Nat) {b : Bank} (h : b.state ≠ .retiring) :
    Bank.dropped^[n] b = { b with refs := b.refs - n } := by
  induction n generalizing b with
  | zero => rfl
  | succ n ih =>
    have hone : b.dropped = { b with refs := b.refs - 1 } := if_neg fun hb => h hb.1
    have hrest : Bank.dropped^[n] { b with refs := b.refs - 1 } = { b with refs := b.refs - 1 - n } := ih h
    rw [Function.iterate_succ_apply, hone, hrest, Nat.sub_sub, Nat.add_comm 1 n]

/-- The references touch the tariff store alone, and nothing else is read for them. -/
theorem foldl_dropRef_frame (l : List Quote) (s : State) (quotes : QuoteTable) (scratch : Scratch) :
    l.foldl (fun t q => t.dropRef q.result.bank) { s with quotes := quotes, scratch := scratch } =
      { l.foldl (fun t q => t.dropRef q.result.bank) s with quotes := quotes, scratch := scratch } := by
  induction l generalizing s with
  | nil => rfl
  | cons q l ih =>
    have hbank : ({ s with quotes := quotes, scratch := scratch } : State).bank q.result.bank = s.bank q.result.bank := by
      cases q.result.bank <;> rfl
    rw [List.foldl_cons, List.foldl_cons, dropRef_eq, dropRef_eq, hbank, setBank_frame, ih]

/-- The references leave every other block as it stands. -/
theorem foldl_dropRef_tariff (l : List Quote) (s : State) :
    l.foldl (fun t q => t.dropRef q.result.bank) s =
      { s with
        tariff :=
        { s.tariff with
          bankA := (l.foldl (fun t q => t.dropRef q.result.bank) s).tariff.bankA
          bankB := (l.foldl (fun t q => t.dropRef q.result.bank) s).tariff.bankB } } := by
  induction l generalizing s with
  | nil => rfl
  | cons q l ih =>
    rw [List.foldl_cons, ih, dropRef_eq]
    cases q.result.bank <;> rfl

/-! ### RESTART at the tariff store -/

/-- A LOADING bank becomes EMPTY; at most one bank is LOADING (3.1, R62). -/
theorem bank_restartTariff {s : State} (h : BanksSound s) (id : BankId) :
    s.restartTariff.bank id = if (s.bank id).state = .loading then .cleared else s.bank id := by
  have hone : ¬ (s.tariff.bankA.state = .loading ∧ s.tariff.bankB.state = .loading) := h .loading (.inl rfl)
  unfold State.restartTariff State.bankIn
  by_cases ha : s.tariff.bankA.state = .loading
  · have hb : s.tariff.bankB.state ≠ .loading := fun hb => hone ⟨ha, hb⟩
    cases id <;> simp [ha, hb, State.bank, State.setBank]
  · by_cases hb : s.tariff.bankB.state = .loading
    · cases id <;> simp [ha, hb, State.bank, State.setBank]
    · cases id <;> simp [ha, hb, State.bank]

/-- RESTART at the tariff store touches the banks and clears the cursor; the owed CUTOVER stays (R62). -/
theorem restartTariff_frame (s : State) :
    ∃ a b, s.restartTariff = { s with tariff := { s.tariff with bankA := a, bankB := b, cursor := .cleared } } := by
  unfold State.restartTariff
  split
  · exact ⟨_, _, rfl⟩
  · rename_i id _
    cases id <;> exact ⟨_, _, rfl⟩

/-! ### RESTART at the quote table -/

/-- The COMMIT that the quote with this number waits to answer. -/
def State.commitOf (s : State) (number : Nat) : Option RequestRef :=
  (s.quote? number).bind fun q =>
    match q.state with
    | .opened => none
    | .committing ref => some ref

/-- The requests that RESTART refuses, in the order of R105: the waiting RATE, then the COMMITs in pending order. -/
def State.restartRefs (s : State) : List RequestRef :=
  s.quotes.waiting.toList.map (·.ref) ++ s.quotes.pendingOrder.filterMap s.commitOf

/-- The refusal of one of them. -/
def RequestRef.restarted (r : RequestRef) : OutMsg := .reply (some r.id) r.tag (.refused .restarted none)

/-- RESTART answers as many requests as it refuses (R186). -/
theorem restartAnswers_eq (s : State) : s.restartAnswers = s.restartRefs.length := by
  have hcommitting : s.isCommitting = fun n => (s.commitOf n).isSome := funext fun n => by
    unfold State.isCommitting State.commitOf
    cases s.quote? n with
    | none => rfl
    | some q =>
      obtain ⟨_, state, _, _⟩ := q
      cases state <;> rfl
  rw [State.restartAnswers, State.restartRefs, List.length_append, List.length_map, List.length_filterMap_eq_countP,
    ← List.countP_eq_length_filter, hcommitting, Option.length_toList]

/-- RESTART at one number of the pending order (R105). -/
theorem restartCommit_eq (s : State) (n : Nat) :
    s.restartCommit n =
      { s with
        scratch := { s.scratch with produced := s.scratch.produced ++ (s.commitOf n).toList.map RequestRef.restarted } } := by
  have hnone : s = { s with scratch := { s.scratch with produced := s.scratch.produced ++ [] } } := by
    rw [List.append_nil]
  unfold State.restartCommit State.commitOf
  cases s.quote? n with
  | none => exact hnone
  | some q =>
    obtain ⟨_, state, _, _⟩ := q
    cases state with
    | opened => exact hnone
    | committing ref => rfl

/-- The COMMITs of the pending order are refused one after another (R105). -/
theorem foldl_restartCommit (ns : List Nat) (s : State) :
    ns.foldl State.restartCommit s =
      { s with
        scratch :=
        { s.scratch with produced := s.scratch.produced ++ (ns.filterMap s.commitOf).map RequestRef.restarted } } := by
  induction ns generalizing s with
  | nil =>
    rw [List.filterMap_nil, List.map_nil, List.append_nil]
    rfl
  | cons n ns ih =>
    have hsame : ∀ scratch x, ({ s with scratch := scratch } : State).commitOf x = s.commitOf x := fun _ _ => rfl
    rw [List.foldl_cons, restartCommit_eq, ih]
    cases h : s.commitOf n <;> simp [h, hsame]

/-- RESTART at the quote table after the waiting RATE: the COMMITs, the references and the records (R105). -/
def State.quotesForgotten (s : State) : State :=
  let s2 := s.quotes.pendingOrder.foldl State.restartCommit s
  let s3 := s2.quotes.records.foldl (fun t q => t.dropRef q.result.bank) s2
  { s3 with quotes := { s3.quotes with records := [], pendingOrder := [] } }

/-- What is left of the quotes is their refused COMMITs (R105). -/
theorem quotesForgotten_eq (s : State) :
    s.quotesForgotten =
      { s.quotes.records.foldl (fun t q => t.dropRef q.result.bank) s with
        quotes := { s.quotes with records := [], pendingOrder := [] }
        scratch :=
        { s.scratch with
          produced :=
            s.scratch.produced ++ (s.quotes.pendingOrder.filterMap s.commitOf).map RequestRef.restarted } } := by
  simp only [State.quotesForgotten, foldl_restartCommit]
  rw [foldl_dropRef_frame _ s s.quotes]

/-- RESTART at the quote table, whole: the refusals in their order, and an empty table without a waiting RATE (R105). -/
theorem restartQuotes_eq (s : State) :
    s.restartQuotes =
      { s.quotes.records.foldl (fun t q => t.dropRef q.result.bank) s with
        quotes := { s.quotes with records := [], pendingOrder := [], waiting := none }
        scratch :=
        { s.scratch with produced := s.scratch.produced ++ s.restartRefs.map RequestRef.restarted } } := by
  cases hw : s.quotes.waiting with
  | none =>
    have hrest : s.restartQuotes = s.quotesForgotten := by
      simp only [State.restartQuotes, State.quotesForgotten, hw]
    simp [hrest, quotesForgotten_eq, State.restartRefs, hw]
  | some w =>
    have hrest : s.restartQuotes = (s.clearWaiting.refuse w.ref .restarted).quotesForgotten := by
      simp only [State.restartQuotes, State.quotesForgotten, hw]
    have hrefused : s.clearWaiting.refuse w.ref .restarted =
        { s with
          quotes := { s.quotes with waiting := none }
          scratch := { s.scratch with produced := s.scratch.produced ++ [w.ref.restarted] } } := rfl
    have hsame : ∀ scratch n,
        ({ s with quotes := { s.quotes with waiting := none }, scratch := scratch } : State).commitOf n = s.commitOf n :=
      fun _ _ => rfl
    rw [hrest, hrefused, quotesForgotten_eq, foldl_dropRef_frame, State.restartRefs, hw]
    simp [hsame]

/-! ### The whole event -/

/-- What a list of messages leaves at the counter link, one `State.said` after another. -/
theorem link_foldl_said {α : Type} (f : α → OutMsg) (l : List α) (s : State) :
    (l.foldl (fun u x => u.said (f x)) s).link = (l.map f).foldl Link.accept s.link := by
  induction l generalizing s with
  | nil => rfl
  | cons x l ih =>
    rw [List.foldl_cons, ih]
    rfl

/-- The part within a RESTART, before its own reply. -/
def State.restarted (s : State) : State := (s.restartWeighing.onGauge Gauge.restart).restartTariff.restartQuotes

/-- RESTART, block by block; what becomes of the banks is `bank_restarted` (R23, R40, R62, R105). -/
theorem restarted_eq (s : State) :
    ∃ a b, s.restarted =
      { s with
        weighing :=
        { s.weighing.emptyRing with
          invalidRun := 0, validRun := 0, parcel := none, scale := if s.weighing.zinit.isSome then .moving else .noZero }
        gauge := s.gauge.restart
        tariff := { s.tariff with bankA := a, bankB := b, cursor := .cleared }
        quotes := { s.quotes with records := [], pendingOrder := [], waiting := none }
        scratch := { s.scratch with produced := s.scratch.produced ++ s.restartRefs.map RequestRef.restarted } } := by
  obtain ⟨a, b, htariff⟩ := restartTariff_frame (s.restartWeighing.onGauge Gauge.restart)
  refine ⟨s.restarted.tariff.bankA, s.restarted.tariff.bankB, ?_⟩
  unfold State.restarted
  rw [htariff, restartQuotes_eq, foldl_dropRef_tariff]
  rfl

/-- A RESTART with sound quotes and banks empties a bank that is LOADING, or RETIRING with quotes, and takes the references of
every other (R62, R105). -/
theorem bank_restarted {s : State} (hquotes : QuotesSound s) (hbanks : BanksSound s) (id : BankId) :
    s.restarted.bank id =
      if (s.bank id).state = .loading ∨ (s.bank id).state = .retiring ∧ 0 < (s.bank id).refs then .cleared
      else { s.bank id with refs := 0 } := by
  have hrecords : (s.restartWeighing.onGauge Gauge.restart).restartTariff.quotes = s.quotes := by
    obtain ⟨a, b, htariff⟩ := restartTariff_frame (s.restartWeighing.onGauge Gauge.restart)
    rw [htariff]
    rfl
  have hbank : s.restarted.bank id =
      Bank.dropped^[(s.bank id).refs] (if (s.bank id).state = .loading then .cleared else s.bank id) := by
    obtain ⟨_, _, _, _, _, _, _, hcount, _⟩ := hquotes
    have hloaded : (s.restartWeighing.onGauge Gauge.restart).restartTariff.bank id =
        if (s.bank id).state = .loading then .cleared else s.bank id :=
      bank_restartTariff (s := s.restartWeighing.onGauge Gauge.restart) hbanks id
    have hdropped := bank_foldl_dropRef s.quotes.records id (s.restartWeighing.onGauge Gauge.restart).restartTariff
    rw [hloaded] at hdropped
    rw [hcount id, State.quotesUnder, ← hdropped, State.restarted, restartQuotes_eq, hrecords]
    cases id <;> rfl
  have hused : 0 < (s.bank id).refs → (s.bank id).state = .active ∨ (s.bank id).state = .retiring := by
    obtain ⟨_, _, _, _, _, _, _, _, hstate⟩ := hquotes
    exact hstate id
  rw [hbank]
  by_cases hloading : (s.bank id).state = .loading
  · have hnone : (s.bank id).refs = 0 := by
      by_contra h
      have := hused (Nat.pos_of_ne_zero h)
      simp [hloading] at this
    rw [if_pos hloading, if_pos (.inl hloading), hnone]
    rfl
  rw [if_neg hloading]
  by_cases hretiring : (s.bank id).state = .retiring
  · cases hrefs : (s.bank id).refs with
    | zero =>
      rw [if_neg (by simp [hloading])]
      exact congrArg (fun n => { s.bank id with refs := n }) hrefs
    | succ n => rw [if_pos (.inr ⟨hretiring, Nat.succ_pos n⟩), iterate_dropped_retiring n hretiring hrefs]
  · rw [if_neg (by simp [hloading, hretiring]), iterate_dropped_keeps _ hretiring, Nat.sub_self]

/-- The end of a RESTART: its refusals enter the output queue in their order, and its own DONE after them (R179, R186). -/
theorem finish_restarted (own : Nat) (r : RequestRef) (order : RoomOrder) {s : State} (h : s.scratch = .clear) :
    (s.restarted.done r (.restart s.restartAnswers)).finish own order =
      { s.restarted with
        link :=
          ((s.restartRefs.map RequestRef.restarted).foldl Link.accept s.link).accept
            (.reply (some r.id) r.tag (.done (.restart s.restartRefs.length)))
        scratch := .clear } := by
  obtain ⟨a, b, hrestarted⟩ := restarted_eq s
  have hscratch : (s.restarted.done r (.restart s.restartAnswers)).scratch =
      { produced := s.restartRefs.map RequestRef.restarted
          ++ [.reply (some r.id) r.tag (.done (.restart s.restartRefs.length))]
        offerDue := false, serveDue := false } := by
    rw [State.done, State.reply_scratch, hrestarted, restartAnswers_eq, h]
    rfl
  have hreplies : ∀ m ∈ s.restartRefs.map RequestRef.restarted
      ++ [.reply (some r.id) r.tag (.done (.restart s.restartRefs.length))], m.isReply = true := by
    intro m hm
    rcases List.mem_append.mp hm with hm | hm
    · obtain ⟨ref, _, rfl⟩ := List.mem_map.mp hm
      rfl
    · obtain rfl := List.mem_singleton.mp hm
      rfl
  rw [finish_quiet own order _ (by rw [hscratch]) (by rw [hscratch]), State.flush, hscratch, ownFirst_replies own _ hreplies,
    List.foldl_concat, hrestarted]
  rfl

/-- Settles O14: the blocks from `restarted_eq`, the banks from `bank_restarted`, the messages from `finish_restarted`. -/
theorem restartClearsTheCounterSide : Obligations.RestartClearsTheCounterSide := by
  intro tag s haccepts hquotes hbanks
  obtain ⟨hclear, hstarted, hroom⟩ := haccepts
  have hexec : exec (.restart tag) s =
      .next (((s.taken tag 3).restarted.done (s.nextRef tag) (.restart (s.taken tag 3).restartAnswers)).finish
        s.link.nextId .owedFirst) := by
    show Host.Outcome.next (takeWhole tag .restart s) = _
    rw [takeWhole_taken tag .restart s hroom, if_pos hstarted]
    rfl
  rw [finish_restarted (s := s.taken tag 3) _ _ _ hclear] at hexec
  have hbank : ∀ id, (s.taken tag 3).restarted.bank id =
      if (s.bank id).state = .loading ∨ (s.bank id).state = .retiring ∧ 0 < (s.bank id).refs then .cleared
      else { s.bank id with refs := 0 } :=
    bank_restarted (s := s.taken tag 3) hquotes hbanks
  have hunused : ∀ id, (s.bank id).state = .empty → (s.bank id).refs = 0 := fun id hempty => by
    obtain ⟨_, _, _, _, _, _, _, _, hstate⟩ := hquotes
    by_contra h
    have := hstate id (Nat.pos_of_ne_zero h)
    simp [hempty] at this
  obtain ⟨a, b, hrestarted⟩ := restarted_eq (s.taken tag 3)
  rw [hrestarted] at hexec hbank
  refine ⟨_, hexec, rfl, rfl, rfl, rfl, rfl, fun id h => (hbank id).trans (if_pos h),
    fun id h => (hbank id).trans (if_neg (by rcases h with h | h <;> simp [h])),
    fun id h => (hbank id).trans ((if_neg (by simp [h])).trans ?_), rfl, rfl, rfl, rfl,
    (s.taken tag 3).restartRefs.map fun r => (r.id, r.tag), ?_, ?_⟩
  · exact congrArg (fun n => { s.bank id with refs := n }) (hunused id h).symm
  · rw [State.restartRefs, List.map_append, List.map_map, List.map_filterMap]
    refine congrArg₂ _ rfl (List.filterMap_congr fun n _ => ?_)
    have hcommit : (s.taken tag 3).commitOf n = s.commitOf n := rfl
    rw [hcommit, State.commitOf]
    cases s.quote? n with
    | none => rfl
    | some q =>
      obtain ⟨_, state, _, _⟩ := q
      cases state <;> rfl
  · have hrefused := link_foldl_said (fun x : Nat × Nat => .reply (some x.1) x.2 (.refused .restarted none))
      ((s.taken tag 3).restartRefs.map fun r => (r.id, r.tag)) (s.taken tag 3)
    rw [List.map_map] at hrefused
    rw [List.length_map, State.said, State.onLink_link, hrefused]
    rfl

end Sys2Proof.Machine
end

section
/-! Which operations keep the weighing front end and the waiting RATE, in the order of the definitions they speak of: the frame
that the soundness of the scale needs. -/

namespace Sys2Proof.Machine

/-- The front end and the waiting RATE are the same in both states. -/
@[reducible] def SameScale (t s : State) : Prop := t.weighing = s.weighing ∧ t.quotes.waiting = s.quotes.waiting

/-- A chain of operations keeps what each of them keeps. -/
theorem foldl_sameScale {α : Type} {f : State → α → State} (hf : ∀ s x, SameScale (f s x) s) (l : List α) (s : State) :
    SameScale (l.foldl f s) s := by
  induction l generalizing s with
  | nil => exact ⟨rfl, rfl⟩
  | cons x l ih => exact ⟨(ih _).1.trans (hf s x).1, (ih _).2.trans (hf s x).2⟩

/-! ### Messages, banks and the transmit queue -/

@[simp] theorem done_sameScale (r : RequestRef) (b : DoneBody) (s : State) : SameScale (s.done r b) s := ⟨rfl, rfl⟩

@[simp] theorem refuse_sameScale (r : RequestRef) (reason : Reason) (s : State) : SameScale (s.refuse r reason) s :=
  ⟨rfl, rfl⟩

@[simp] theorem dropRef_sameScale (id : BankId) (s : State) : SameScale (s.dropRef id) s := by
  rw [dropRef_eq]
  simp [SameScale]

@[simp] theorem withdraw_sameScale (body : FrameBody) (s : State) : SameScale (s.withdraw body) s := by
  unfold State.withdraw
  split <;> simp [SameScale]

/-! ### The bag table -/

@[simp] theorem postedAtBags_sameScale (route bag w : Nat) (s : State) : SameScale (s.postedAtBags route bag w) s := by
  unfold State.postedAtBags
  split
  · split
    · exact ⟨rfl, rfl⟩
    · split <;> exact ⟨rfl, rfl⟩
  · exact ⟨rfl, rfl⟩

@[simp] theorem bagnextHeard_sameScale (route bag : Nat) (s : State) : SameScale (s.bagnextHeard route bag) s := by
  unfold State.bagnextHeard
  split
  · split
    · exact ⟨rfl, rfl⟩
    · split <;> exact ⟨rfl, rfl⟩
  · exact ⟨rfl, rfl⟩

@[simp] theorem bagClose_sameScale (r : RequestRef) (route : Nat) (s : State) : SameScale (s.bagClose r route) s := by
  unfold State.bagClose
  dsimp only
  split <;> exact ⟨rfl, rfl⟩

/-! ### The tariff store -/

@[simp] theorem failLoad_sameScale (id : BankId) (r : RequestRef) (detail : LoadDetail) (s : State) :
    SameScale (s.failLoad id r detail) s := by
  simp [SameScale, State.failLoad]

@[simp] theorem load_sameScale (id : BankId) (r : RequestRef) (bank : Bank) (cursor : Cursor) (s : State) :
    SameScale (s.load id r bank cursor) s := by
  simp [SameScale, State.load]

@[simp] theorem bankOpen_sameScale (r : RequestRef) (bank openDefault : Nat) (s : State) :
    SameScale (s.bankOpen r bank openDefault) s := by
  unfold State.bankOpen
  split
  · simp [SameScale]
  · split_ifs <;> simp [SameScale]

@[simp] theorem loadCell_sameScale (r : RequestRef) (letter zone bandCount : Nat) (s : State) :
    SameScale (s.loadCell r letter zone bandCount) s := by
  unfold State.loadCell
  split
  · simp [SameScale]
  · dsimp only
    split
    · simp [SameScale]
    · split_ifs <;> simp [SameScale]

@[simp] theorem loadBand_sameScale (r : RequestRef) (u p0 i sw p1 : Nat) (s : State) :
    SameScale (s.loadBand r u p0 i sw p1) s := by
  unfold State.loadBand
  split
  · simp [SameScale]
  · dsimp only
    split
    · simp [SameScale]
    · split
      · simp [SameScale]
      · split_ifs <;> simp [SameScale]

@[simp] theorem loadZone_sameScale (r : RequestRef) (low high zone route flags : Nat) (s : State) :
    SameScale (s.loadZone r low high zone route flags) s := by
  unfold State.loadZone
  split
  · simp [SameScale]
  · dsimp only
    split_ifs <;> simp [SameScale]

@[simp] theorem loadSurch_sameScale (r : RequestRef)
    (letter oversize irregular remoteRate insuranceUnit insurancePrice : Nat) (s : State) :
    SameScale (s.loadSurch r letter oversize irregular remoteRate insuranceUnit insurancePrice) s := by
  unfold State.loadSurch
  split
  · simp [SameScale]
  · dsimp only
    split
    · simp [SameScale]
    · split_ifs <;> simp [SameScale]

@[simp] theorem bankClose_sameScale (r : RequestRef) (version count sum : Nat) (s : State) :
    SameScale (s.bankClose r version count sum) s := by
  unfold State.bankClose
  split
  · simp [SameScale]
  · dsimp only
    split_ifs <;> simp [SameScale]

@[simp] theorem activate_sameScale (id : BankId) (cause : ActivationCause) (s : State) :
    SameScale (s.activate id cause) s := by
  unfold State.activate
  dsimp only
  split <;> simp [SameScale]

@[simp] theorem swap_sameScale (r : RequestRef) (bank scope : Nat) (s : State) : SameScale (s.swap r bank scope) s := by
  unfold State.swap
  split
  · simp [SameScale]
  · split
    · simp [SameScale]
    · split
      case h_5 =>
        dsimp only
        split <;> simp [SameScale]
      all_goals simp [SameScale]

@[simp] theorem cutoverHeard_sameScale (station v : Nat) (s : State) : SameScale (s.cutoverHeard station v) s := by
  unfold State.cutoverHeard
  split
  · simp [SameScale]
  · split <;> simp [SameScale]

/-! ### The quote table -/

@[simp] theorem storeOutcome_sameScale (r : RequestRef) (outcome : Except Reason RateResult) (s : State) :
    SameScale (s.storeOutcome r outcome) s := by
  unfold State.storeOutcome
  split
  · simp [SameScale]
  · split <;> simp [SameScale, State.takeRef]

@[simp] theorem removeQuote_sameScale (q : Quote) (s : State) : SameScale (s.removeQuote q) s := by
  simp [SameScale, State.removeQuote]

@[simp] theorem takeCancel_sameScale (r : RequestRef) (number : Nat) (s : State) : SameScale (s.takeCancel r number) s := by
  unfold State.takeCancel
  split
  · simp [SameScale]
  · split <;> simp [SameScale]

@[simp] theorem reopen_sameScale (reason : Reason) (s : State) (number : Nat) : SameScale (s.reopen reason number) s := by
  unfold State.reopen
  split
  · simp [SameScale]
  · split <;> simp [SameScale]

@[simp] theorem refuseNoNumbers_sameScale (letter : Nat) (s : State) : SameScale (s.refuseNoNumbers letter) s :=
  foldl_sameScale (reopen_sameScale .noNumbers) _ s

@[simp] theorem refuseMuted_sameScale (s : State) : SameScale s.refuseMuted s :=
  foldl_sameScale (reopen_sameScale .muted) _ s

/-! ### The number allocator -/

@[simp] theorem reviewSupply_sameScale (k : Nat) (s : State) : SameScale (s.reviewSupply k) s := by
  unfold State.reviewSupply
  split
  · simp [SameScale]
  · dsimp only
    split
    · split <;> simp [SameScale]
    · split <;> simp [SameScale]

@[simp] theorem testNeed_sameScale (k : Nat) (s : State) : SameScale (s.testNeed k) s := by
  unfold State.testNeed
  split
  · simp [SameScale]
  · split
    · split <;> simp [SameScale]
    · simp [SameScale]

@[simp] theorem loseClaim_sameScale (k block : Nat) (s : State) : SameScale (s.loseClaim k block) s := by
  unfold State.loseClaim
  split
  · simp [SameScale]
  · dsimp only
    split <;> simp [SameScale]

@[simp] theorem oweHeld_sameScale (k block : Nat) (s : State) : SameScale (s.oweHeld k block) s := by
  unfold State.oweHeld
  split
  · simp [SameScale]
  · split <;> simp [SameScale]

@[simp] theorem winClaim_sameScale (k block : Nat) (s : State) : SameScale (s.winClaim k block) s := by
  unfold State.winClaim
  split
  · simp [SameScale]
  · dsimp only
    split <;> simp [SameScale]

@[simp] theorem logConflict_sameScale (r : ConflictRecord) (s : State) : SameScale (s.logConflict r) s := by
  unfold State.logConflict
  split
  · dsimp only
    split <;> simp [SameScale]
  · simp [SameScale]

@[simp] theorem logTake_sameScale (r : RequestRef) (s : State) : SameScale (s.logTake r) s := by
  unfold State.logTake
  split <;> simp [SameScale]

@[simp] theorem withdrawBlock_sameScale (k block : Nat) (s : State) : SameScale (s.withdrawBlock k block) s := by
  unfold State.withdrawBlock
  split
  · simp [SameScale]
  · dsimp only
    split
    · split <;> simp [SameScale]
    · simp [SameScale]

@[simp] theorem issueSerial_sameScale (k : Nat) (c : CurrentBlock) (s : State) : SameScale (s.issueSerial k c) s := by
  unfold State.issueSerial
  split <;> simp [SameScale]

@[simp] theorem markHeard_sameScale (k : Nat) (kind : FrameKind) (station : Nat) (serial : Option Nat) (s : State)
    (block : Nat) : SameScale (s.markHeard k kind station serial block) s := by
  unfold State.markHeard
  split
  · simp [SameScale]
  · split_ifs <;> simp [SameScale]

@[simp] theorem marksHeard_sameScale (k : Nat) (kind : FrameKind) (station : Nat) (serial : Option Nat) (blocks : List Nat)
    (s : State) : SameScale (s.marksHeard k kind station serial blocks) s := by
  have hmarks := foldl_sameScale (markHeard_sameScale k kind station serial) blocks s
  simp [SameScale, State.marksHeard, hmarks]

@[simp] theorem loseIfClaimed_sameScale (k : Nat) (blocks : List Nat) (s : State) :
    SameScale (s.loseIfClaimed k blocks) s := by
  unfold State.loseIfClaimed
  split
  · simp [SameScale]
  · split
    · simp [SameScale]
    · split <;> simp [SameScale]

@[simp] theorem claimHeard_sameScale (station letter block : Nat) (s : State) :
    SameScale (s.claimHeard station letter block) s := by
  unfold State.claimHeard
  split
  · simp [SameScale]
  · dsimp only
    split
    · simp [SameScale]
    · split_ifs <;> simp [SameScale]

@[simp] theorem heldHeard_sameScale (station letter block : Nat) (s : State) :
    SameScale (s.heldHeard station letter block) s := by
  unfold State.heldHeard
  split
  · simp [SameScale]
  · rename_i k _
    have hothers := fun u : State => foldl_sameScale (f := fun t n =>
      if n = station then t else t.modifyColumn n k fun l => l.erase block)
      (fun t n => by split <;> simp [SameScale]) (List.range Config.stations) u
    dsimp only
    split
    · simp [SameScale, hothers]
    · split <;> simp [SameScale, hothers]

@[simp] theorem spentHeard_sameScale (station letter block : Nat) (s : State) :
    SameScale (s.spentHeard station letter block) s := by
  unfold State.spentHeard
  split <;> simp [SameScale]

@[simp] theorem holdsHeard_sameScale (station letter : Nat) (blocks : List Nat) (s : State) :
    SameScale (s.holdsHeard station letter blocks) s := by
  unfold State.holdsHeard
  split <;> simp [SameScale]

@[simp] theorem checkPosted_sameScale (k station letter serial : Nat) (s : State) :
    SameScale (s.checkPosted k station letter serial) s := by
  unfold State.checkPosted
  dsimp only
  split
  · simp [SameScale]
  · split_ifs <;> simp [SameScale]

@[simp] theorem postedHeard_sameScale (station letter serial : Nat) (s : State) :
    SameScale (s.postedHeard station letter serial) s := by
  unfold State.postedHeard
  split <;> simp [SameScale]

@[simp] theorem joinHeard_sameScale (s : State) : SameScale s.joinHeard s := by
  unfold State.joinHeard
  split <;> exact ⟨rfl, rfl⟩

@[simp] theorem mapLoad_sameScale (r : RequestRef) (letter startBlock : Nat) (span : List Bool) (s : State) :
    SameScale (s.mapLoad r letter startBlock span) s := by
  unfold State.mapLoad
  split
  · simp [SameScale]
  · split
    · simp [SameScale]
    · split
      case h_1 | h_2 => simp [SameScale]
      all_goals split <;> simp [SameScale]

@[simp] theorem muteNumbers_sameScale (s : State) : SameScale s.muteNumbers s :=
  foldl_sameScale (fun t k => reviewSupply_sameScale k t) _ _

/-! ### Owed items, completion and serving -/

@[simp] theorem settleItem_sameScale (i : OwedItem) (s : State) : SameScale (s.settleItem i) s := by
  cases i <;> exact ⟨rfl, rfl⟩

@[simp] theorem offerItem_sameScale (s : State) (i : OwedItem) : SameScale (s.offerItem i) s := by
  unfold State.offerItem
  split <;> simp [SameScale]

@[simp] theorem offerOwed_sameScale (s : State) : SameScale s.offerOwed s := by
  unfold State.offerOwed
  split
  · exact foldl_sameScale offerItem_sameScale _ s
  · exact ⟨rfl, rfl⟩

@[simp] theorem offerSlot_sameScale (k : Nat) (s : State) : SameScale (s.offerSlot k) s := by
  unfold State.offerSlot
  split
  · exact ⟨rfl, rfl⟩
  · exact foldl_sameScale offerItem_sameScale _ s

@[simp] theorem drawSerial_sameScale (k : Nat) (c : CurrentBlock) (s : State) : SameScale (s.drawSerial k c).1 s := by
  simp [SameScale, State.drawSerial]

@[simp] theorem complete_sameScale (q : Quote) (commit : RequestRef) (k : Nat) (c : CurrentBlock) (s : State) :
    SameScale (s.complete q commit k c) s := by
  unfold State.complete State.assignBag
  dsimp only
  split <;> simp [SameScale]

@[simp] theorem judgeEntry_sameScale (s : State) (number : Nat) : SameScale (s.judgeEntry number) s := by
  unfold State.judgeEntry
  split
  · simp [SameScale]
  · split
    · simp [SameScale]
    · split <;> simp [SameScale]

@[simp] theorem serve_sameScale (s : State) : SameScale s.serve s := foldl_sameScale judgeEntry_sameScale _ s

@[simp] theorem takeCommit_sameScale (r : RequestRef) (number : Nat) (s : State) : SameScale (s.takeCommit r number) s := by
  unfold State.takeCommit
  split
  · simp [SameScale]
  · split_ifs <;> simp [SameScale]

/-- What an event makes due reaches neither the front end nor the waiting RATE. -/
@[simp] theorem finish_sameScale (own : Nat) (order : RoomOrder) (s : State) : SameScale (s.finish own order) s := by
  have hserve : ∀ t : State, SameScale t.serveIfDue t := fun t => by
    unfold State.serveIfDue
    split <;> simp [SameScale]
  have hoffer : ∀ t : State, SameScale t.offerIfDue t := fun t => by
    unfold State.offerIfDue
    split <;> simp [SameScale]
  cases order <;> simp [SameScale, State.finish, State.settleRoom, hserve, hoffer]

/-! ### The hall line -/

@[simp] theorem enterMuted_sameScale (sender : Nat) (kind : Option FrameKind) (s : State) :
    SameScale (s.enterMuted sender kind) s := by
  simp [SameScale, State.enterMuted, State.muteBags]

@[simp] theorem joinHall_sameScale (group : Nat) (s : State) : SameScale (s.joinHall group) s := by
  unfold State.joinHall
  dsimp only
  split <;> simp [SameScale]

@[simp] theorem hand_sameScale (f : Frame) (s : State) : SameScale (s.hand f) s := by
  unfold State.hand
  split <;> simp [SameScale]

@[simp] theorem hear_sameScale (f : Frame) (s : State) : SameScale (s.hear f) s := by
  unfold State.hear State.credit
  split_ifs <;> simp [SameScale]

/-- Nothing of the hall line reaches the front end or the waiting RATE. -/
theorem hearFrame_sameScale (f : Frame) (order : RoomOrder) (s : State) : SameScale (hearFrame f order s) s := by
  simp [SameScale, hearFrame, State.acknowledge]

@[simp] theorem failAttempt_sameScale (f : Frame) (s : State) : SameScale (s.failAttempt f) s := by
  unfold State.failAttempt
  dsimp only
  split <;> simp [SameScale]

@[simp] theorem frameSent_sameScale (f : Frame) (s : State) : SameScale (s.frameSent f) s := by
  unfold State.frameSent State.claimSent
  split
  · split <;> simp [SameScale]
  all_goals simp [SameScale]

@[simp] theorem transmitted_sameScale (f : Frame) (acknowledged : Bool) (s : State) :
    SameScale (s.transmitted f acknowledged) s := by
  simp [SameScale, State.transmitted]

@[simp] theorem endCensus_sameScale (s : State) : SameScale s.endCensus s := by
  have hneeds := fun u : State =>
    foldl_sameScale (f := fun t k => t.testNeed k) (fun t k => testNeed_sameScale k t) (List.range Config.slots) u
  simp [SameScale, State.endCensus, hneeds]

/-! ### START and STATUS -/

@[simp] theorem takeStart_sameScale (r : RequestRef) (b : StartBody) (s : State) : SameScale (s.takeStart r b) s := by
  unfold State.takeStart State.configure
  split <;> simp [SameScale]

@[simp] theorem takeStatus_sameScale (r : RequestRef) (sect : Nat) (s : State) : SameScale (s.takeStatus r sect) s := by
  unfold State.takeStatus
  split <;> simp [SameScale]

end Sys2Proof.Machine
end

section
/-! Every step keeps the scale sound: the front end's share and the waiting RATE's, operation by operation. -/

namespace Sys2Proof.Machine

/-! ### Soundness by its two shares -/

/-- The front end's share of `ScaleSound`: Zinit by scale state, the zero limit, and the parcel record in SETTLED (1.6, R12, R66). -/
def Weighing.sound (w : Weighing) : Prop :=
  (w.scale = .noZero → w.zinit = none)
    ∧ (w.scale = .noZero ∨ w.scale = .sensor ∨ w.zinit ≠ none)
    ∧ w.withinZeroLimit w.zo = w.zinit.isSome
    ∧ (w.scale = .settled → w.parcel ≠ none)

/-- Soundness is the front end's share, and a RATE waiting in MOVING alone. -/
theorem scaleSound_iff (s : State) :
    ScaleSound s ↔ s.weighing.sound ∧ (s.quotes.waiting ≠ none → s.weighing.scale = .moving) := by
  simp only [ScaleSound, Weighing.sound, and_assoc]

/-- The front end's share speaks of four fields. -/
theorem Weighing.sound.congr {v w : Weighing} (h : w.sound) (hscale : v.scale = w.scale) (hzinit : v.zinit = w.zinit)
    (hzo : v.zo = w.zo) (hparcel : v.parcel = w.parcel) : v.sound := by
  unfold Weighing.sound Weighing.withinZeroLimit at h ⊢
  rw [hscale, hzinit, hzo, hparcel]
  exact h

/-- SENSOR asks for no zero and no parcel record (R4). -/
theorem Weighing.sound_of_sensor {w : Weighing} (hscale : w.scale = .sensor)
    (hlimit : w.withinZeroLimit w.zo = w.zinit.isSome) : w.sound :=
  ⟨by simp [hscale], by simp [hscale], hlimit, by simp [hscale]⟩

/-- EMPTY asks for a zero within the limit (R12, R18). -/
theorem Weighing.sound_of_empty {w : Weighing} (hscale : w.scale = .empty) (hlimit : w.withinZeroLimit w.zo = true) :
    w.sound := by
  obtain ⟨z, hz, _⟩ := (withinZeroLimit_iff w w.zo).mp hlimit
  exact ⟨by simp [hscale], by simp [hz], by rw [hlimit, hz]; rfl, by simp [hscale]⟩

/-- After SENSOR and after RESTART the scale is MOVING where a zero was found, and NOZERO where none was (R5, R23). -/
theorem Weighing.sound_of_begun {w : Weighing} (hscale : w.scale = if w.zinit.isSome then .moving else .noZero)
    (hlimit : w.withinZeroLimit w.zo = w.zinit.isSome) : w.sound := by
  cases hzinit : w.zinit with
  | none =>
    rw [hzinit] at hscale hlimit
    exact ⟨fun _ => hzinit, .inl hscale, by rw [hlimit, hzinit], fun h => by simp [hscale] at h⟩
  | some z =>
    rw [hzinit] at hscale hlimit
    exact ⟨fun h => by simp [hscale] at h, by simp [hzinit], by rw [hlimit, hzinit], fun h => by simp [hscale] at h⟩

/-- A front end as sound as before, and no RATE that did not wait before. -/
theorem ScaleSound.congr {s t : State} (h : ScaleSound s) (hsound : t.weighing.sound)
    (hscale : t.weighing.scale = s.weighing.scale) (hwaiting : t.quotes.waiting ≠ none → s.quotes.waiting ≠ none) :
    ScaleSound t :=
  (scaleSound_iff t).mpr ⟨hsound, fun hw => hscale.trans (((scaleSound_iff s).mp h).2 (hwaiting hw))⟩

/-- The front end as before, and no RATE that did not wait before. -/
theorem ScaleSound.of_weighing {s t : State} (h : ScaleSound s) (hweighing : t.weighing = s.weighing)
    (hwaiting : t.quotes.waiting ≠ none → s.quotes.waiting ≠ none) : ScaleSound t :=
  h.congr (hweighing ▸ ((scaleSound_iff s).mp h).1) (hweighing ▸ rfl) hwaiting

/-- What keeps the front end and the waiting RATE keeps the scale sound. -/
theorem ScaleSound.of_same {s t : State} (h : ScaleSound s) (hsame : SameScale t s) : ScaleSound t :=
  h.of_weighing hsame.1 (by rw [hsame.2]; exact id)

/-- The end of an event keeps the scale sound. -/
theorem ScaleSound.finish {s : State} (h : ScaleSound s) (own : Nat) (order : RoomOrder) : ScaleSound (s.finish own order) :=
  h.of_same (finish_sameScale own order s)

/-- The passing of time moves a waiting RATE's timer alone. -/
theorem ScaleSound.elapse {s : State} (h : ScaleSound s) (d : Nat) : ScaleSound (s.elapse d) :=
  h.of_weighing rfl fun hw hnone => hw (by simp [State.elapse, hnone])

/-! ### The waiting RATE -/

/-- A released RATE waits no longer (R87). -/
theorem releaseWaiting_spec (s : State) :
    s.releaseWaiting.weighing = s.weighing ∧ s.releaseWaiting.quotes.waiting = none := by
  unfold State.releaseWaiting
  split
  · exact ⟨rfl, ‹_›⟩
  · simp

/-- A refused RATE waits no longer (R88). -/
theorem refuseWaiting_spec {scale : ScaleState} (h : (scaleRefusal scale).isSome = true) (s : State) :
    (s.refuseWaiting scale).weighing = s.weighing ∧ (s.refuseWaiting scale).quotes.waiting = none := by
  obtain ⟨reason, hreason⟩ := Option.isSome_iff_exists.mp h
  unfold State.refuseWaiting
  cases hw : s.quotes.waiting <;> simp [hreason, hw]

/-- A transition told to the quote table leaves the front end, and a RATE waits on through NOZERO and MOVING alone (R87, R88). -/
theorem tellScale_spec (scale : ScaleState) (s : State) :
    (s.tellScale scale).weighing = s.weighing
      ∧ ((s.tellScale scale).quotes.waiting ≠ none → s.quotes.waiting ≠ none ∧ (scale = .noZero ∨ scale = .moving)) := by
  have hrefuse : ∀ x, (scaleRefusal x).isSome = true → (s.refuseWaiting x).weighing = s.weighing
      ∧ ((s.refuseWaiting x).quotes.waiting ≠ none → s.quotes.waiting ≠ none ∧ (x = .noZero ∨ x = .moving)) := fun x hx => by
    obtain ⟨hweighing, hnone⟩ := refuseWaiting_spec hx s
    exact ⟨hweighing, fun h => absurd hnone h⟩
  cases scale
  case noZero => exact ⟨rfl, fun h => ⟨h, .inl rfl⟩⟩
  case moving => exact ⟨rfl, fun h => ⟨h, .inr rfl⟩⟩
  case settled =>
    obtain ⟨hweighing, hnone⟩ := releaseWaiting_spec s
    exact ⟨hweighing, fun h => absurd hnone h⟩
  all_goals exact hrefuse _ rfl

/-- The front end after a transition, told to the quote table, is sound when the new state is. -/
theorem scaleSound_tellScale {s : State} (hsound : s.weighing.sound) {scale : ScaleState}
    (hscale : s.weighing.scale = scale) (hwaiting : s.quotes.waiting ≠ none → scale ≠ .noZero) :
    ScaleSound (s.tellScale scale) := by
  obtain ⟨hweighing, htold⟩ := tellScale_spec scale s
  refine (scaleSound_iff _).mpr ⟨hweighing ▸ hsound, fun h => ?_⟩
  obtain ⟨hw, hstays⟩ := htold h
  rw [hweighing, hscale]
  exact hstays.resolve_left (hwaiting hw)

/-! ### The end of a sample sequence -/

/-- The notice test keeps the scale sound (R20). -/
theorem ScaleSound.sequenceNoted {s : State} (h : ScaleSound s) : ScaleSound s.sequenceNoted := by
  have hweighing := sequenceNoted_weighing s
  refine h.congr ?_ (by rw [hweighing]; rfl) (by rw [sequenceNoted_quotes]; exact id)
  rw [hweighing]
  exact ((scaleSound_iff s).mp h).1.congr rfl rfl rfl rfl

/-- A change of the front end that none of its share speaks of. -/
theorem ScaleSound.onWeighing {s : State} (h : ScaleSound s) {f : Weighing → Weighing}
    (hf : (f s.weighing).scale = s.weighing.scale ∧ (f s.weighing).zinit = s.weighing.zinit
      ∧ (f s.weighing).zo = s.weighing.zo ∧ (f s.weighing).parcel = s.weighing.parcel) : ScaleSound (s.onWeighing f) := by
  obtain ⟨hscale, hzinit, hzo, hparcel⟩ := hf
  exact h.congr (((scaleSound_iff s).mp h).1.congr hscale hzinit hzo hparcel) hscale id

/-- An invalid sequence keeps the scale sound: SENSOR asks for no zero and no parcel record (R4, R5, R88). -/
theorem ScaleSound.invalidSequence {s : State} (h : ScaleSound s) : ScaleSound s.invalidSequence := by
  by_cases hshort : s.weighing.scale = .sensor ∨ s.weighing.invalidRun + 1 < 64
  · rw [invalidSequence_short hshort]
    split <;> exact h.onWeighing ⟨rfl, rfl, rfl, rfl⟩
  · rw [not_or, Nat.not_lt] at hshort
    obtain ⟨hscale, hrun⟩ := hshort
    obtain ⟨_, _, hlimit, _⟩ := h
    rw [invalidSequence_sensor hscale hrun]
    refine scaleSound_tellScale ?_ rfl fun _ => ScaleState.noConfusion
    exact Weighing.sound_of_sensor rfl hlimit

/-- In NOZERO the evaluation finds a zero or leaves the state (R11). -/
theorem decided_of_noZero (cfg : Setup) {w : Weighing} (h : w.scale = .noZero) :
    w.decided cfg = .noZero ∨ w.decided cfg = .empty := by
  rw [Weighing.decided, h, decideScale]
  split
  · exact .inr rfl
  · exact .inl rfl

/-- The evaluation leads into NOZERO from nowhere (R11, R13). -/
theorem noZero_of_decided (cfg : Setup) {w : Weighing} (h : w.decided cfg = .noZero) : w.scale = .noZero := by
  by_contra hzero
  have hsensor : w.scale ≠ .sensor := fun hs => by simp [Weighing.decided, decideScale, hs] at h
  rw [decided_zeroed cfg hzero hsensor] at h
  split_ifs at h

/-- The initial zero is Zinit itself (R11, R12). -/
theorem withinZeroLimit_initial (w : Weighing) (h : w.zinit = some w.zo) : w.withinZeroLimit w.zo = true :=
  (withinZeroLimit_iff w w.zo).mpr ⟨w.zo, h, by omega, by omega⟩

/-- A zero that is tracked stays within its limit (R12, R17). -/
theorem zeroStep_within (cfg : Setup) {w : Weighing} (hfound : ¬ (w.scale = .noZero ∧ w.decided cfg = .empty)) :
    w.zeroStep cfg = 0 ∨ w.withinZeroLimit (w.zo + w.zeroStep cfg) = true := by
  unfold Weighing.zeroStep
  by_cases hzero : w.scale = .noZero
  · rw [if_pos hzero, if_neg fun hempty => hfound ⟨hzero, hempty⟩]
    exact .inl rfl
  · rw [if_neg hzero]
    split
    · rename_i htracked
      exact .inr htracked.2.2.2
    · exact .inl rfl

/-- The evaluation of a half keeps the front end's share: the zero stays within its limit, and SETTLED has its parcel record
(R11, R12, R14, R17). -/
theorem sound_evaluated (cfg : Setup) (slot : Option Measurement) {w : Weighing} (h : w.sound) (hsensor : w.scale ≠ .sensor) :
    (w.evaluated cfg slot).sound := by
  obtain ⟨habsent, hpresent, hlimit, hparcel⟩ := h
  have hscale : (w.evaluated cfg slot).scale = w.decided cfg := rfl
  by_cases hfound : w.scale = .noZero ∧ w.decided cfg = .empty
  · have hzinit : (w.evaluated cfg slot).zinit = some w.newest := if_pos hfound
    have hzo : (w.evaluated cfg slot).zo = w.newest := if_pos hfound
    refine ⟨fun h => ?_, .inr (.inr (by simp [hzinit])), ?_, fun h => ?_⟩
    · simp [hscale, hfound.2] at h
    · rw [withinZeroLimit_initial _ (hzo ▸ hzinit), hzinit]
      rfl
    · simp [hscale, hfound.2] at h
  · have hzinit : (w.evaluated cfg slot).zinit = w.zinit := if_neg hfound
    have hzo : (w.evaluated cfg slot).zo = w.zo + w.zeroStep cfg := if_neg hfound
    refine ⟨fun h => ?_, ?_, ?_, fun h => ?_⟩
    · rw [hzinit]
      exact habsent (noZero_of_decided cfg h)
    · by_cases hzero : w.scale = .noZero
      · exact .inl ((decided_of_noZero cfg hzero).resolve_right fun hempty => hfound ⟨hzero, hempty⟩)
      · exact .inr (.inr (hzinit ▸ (hpresent.resolve_left hzero).resolve_left hsensor))
    · have hsame : ∀ zo, (w.evaluated cfg slot).withinZeroLimit zo = w.withinZeroLimit zo := fun zo => by
        simp only [Weighing.withinZeroLimit, hzinit]
      rw [hsame, hzo, hzinit]
      rcases zeroStep_within cfg hfound with hstep | hstep
      · rw [hstep, Int.add_zero, hlimit]
      · obtain ⟨z, hz, _⟩ := (withinZeroLimit_iff w _).mp hstep
        rw [hstep, hz]
        rfl
    · have hrecord : (w.evaluated cfg slot).parcel = _ := if_pos h
      rw [hrecord]
      split
      · rename_i hsettled
        simpa using hparcel hsettled
      · simp

/-- The completion of a half outside SENSOR keeps the scale sound (R8, R13, R87, R88). -/
theorem ScaleSound.halfComplete {s : State} (h : ScaleSound s) (cfg : Setup) (hsensor : s.weighing.scale ≠ .sensor) :
    ScaleSound (s.halfComplete cfg) := by
  obtain ⟨hfront, hmoving⟩ := (scaleSound_iff s).mp h
  have hsound : (s.halfDecided cfg).weighing.sound := sound_evaluated cfg _ hfront hsensor
  have hscale : (s.halfDecided cfg).weighing.scale = s.weighing.decided cfg := rfl
  rw [halfComplete_eq cfg hsensor]
  split
  · rename_i hstays
    exact h.congr hsound (hscale.trans hstays) id
  · refine scaleSound_tellScale hsound hscale fun hwaiting hzero => ?_
    have hnoZero : s.weighing.scale = .noZero := noZero_of_decided cfg hzero
    exact absurd (hnoZero.symm.trans (hmoving hwaiting)) (by decide)

/-- A valid sequence keeps the scale sound (R4 to R8). -/
theorem ScaleSound.validSample {s : State} (h : ScaleSound s) (cfg : Setup) (counts : List Int) :
    ScaleSound (s.validSample cfg counts) := by
  by_cases hsensor : s.weighing.scale = .sensor
  · rw [validSample_sensor cfg counts hsensor]
    split
    · exact h.onWeighing ⟨rfl, rfl, rfl, rfl⟩
    · have hnone : s.quotes.waiting = none := h.waiting_none (by simp [hsensor])
      obtain ⟨_, _, hlimit, _⟩ := h
      exact (scaleSound_iff _).mpr ⟨Weighing.sound_of_begun rfl hlimit, fun hwaiting => absurd hnone hwaiting⟩
  · have hsampled : ∀ x, ScaleSound (s.onWeighing (Weighing.sampled x)) := fun x =>
      h.onWeighing (by simp [Weighing.sampled, push_eq])
    rw [validSample_ring cfg counts hsensor]
    dsimp only
    split
    · exact hsampled _
    · have hfull : ∀ x, (s.weighing.sampled x).completeHalf cfg = _ := fun x => completeHalf_sampled cfg x s.weighing
      exact (h.onWeighing (f := fun w => (w.sampled _).completeHalf cfg) (by simp only [hfull, and_self])).halfComplete cfg
        (by simpa only [State.onWeighing_weighing, hfull] using hsensor)

/-- The end of a sample sequence keeps the scale sound (R2 to R8, R20). -/
theorem ScaleSound.sequenceEnd {s : State} (h : ScaleSound s) (counts : List Int) (reference : Int) :
    ScaleSound (s.sequenceEnd counts reference) := by
  unfold State.sequenceEnd
  split
  · exact h
  · show ScaleSound (if _ then s.sequenceNoted.validSample _ counts else s.sequenceNoted.invalidSequence)
    split
    · exact h.sequenceNoted.validSample _ counts
    · exact h.sequenceNoted.invalidSequence

end Sys2Proof.Machine
end

section
/-! The commands one by one, and the step (R12, R66, R86 to R88). -/

namespace Sys2Proof.Machine

/-- Either branch of a condition being sound, the whole is. -/
theorem ScaleSound.ite {s t : State} {c : Prop} [Decidable c] (hs : ScaleSound s) (ht : ScaleSound t) :
    ScaleSound (if c then s else t) := by
  split
  · exact hs
  · exact ht

/-! ### Requests -/

/-- ZERO keeps the scale sound: the new zero is within its limit, and no RATE waits (R12, R18). -/
theorem ScaleSound.takeZero {s : State} (h : ScaleSound s) (r : RequestRef) : ScaleSound (s.takeZero r) := by
  have hrefused : ∀ reason, ScaleSound (s.refuse r reason) := fun reason => h.of_same (refuse_sameScale r reason s)
  unfold State.takeZero
  split
  case h_1 | h_2 =>
    rename_i hscale
    split
    · rename_i hlimit
      have hnone : s.quotes.waiting = none := h.waiting_none (by simp [hscale])
      refine ScaleSound.of_same (s := (s.onWeighing (Weighing.shiftZero s.weighing.newest)).enterScale .empty) ?_
        (done_sameScale _ _ _)
      rw [enterScale_of_waiting_none (s := s.onWeighing _) hnone]
      exact (scaleSound_iff _).mpr ⟨Weighing.sound_of_empty rfl hlimit, fun hwaiting => absurd hnone hwaiting⟩
    · exact hrefused _
  all_goals exact hrefused _

/-- A RATE keeps the scale sound: it waits in MOVING alone (R85, R86). -/
theorem ScaleSound.takeRate {s : State} (h : ScaleSound s) (r : RequestRef) (body : RateBody) :
    ScaleSound (s.takeRate r body) := by
  have hrefused : ∀ reason, ScaleSound (s.refuse r reason) := fun reason => h.of_same (refuse_sameScale r reason s)
  have hstored : ScaleSound (s.storeOutcome r (s.compute body)) := h.of_same (storeOutcome_sameScale r _ s)
  unfold State.takeRate
  split
  · exact hrefused _
  · split
    · exact hstored
    · split
      case h_5 => exact hstored
      case h_6 =>
        rename_i hmoving
        split
        · exact (scaleSound_iff _).mpr ⟨((scaleSound_iff s).mp h).1, fun _ => hmoving⟩
        · exact hrefused _
      all_goals exact hrefused _

/-- RESTART leaves the scale sound: no parcel record, no waiting RATE, and MOVING or NOZERO by Zinit (R23, R105). -/
theorem ScaleSound.takeRestart {s : State} (h : ScaleSound s) (r : RequestRef) : ScaleSound (s.takeRestart r) := by
  obtain ⟨_, _, hlimit, _⟩ := h
  obtain ⟨a, b, hrestarted⟩ := restarted_eq s
  refine ScaleSound.of_same (s := s.restarted) ?_ (done_sameScale _ _ _)
  rw [hrestarted]
  exact (scaleSound_iff _).mpr ⟨Weighing.sound_of_begun rfl hlimit, fun hwaiting => absurd rfl hwaiting⟩

/-- A request after START, handed to its owner, keeps the scale sound (R181). -/
theorem ScaleSound.handRequest {s : State} (h : ScaleSound s) (r : RequestRef) (request : Request) :
    ScaleSound (s.handRequest r request) := by
  have hrefused : ScaleSound (s.refuse r .badRequest) := h.of_same (refuse_sameScale _ _ _)
  cases request with
  | start body => exact h.of_same (refuse_sameScale _ _ _)
  | status sect => exact h.of_same (takeStatus_sameScale _ _ _)
  | restart => exact h.takeRestart r
  | zero => exact h.takeZero r
  | mapLoad letter startBlock span => exact .ite (h.of_same (mapLoad_sameScale _ _ _ _ _)) hrefused
  | logTake => exact h.of_same (logTake_sameScale _ _)
  | bankOpen bank openDefault => exact h.of_same (bankOpen_sameScale _ _ _ _)
  | cell letter zone bandCount => exact h.of_same (loadCell_sameScale _ _ _ _ _)
  | band u p0 i sw p1 => exact h.of_same (loadBand_sameScale _ _ _ _ _ _ _)
  | zone low high zone route flags => exact h.of_same (loadZone_sameScale _ _ _ _ _ _ _)
  | surch letter oversize irregular remoteRate unit price => exact h.of_same (loadSurch_sameScale _ _ _ _ _ _ _ _)
  | bankClose version count sum => exact h.of_same (bankClose_sameScale _ _ _ _ _)
  | swap bank scope => exact h.of_same (swap_sameScale _ _ _ _)
  | rate body => exact .ite (h.takeRate r body) hrefused
  | commit number => exact .ite (h.of_same (takeCommit_sameScale _ _ _)) hrefused
  | cancel number => exact .ite (h.of_same (takeCancel_sameScale _ _ _)) hrefused
  | bagClose route => exact .ite (h.of_same (bagClose_sameScale _ _ _)) hrefused
  | unknown kind => exact hrefused

/-- A request before START touches neither the front end nor a waiting RATE (R181). -/
theorem handEarly_sameScale (r : RequestRef) (request : Request) (s : State) : SameScale (s.handEarly r request) s := by
  cases request with
  | start body => exact takeStart_sameScale _ _ _
  | status sect => exact takeStatus_sameScale _ _ _
  | _ => exact refuse_sameScale _ _ _

/-- Taking a request keeps the scale sound (R177). -/
theorem ScaleSound.takeRequest {s : State} (h : ScaleSound s) (tag : Nat) (request : Request) :
    ScaleSound (s.takeRequest tag request) := by
  have hjoined : ScaleSound (s.onLink (Link.join tag request.kind)) := h.of_same ⟨rfl, rfl⟩
  unfold State.takeRequest
  dsimp only
  split
  · split <;> exact h.of_same ⟨rfl, rfl⟩
  · split
    · exact hjoined.handRequest _ _
    · exact hjoined.of_same (handEarly_sameScale _ _ _)

/-- A whole request keeps the scale sound (R177). -/
theorem ScaleSound.takeWhole {s : State} (h : ScaleSound s) (tag : Nat) (request : Request) :
    ScaleSound (takeWhole tag request s) :=
  (h.takeRequest tag request).finish _ _

/-- A received byte keeps the scale sound: the last one of a message brings its request, the others the parser (R175). -/
theorem ScaleSound.takeByte {s : State} (h : ScaleSound s) (byte : Byte) (framingError : Bool) :
    ScaleSound (s.takeByte byte framingError) := by
  have hlink : ∀ f, ScaleSound (s.onLink f) := fun f => h.of_same ⟨rfl, rfl⟩
  unfold State.takeByte
  dsimp only
  split
  · split
    · exact hlink _
    · exact h
  · split
    · exact hlink _
    · split
      · exact hlink _
      · split <;> exact hlink _
  · split <;> exact hlink _
  · split
    · exact hlink _
    · split
      · exact hlink _
      · split
        · exact (hlink _).takeRequest _ _
        · exact hlink _

/-! ### The commands -/

/-- A heard frame keeps the scale sound (8.2). -/
theorem ScaleSound.hearFrame {s : State} (h : ScaleSound s) (f : Frame) (order : RoomOrder) :
    ScaleSound (hearFrame f order s) :=
  h.of_same (hearFrame_sameScale f order s)

/-- Every command keeps the scale sound. -/
theorem scaleSound_of_exec {s t : State} (h : ScaleSound s) (i : Instr) (hexec : exec i s = .next t) : ScaleSound t := by
  cases i with
  | powerOnReset straps =>
    cases hexec
    exact scaleSound_reset.of_same ⟨rfl, rfl⟩
  | start tag body | status tag sect | restart tag | zero tag | mapLoad tag letter startBlock span | logTake tag
  | bankOpen tag bank openDefault | cell tag letter zone bandCount | band tag u p0 i sw p1
  | zone tag low high zone route flags | surch tag letter oversize irregular remoteRate unit price
  | bankClose tag version count sum | swap tag bank scope | rate tag body | commit tag number | cancel tag number
  | bagClose tag route | unknownRequestKind tag kind =>
    cases hexec
    exact h.takeWhole _ _
  | heardClaim station group letter block order | heardHeld station group letter block order
  | heardSpent station group letter block order | heardHolds station group letter blocks order
  | heardPosted station group letter serial route bag weight order | heardJoin station group office
  | heardBagnext station group route bag | heardCutover station group version | heardAlive station group =>
    cases hexec
    exact h.hearFrame _ _
  | linkMessageDiscard =>
    cases hexec
    exact .ite h (h.of_same ⟨rfl, rfl⟩)
  | gapTimerExpiry =>
    cases hexec
    exact .ite h ((h.elapse _).of_same ⟨rfl, rfl⟩)
  | messageTransmissionBegin | messageTransmissionComplete =>
    cases hexec
    exact h.of_same ⟨rfl, rfl⟩
  | sampleSequenceStart =>
    cases hexec
    exact .ite (h.onWeighing ⟨rfl, rfl, rfl, rfl⟩) h
  | sequenceEnd counts reference =>
    cases hexec
    exact (h.sequenceEnd counts reference).finish _ _
  | waitingRateRelease =>
    cases hexec
    obtain ⟨hweighing, hnone⟩ := releaseWaiting_spec s
    exact .ite ((h.of_weighing hweighing fun hw => absurd hnone hw).finish _ _) h
  | waitingRateScaleRefusal =>
    cases hexec
    split
    · rename_i hrefusal
      obtain ⟨hweighing, hnone⟩ := refuseWaiting_spec hrefusal s
      exact (h.of_weighing hweighing fun hw => absurd hnone hw).finish _ _
    · exact h
  | settleWaitTimerExpiry =>
    simp only [exec, execSettleWaitTimerExpiry] at hexec
    split at hexec <;> cases hexec
    · exact h
    · rename_i w _
      refine ScaleSound.finish ?_ _ _
      exact (h.elapse (Config.settleWaitMs - w.timer)).of_weighing rfl fun hw => absurd rfl hw
  | gateSample level | gateLevelAccepted level =>
    cases hexec
    exact .ite (h.of_same ⟨rfl, rfl⟩) h
  | encoderCount direction widthBlocked heightBlocked =>
    simp only [exec, execEncoderCount] at hexec
    split at hexec <;> cases hexec
    · exact h
    · exact h.of_same ⟨rfl, rfl⟩
  | encoderError =>
    cases hexec
    exact .ite (h.of_same ⟨rfl, rfl⟩) h
  | stallTimerExpiry =>
    cases hexec
    exact .ite ((h.elapse _).of_same ⟨rfl, rfl⟩) h
  | quoteExpiry number =>
    simp only [exec, execQuoteExpiry] at hexec
    split at hexec
    · cases hexec
      exact h
    · split at hexec <;> cases hexec
      · exact (h.elapse _).of_same (removeQuote_sameScale _ _)
      · exact h
  | commitCompletion number =>
    cases hexec
    exact (h.of_same (judgeEntry_sameScale s number)).finish _ _
  | holdoffExpiry slot order =>
    simp only [exec, execHoldoffExpiry] at hexec
    split at hexec
    · cases hexec
      exact h
    · split at hexec <;> cases hexec
      · exact ((h.elapse _).of_same (winClaim_sameScale _ _ _)).finish _ _
      all_goals exact h
  | frameDiscard levels =>
    simp only [exec, execFrameDiscard] at hexec
    split at hexec <;> cases hexec
    · exact h.of_same ⟨rfl, rfl⟩
    · exact h
  | owedItemEntry =>
    cases hexec
    exact h.of_same (offerOwed_sameScale s)
  | attemptBegin =>
    cases hexec
    refine .ite ?_ h
    split
    · exact h
    · exact h.of_same ⟨rfl, rfl⟩
  | arbitrationLost field =>
    simp only [exec, execArbitrationLost] at hexec
    split at hexec <;> cases hexec
    · exact h
    · exact .ite (h.of_same ⟨rfl, rfl⟩) h
  | failedAttempt =>
    simp only [exec, execFailedAttempt] at hexec
    split at hexec <;> cases hexec
    · exact h
    · exact (h.of_same (failAttempt_sameScale _ s)).finish _ _
  | transmitCompletion acknowledged order =>
    simp only [exec, execTransmitCompletion] at hexec
    split at hexec <;> cases hexec
    · exact h
    · exact (h.of_same (transmitted_sameScale _ _ s)).finish _ _
  | censusTimerExpiry order =>
    simp only [exec, execCensusTimerExpiry] at hexec
    split at hexec <;> cases hexec
    · exact h
    · exact ((h.elapse _).of_same (endCensus_sameScale _)).finish _ _
  | silenceTimerExpiry =>
    cases hexec
    refine .ite (.ite ?_ ?_) h
    all_goals exact (h.elapse _).of_same ⟨rfl, rfl⟩
  | livenessSilent station =>
    simp only [exec, execLivenessSilent] at hexec
    split at hexec
    · cases hexec
      exact h
    · split at hexec <;> cases hexec
      · exact (h.elapse _).of_same ⟨rfl, rfl⟩
      · exact h
  | byteReceived byte framingError =>
    cases hexec
    exact (h.takeByte byte framingError).finish _ _

/-- Settles O59: a step takes one command, or lets a millisecond pass. -/
theorem stepKeepsTheScaleSound : Obligations.StepKeepsTheScaleSound := by
  intro s t h hstep
  unfold step at hstep
  split at hstep
  · cases hstep
    exact h.elapse 1
  · rename_i c rest _
    exact scaleSound_of_exec (s := { s with pending := rest }) (h.of_same ⟨rfl, rfl⟩) c hstep

end Sys2Proof.Machine
end

section
/-! The passing of one millisecond. -/

namespace Sys2Proof.Machine

/-! ### One millisecond -/

/-- One millisecond of a quote: an OPEN one ages, up to the quote life (R91). -/
theorem Quote.elapse_one (life : Nat) :
    Quote.elapse life 1 = fun q =>
      { q with ageMs := if q.state = .opened ∧ q.ageMs < life * 1000 then q.ageMs + 1 else q.ageMs } := by
  funext ⟨number, state, ageMs, result⟩
  cases state with
  | opened => simp [Quote.elapse, runTo_one]
  | committing commit => simp [Quote.elapse]

/-- One millisecond of a liveness entry: a LIVE one ages to 6 s and a SILENT one to the end of the count (R166). -/
theorem Peer.elapse_one :
    Peer.elapse 1 = fun p =>
      { p with
        ageMs := match p.liveness with
          | .absent => p.ageMs
          | .live => if p.ageMs < 6000 then p.ageMs + 1 else p.ageMs
          | .silent => if p.ageMs < 65535000 then p.ageMs + 1 else p.ageMs } := by
  funext ⟨liveness, ageMs, lastGroup, office⟩
  cases liveness with
  | absent => rfl
  | live => simp [Peer.elapse, runTo_one, Config.silentMs]
  | silent => simp [Peer.elapse, runTo_one, Config.maxAgeMs]

/-- Settles O2: one millisecond timer by timer; each runs up to its limit by `runTo_one`. -/
theorem emptyQueueLetsAMillisecondPass : Obligations.EmptyQueueLetsAMillisecondPass := by
  intro s hempty
  have hstep : step s = .next (s.elapse 1) := by
    unfold step
    rw [hempty]
    rfl
  rw [hstep]
  simp only [State.elapse, Quote.elapse_one, Peer.elapse_one, runTo_one, ite_and, ne_eq, ite_not, Config.stallMs,
    Config.settleWaitMs, Config.censusMs, Config.silenceMs, Config.gapMs]
  rfl

end Sys2Proof.Machine
end

section
/-! The dimension gauge's gate, the end of a pass, and a stalled pass, branch by branch (R25 to R28, R33 to R36). -/

namespace Sys2Proof.Machine

/-- What a command makes of the gauge turns on the gauge as it stands alone. -/
theorem next_onGauge_congr {s : State} {f f' : Gauge → Gauge} (h : f s.gauge = f' s.gauge) :
    (.next (s.onGauge f) : Host.Outcome State Fault Refusal) = .next (s.onGauge f') :=
  congrArg (fun g => Host.Outcome.next { s with gauge := g }) h

/-! ### The gate debounce (R25) -/

/-- An equal sample ends the run. -/
theorem Gauge.sample_equal (g : Gauge) : g.sample g.accepted = { g with gateRun := 0 } := if_pos rfl

/-- A differing sample before the eighth lengthens the run. -/
theorem Gauge.sample_differing {level : GateLevel} {g : Gauge} (hlevel : level ≠ g.accepted) (hrun : g.gateRun + 1 < 8) :
    g.sample level = { g with gateRun := g.gateRun + 1 } := by
  rw [Gauge.sample, if_neg hlevel]
  exact if_neg (Nat.not_le.mpr hrun)

/-- The eighth differing sample accepts its level. -/
theorem Gauge.sample_eighth {level : GateLevel} {g : Gauge} (hlevel : level ≠ g.accepted) (hrun : 8 ≤ g.gateRun + 1) :
    g.sample level = g.acceptLevel level := by
  rw [Gauge.sample, if_neg hlevel]
  exact if_pos hrun

/-- GATE_SAMPLE once there is a configuration. -/
theorem exec_gateSample {s : State} (hstarted : s.started = true) (level : GateLevel) :
    exec (.gateSample level) s = .next (s.onGauge (Gauge.sample level)) :=
  congrArg Host.Outcome.next (if_pos hstarted)

/-- GATE_LEVEL_ACCEPTED of a level that differs from the accepted one. -/
theorem exec_gateLevelAccepted {s : State} {level : GateLevel} (hstarted : s.started = true)
    (hlevel : s.gauge.accepted ≠ level) :
    exec (.gateLevelAccepted level) s = .next (s.onGauge (Gauge.acceptLevel level)) :=
  congrArg Host.Outcome.next (if_pos (by simp [hstarted, hlevel]))

/-- Settles O20: the three dispositions of a sample. -/
theorem gateSampleDebounces : Obligations.GateSampleDebounces := by
  intro level s hstarted
  rw [exec_gateSample hstarted]
  refine ⟨fun hlevel => ?_, fun hlevel hrun => ?_, fun hlevel hrun => ?_⟩
  · subst hlevel
    exact next_onGauge_congr (Gauge.sample_equal s.gauge)
  · exact next_onGauge_congr (Gauge.sample_differing hlevel hrun)
  · rw [exec_gateLevelAccepted hstarted hlevel.symm]
    exact next_onGauge_congr (Gauge.sample_eighth hlevel hrun)

/-! ### The end of a pass (R34 to R36) -/

/-- A pass without length, width or height is discarded and counted (R35). -/
theorem Gauge.completePass_discarded {g : Gauge} (h : g.length = 0 ∨ g.width = 0 ∨ g.height = 0) :
    g.completePass = { g with pass := .idle, discardCount := min (g.discardCount + 1) 65535 } :=
  if_pos h

/-- A pass with all three figures leaves its record in the slot (R34); an older record there is counted as displaced (R36). -/
theorem Gauge.completePass_placed {g : Gauge} (h : ¬ (g.length = 0 ∨ g.width = 0 ∨ g.height = 0)) :
    g.completePass =
      { g with
        pass := .idle
        slot := some
          { length := if 2000 < g.length then 2000 else g.length, width := g.width, height := g.height,
            edge := g.edge, irregular := g.irregular, long := decide (2000 < g.length) }
        replacedCount := if g.slot.isSome then min (g.replacedCount + 1) 65535 else g.replacedCount } := by
  have hlength : min g.length 2000 = if 2000 < g.length then 2000 else g.length := by split <;> omega
  rw [← hlength]
  exact if_neg h

/-- Settles O21: the accepted level meets the pass state (R26); a pass that CLEAR ends is discarded or leaves its record. -/
theorem acceptedGateLevelActsOnThePass : Obligations.AcceptedGateLevelActsOnThePass := by
  intro level s hstarted hlevel
  rw [exec_gateLevelAccepted hstarted hlevel]
  refine next_onGauge_congr ?_
  cases hpass : s.gauge.pass with
  | idle => cases level <;> simp only [Gauge.acceptLevel, hpass, Gauge.beginPass]
  | passing =>
    cases level with
    | clear =>
      simp only [Gauge.acceptLevel, hpass]
      split
      · rename_i hzero
        exact Gauge.completePass_discarded hzero
      · rename_i hmeasured
        exact Gauge.completePass_placed hmeasured
    | blocked => simp only [Gauge.acceptLevel, hpass]
  | stalled => cases level <;> simp only [Gauge.acceptLevel, hpass]

/-! ### Encoder errors and stalls (R28, R33) -/

/-- A running timer that is given the time left to its limit stands at it. -/
theorem runTo_limit {limit t : Nat} (h : t ≤ limit) : runTo limit t (limit - t) = limit := by
  unfold runTo
  split <;> omega

/-- Settles O23: the stall timer reaches its limit by `runTo_limit`. -/
theorem encoderErrorsAndStalls : Obligations.EncoderErrorsAndStalls := by
  refine fun s => ⟨fun hstarted => congrArg Host.Outcome.next (if_pos hstarted), fun hpass htimer => ?_⟩
  have htime : (s.elapse (5000 - s.gauge.stallTimer)).gauge = { s.gauge with stallTimer := 5000 } := by
    simp only [State.elapse, if_pos hpass, Config.stallMs, runTo_limit htimer]
  have hexec : exec .stallTimerExpiry s = .next ((s.elapse (5000 - s.gauge.stallTimer)).onGauge fun g =>
      { g with pass := .stalled, stallCount := min (g.stallCount + 1) 65535 }) :=
    congrArg Host.Outcome.next (if_pos hpass)
  rw [hexec, State.onGauge, htime]

end Sys2Proof.Machine
end

section
/-! A scan of one array: the beams it sees, their extent and the IRREGULAR finding (R30, R32). -/

namespace Sys2Proof.Machine

/-- A seen beam is an unmasked blocked one. -/
theorem mem_seenBeams {mask blocked : BeamSet} {n : Nat} :
    n ∈ seenBeams mask blocked ↔ n < 128 ∧ mask.getLsbD n = false ∧ blocked.getLsbD n = true := by
  simp [seenBeams]

/-- The seen beams stand in ascending order. -/
theorem pairwise_seenBeams (mask blocked : BeamSet) : (seenBeams mask blocked).Pairwise (· < ·) :=
  List.pairwise_lt_range.filter _

/-- A scan sees no beam, or its first and last seen beams are the lowest and the highest. -/
theorem seenBeams_ends (mask blocked : BeamSet) :
    seenBeams mask blocked = [] ∨ ∃ lo hi,
      (seenBeams mask blocked).head? = some lo ∧ (seenBeams mask blocked).getLast? = some hi
        ∧ lo ∈ seenBeams mask blocked ∧ hi ∈ seenBeams mask blocked
        ∧ ∀ n ∈ seenBeams mask blocked, lo ≤ n ∧ n ≤ hi := by
  by_cases hnil : seenBeams mask blocked = []
  · exact .inl hnil
  · have hle : (seenBeams mask blocked).Pairwise (· ≤ ·) := (pairwise_seenBeams mask blocked).imp Nat.le_of_lt
    exact .inr ⟨_, _, List.head?_eq_some_head hnil, List.getLast?_eq_some_getLast hnil, List.head_mem hnil,
      List.getLast_mem hnil, fun n hn => ⟨hle.rel_head hn, hle.rel_getLast hn⟩⟩

/-- Without a seen beam the extent is 0 (R30). -/
theorem scanExtent_unseen {mask blocked : BeamSet} (h : seenBeams mask blocked = []) : scanExtent mask blocked = 0 := by
  simp [scanExtent, h]

/-- The extent runs from the lowest seen beam to the highest, 5 mm a beam (R30). -/
theorem scanExtent_seen {mask blocked : BeamSet} {lo hi : Nat} (hlo : lo ∈ seenBeams mask blocked)
    (hhi : hi ∈ seenBeams mask blocked) (hwithin : ∀ n ∈ seenBeams mask blocked, lo ≤ n ∧ n ≤ hi) :
    scanExtent mask blocked = (hi - lo + 1) * 5 := by
  rcases seenBeams_ends mask blocked with hnil | ⟨first, last, hfirst, hlast, hmem, hmem', hbounds⟩
  · simp [hnil] at hlo
  · obtain rfl : lo = first := le_antisymm (hwithin first hmem).1 (hbounds lo hlo).1
    obtain rfl : hi = last := le_antisymm (hbounds hi hhi).2 (hwithin last hmem').2
    simp only [scanExtent, hfirst, hlast]

/-- `twoOpen` finds two neighbours that are both unblocked. -/
theorem twoOpen_iff_infix (l : List Bool) : twoOpen l = true ↔ [false, false] <:+: l := by
  induction l with
  | nil => simp [twoOpen]
  | cons x rest ih =>
    cases rest with
    | nil => simp [twoOpen, List.infix_cons_iff]
    | cons y rest =>
      rw [twoOpen, List.infix_cons_iff, Bool.or_eq_true, ih]
      simp

/-- Two numbers are neighbours in an ascending list when both are members and no member stands between them. -/
theorem pair_infix_iff {l : List Nat} (hl : l.Pairwise (· < ·)) {i j : Nat} :
    [i, j] <:+: l ↔ i ∈ l ∧ j ∈ l ∧ i < j ∧ ∀ n ∈ l, i < n → j ≤ n := by
  constructor
  · rintro ⟨before, after, rfl⟩
    simp only [List.append_assoc, List.cons_append, List.nil_append, List.pairwise_append, List.pairwise_cons] at hl
    obtain ⟨-, ⟨hi, hj, -⟩, hbefore⟩ := hl
    refine ⟨by simp, by simp, hi j List.mem_cons_self, fun n hn hin => ?_⟩
    simp only [List.mem_append, List.mem_cons, List.not_mem_nil, or_false] at hn
    rcases hn with (hn | rfl | rfl) | hn
    · exact absurd (hbefore n hn i List.mem_cons_self) (by omega)
    · exact absurd hin (by omega)
    · exact le_refl _
    · exact (hj n hn).le
  · rintro ⟨hi, hj, hij, hnext⟩
    obtain ⟨before, after, rfl⟩ := List.append_of_mem hi
    obtain ⟨-, hafter, hbefore⟩ := List.pairwise_append.mp hl
    have hj' : j ∈ after := by
      rcases List.mem_append.mp hj with h | h
      · exact absurd (hbefore j h i List.mem_cons_self) (by omega)
      · exact (List.mem_cons.mp h).resolve_left (by omega)
    cases after with
    | nil => simp at hj'
    | cons x rest =>
      obtain ⟨hx, hrest⟩ := List.pairwise_cons.mp hafter
      have hxj : x ≤ j := by
        rcases List.mem_cons.mp hj' with rfl | h
        · exact le_refl _
        · exact ((List.pairwise_cons.mp hrest).1 j h).le
      obtain rfl : j = x := le_antisymm (hnext x (by simp) (hx x List.mem_cons_self)) hxj
      exact ⟨before, rest, by simp⟩

/-- In an ascending list of beams two neighbours are unblocked when two of them are, and no beam of the list stands between. -/
theorem twoOpen_map_iff {l : List Nat} (hl : l.Pairwise (· < ·)) (f : Nat → Bool) :
    twoOpen (l.map f) = true ↔
      ∃ i j, i ∈ l ∧ j ∈ l ∧ i < j ∧ f i = false ∧ f j = false ∧ ∀ n ∈ l, i < n → j ≤ n := by
  rw [twoOpen_iff_infix, List.infix_map_iff]
  constructor
  · rintro ⟨pair, hpair, hfalse⟩
    obtain ⟨i, j, rfl⟩ := List.length_eq_two.mp (by simpa using (congrArg List.length hfalse).symm : pair.length = 2)
    obtain ⟨hi, hj, hij, hnext⟩ := (pair_infix_iff hl).mp hpair
    simp only [List.map_cons, List.map_nil, List.cons.injEq, and_true] at hfalse
    exact ⟨i, j, hi, hj, hij, hfalse.1.symm, hfalse.2.symm, hnext⟩
  · rintro ⟨i, j, hi, hj, hij, hfi, hfj, hnext⟩
    exact ⟨[i, j], (pair_infix_iff hl).mpr ⟨hi, hj, hij, hnext⟩, by simp [hfi, hfj]⟩

/-- The unmasked beams strictly between two beams, over which IRREGULAR is judged (R32). -/
def beamsBetween (mask : BeamSet) (lo hi : Nat) : List Nat :=
  (List.range 128).filter fun n => !mask.getLsbD n && decide (lo < n ∧ n < hi)

/-- A beam between two others is an unmasked one. -/
theorem mem_beamsBetween {mask : BeamSet} {lo hi n : Nat} :
    n ∈ beamsBetween mask lo hi ↔ n < 128 ∧ mask.getLsbD n = false ∧ lo < n ∧ n < hi := by
  simp [beamsBetween]

/-- They stand in ascending order. -/
theorem pairwise_beamsBetween (mask : BeamSet) (lo hi : Nat) : (beamsBetween mask lo hi).Pairwise (· < ·) :=
  List.pairwise_lt_range.filter _

/-- Between the lowest and the highest seen beam, IRREGULAR is two unblocked neighbours among the unmasked beams (R32). -/
theorem scanIrregular_seen {mask blocked : BeamSet} {lo hi : Nat} (hlo : (seenBeams mask blocked).head? = some lo)
    (hhi : (seenBeams mask blocked).getLast? = some hi) :
    scanIrregular mask blocked = twoOpen ((beamsBetween mask lo hi).map fun n => blocked.getLsbD n) := by
  simp only [scanIrregular, hlo, hhi, beamsBetween]

/-- IRREGULAR: two unblocked unmasked beams between two seen ones, every beam between the two being masked (R32). -/
theorem scanIrregular_iff (mask blocked : BeamSet) :
    scanIrregular mask blocked = true ↔
      ∃ lo i j hi, lo < i ∧ i < j ∧ j < hi ∧ lo ∈ seenBeams mask blocked ∧ hi ∈ seenBeams mask blocked
        ∧ (mask.getLsbD i = false ∧ blocked.getLsbD i = false) ∧ (mask.getLsbD j = false ∧ blocked.getLsbD j = false)
        ∧ ∀ n, i < n → n < j → mask.getLsbD n = true := by
  rcases seenBeams_ends mask blocked with hnil | ⟨lo, hi, hfirst, hlast, hlo, hhi, hbounds⟩
  · simp [scanIrregular, hnil]
  have hbound : hi < 128 := (mem_seenBeams.mp hhi).1
  rw [scanIrregular_seen hfirst hlast, twoOpen_map_iff (pairwise_beamsBetween mask lo hi)]
  constructor
  · rintro ⟨i, j, hiBetween, hjBetween, hij, hbi, hbj, hnext⟩
    obtain ⟨-, hmi, hloi, -⟩ := mem_beamsBetween.mp hiBetween
    obtain ⟨-, hmj, -, hjhi⟩ := mem_beamsBetween.mp hjBetween
    refine ⟨lo, i, j, hi, hloi, hij, hjhi, hlo, hhi, ⟨hmi, hbi⟩, ⟨hmj, hbj⟩, fun n hin hnj => ?_⟩
    by_contra hmask
    have hn : n ∈ beamsBetween mask lo hi := mem_beamsBetween.mpr ⟨by omega, by simpa using hmask, by omega, by omega⟩
    exact absurd (hnext n hn hin) (by omega)
  · rintro ⟨lo', i, j, hi', hloi, hij, hjhi, hlo', hhi', ⟨hmi, hbi⟩, ⟨hmj, hbj⟩, hmasked⟩
    have hlow := (hbounds lo' hlo').1
    have hhigh := (hbounds hi' hhi').2
    refine ⟨i, j, mem_beamsBetween.mpr ⟨by omega, hmi, by omega, by omega⟩,
      mem_beamsBetween.mpr ⟨by omega, hmj, by omega, by omega⟩, hij, hbi, hbj, fun n hn hin => ?_⟩
    by_contra hnj
    have hmask := hmasked n hin (by omega)
    simp [(mem_beamsBetween.mp hn).2.1] at hmask

end Sys2Proof.Machine
end

section
/-! Belt travel, count by count (R29). -/

namespace Sys2Proof.Machine

/-- ENCODER_COUNT once there is a configuration. -/
theorem exec_encoderCount {s : State} {cfg : Setup} (hsetup : s.setup = some cfg) (dir : Direction) (wb hb : BeamSet) :
    exec (.encoderCount dir wb hb) s = .next (s.onGauge (Gauge.encoderCount cfg dir wb hb)) := by
  show execEncoderCount dir wb hb s = _
  simp only [execEncoderCount, hsetup]

section
variable (cfg : Setup) (wb hb : BeamSet) {g : Gauge}

/-- Outside PASSING a count is not heeded. -/
theorem Gauge.encoderCount_resting (hpass : g.pass ≠ .passing) (dir : Direction) : g.encoderCount cfg dir wb hb = g := by
  unfold Gauge.encoderCount
  cases hstate : g.pass with
  | passing => exact absurd hstate hpass
  | idle | stalled => rfl

/-- A reverse count takes 1 mm from the length, down to 0. -/
theorem Gauge.encoderCount_reverse (hpass : g.pass = .passing) :
    g.encoderCount cfg .reverse wb hb = { g with length := g.length - 1 } := by
  simp only [Gauge.encoderCount, hpass]

/-- A forward count in PASSING. -/
theorem Gauge.encoderCount_forward (hpass : g.pass = .passing) :
    g.encoderCount cfg .forward wb hb = g.forward cfg wb hb := by
  simp only [Gauge.encoderCount, hpass]

/-- A forward count up to the high-water mark only lengthens. -/
theorem Gauge.forward_retraced (hmark : min (g.length + 1) 65535 ≤ g.highWater) :
    g.forward cfg wb hb = { g with length := min (g.length + 1) 65535 } :=
  if_neg (Nat.not_lt.mpr hmark)

/-- A forward count past the high-water mark restarts the stall timer, and scans at a multiple of 5. -/
theorem Gauge.forward_advanced (hmark : g.highWater < min (g.length + 1) 65535) :
    g.forward cfg wb hb =
      let g' : Gauge :=
        { g with length := min (g.length + 1) 65535, highWater := min (g.length + 1) 65535, stallTimer := 0 }
      if min (g.length + 1) 65535 % 5 = 0 then g'.scan cfg.widthMask cfg.heightMask wb hb else g' :=
  if_pos hmark

end

/-- Settles O22: a scan by its seen beams, then a count by its direction and by where the high-water mark stands. -/
theorem encoderCountMeasuresThePass : Obligations.EncoderCountMeasuresThePass := by
  refine ⟨fun mask blocked => ⟨fun hunseen => ?_, fun lo hi _ hhi128 hlo hhi hwithin => ?_, ?_⟩,
    fun cfg wb hb s hsetup => ?_⟩
  · refine scanExtent_unseen (List.eq_nil_iff_forall_not_mem.mpr fun n hn => ?_)
    obtain ⟨hn128, hmask, hblocked⟩ := mem_seenBeams.mp hn
    simpa [hmask, hblocked] using hunseen n hn128
  · refine scanExtent_seen (mem_seenBeams.mpr ⟨by omega, hlo⟩) (mem_seenBeams.mpr ⟨hhi128, hhi⟩) fun n hn => ?_
    obtain ⟨hn128, hmask, hblocked⟩ := mem_seenBeams.mp hn
    exact hwithin n hn128 hmask hblocked
  · rw [scanIrregular_iff]
    simp only [mem_seenBeams]
    constructor
    · rintro ⟨lo, i, j, hi, hloi, hij, hjhi, ⟨-, hlo⟩, ⟨hhi128, hhi⟩, hrest⟩
      exact ⟨lo, i, j, hi, hloi, hij, hjhi, hhi128, hlo, hhi, hrest⟩
    · rintro ⟨lo, i, j, hi, hloi, hij, hjhi, hhi128, hlo, hhi, hrest⟩
      exact ⟨lo, i, j, hi, hloi, hij, hjhi, ⟨by omega, hlo⟩, ⟨hhi128, hhi⟩, hrest⟩
  · simp only [exec_encoderCount hsetup]
    refine ⟨fun hpass dir => ?_, fun hpass => ?_, fun hpass hmark => ?_, fun hpass hmark hfive => ?_,
      fun hpass hmark hfive => ?_⟩
    · exact next_onGauge_congr (f' := id) (Gauge.encoderCount_resting cfg wb hb hpass dir)
    · exact next_onGauge_congr (Gauge.encoderCount_reverse cfg wb hb hpass)
    all_goals refine next_onGauge_congr ((Gauge.encoderCount_forward cfg wb hb hpass).trans ?_)
    · exact Gauge.forward_retraced cfg wb hb hmark
    · exact (Gauge.forward_advanced cfg wb hb hmark).trans (if_neg hfive)
    · exact (Gauge.forward_advanced cfg wb hb hmark).trans (if_pos hfive)

end Sys2Proof.Machine
end

section
/-! The quote table by itself: the condition that R84, R90 and R94 put on it, and the operations that keep it. -/

namespace Sys2Proof.Machine

/-! ### The quote number counter (R90) -/

/-- A quote number is one of 1 to 65535, and so is the one after it. -/
theorem nextQuoteNumber_range {n : Nat} (h : 1 ≤ n ∧ n ≤ 65535) : 1 ≤ nextQuoteNumber n ∧ nextQuoteNumber n ≤ 65535 := by
  unfold nextQuoteNumber Config.max16
  split <;> omega

/-- The counter goes round the 65535 numbers. -/
theorem iterate_nextQuoteNumber {n : Nat} (h : 1 ≤ n ∧ n ≤ 65535) (i : Nat) :
    nextQuoteNumber^[i] n = (n - 1 + i) % 65535 + 1 := by
  induction i with
  | zero =>
    rw [Function.iterate_zero_apply]
    omega
  | succ i ih =>
    rw [Function.iterate_succ_apply', ih]
    unfold nextQuoteNumber Config.max16
    split <;> omega

/-- Of the counter's next numbers, one more than are held, some one is free: they all differ. -/
theorem exists_free_number {n : Nat} (h : 1 ≤ n ∧ n ≤ 65535) {held : List Nat} (hheld : held.length < 65535) :
    ∃ i ≤ held.length, nextQuoteNumber^[i] n ∉ held := by
  by_contra hall
  simp only [not_exists, not_and, not_not] at hall
  have hdistinct : ((List.range (held.length + 1)).map fun i => nextQuoteNumber^[i] n).Nodup := by
    refine List.Nodup.map_on (fun i hi j hj hij => ?_) List.nodup_range
    rw [List.mem_range] at hi hj
    rw [iterate_nextQuoteNumber h, iterate_nextQuoteNumber h] at hij
    omega
  have hsubset : ((List.range (held.length + 1)).map fun i => nextQuoteNumber^[i] n) ⊆ held := by
    intro x hx
    obtain ⟨i, hi, rfl⟩ := List.mem_map.mp hx
    exact hall i (by rw [List.mem_range] at hi; omega)
  have := hdistinct.length_le_of_subset hsubset
  rw [List.length_map, List.length_range] at this
  omega

/-- The skipping ends at a free number where one lies within its fuel. -/
theorem skipHeld_free (held : List Nat) (fuel : Nat) {n : Nat} (h : ∃ i ≤ fuel, nextQuoteNumber^[i] n ∉ held) :
    skipHeld held fuel n ∉ held := by
  induction fuel generalizing n with
  | zero =>
    obtain ⟨i, hi, hfree⟩ := h
    obtain rfl : i = 0 := by omega
    exact hfree
  | succ fuel ih =>
    rw [skipHeld]
    by_cases hn : n ∈ held
    · rw [if_pos (List.contains_iff_mem.mpr hn)]
      obtain ⟨i, hi, hfree⟩ := h
      cases i with
      | zero => exact absurd hn hfree
      | succ i => exact ih ⟨i, by omega, hfree⟩
    · rw [if_neg fun hc => hn (List.contains_iff_mem.mp hc)]
      exact hn

/-- The skipping stays within the quote numbers. -/
theorem skipHeld_range (held : List Nat) (fuel : Nat) {n : Nat} (h : 1 ≤ n ∧ n ≤ 65535) :
    1 ≤ skipHeld held fuel n ∧ skipHeld held fuel n ≤ 65535 := by
  induction fuel generalizing n with
  | zero => exact h
  | succ fuel ih =>
    rw [skipHeld]
    split
    · exact ih (nextQuoteNumber_range h)
    · exact h

/-- After a quote is stored the counter stands at a number that no quote of the table holds (R90). -/
theorem advanceCounter_spec {held : List Nat} (hheld : held.length < 65535) {n : Nat} (h : 1 ≤ n ∧ n ≤ 65535) :
    1 ≤ advanceCounter held n ∧ advanceCounter held n ≤ 65535 ∧ advanceCounter held n ∉ held := by
  have hnext := nextQuoteNumber_range h
  obtain ⟨hlow, hhigh⟩ := skipHeld_range held held.length hnext
  exact ⟨hlow, hhigh, skipHeld_free held held.length (exists_free_number hnext hheld)⟩

/-! ### The condition on the table -/

/-- The quote table's share of `QuotesSound` (R84, R90, R94). -/
structure QuoteTable.Sound (t : QuoteTable) : Prop where
  room : t.records.length ≤ 4
  distinct : (t.records.map Quote.number).Nodup
  next : 1 ≤ t.nextNumber ∧ t.nextNumber ≤ 65535
  fresh : t.nextNumber ∉ t.records.map Quote.number
  once : t.pendingOrder.Nodup
  pending : ∀ n, n ∈ t.pendingOrder ↔ ∃ q ∈ t.records, q.number = n ∧ q.state ≠ .opened

namespace QuoteTable.Sound

variable {t : QuoteTable}

/-- Two quotes of the table with one number are one quote. -/
theorem eq_of_number (h : t.Sound) {p q : Quote} (hp : p ∈ t.records) (hq : q ∈ t.records) (hn : p.number = q.number) :
    p = q :=
  List.inj_on_of_nodup_map h.distinct hp hq hn

/-- The condition does not speak of the waiting RATE. -/
theorem waiting (h : t.Sound) (w : Option WaitingRate) : ({ t with waiting := w } : QuoteTable).Sound :=
  ⟨h.room, h.distinct, h.next, h.fresh, h.once, h.pending⟩

/-- Quotes that keep their numbers, with a pending order that names those COMMITTING afterwards. -/
theorem map (h : t.Sound) {f : Quote → Quote} (hnumber : ∀ q, (f q).number = q.number) {order : List Nat}
    (honce : order.Nodup) (hpending : ∀ n, n ∈ order ↔ ∃ q ∈ t.records, q.number = n ∧ (f q).state ≠ .opened) :
    ({ t with records := t.records.map f, pendingOrder := order } : QuoteTable).Sound := by
  have hnumbers : (t.records.map f).map Quote.number = t.records.map Quote.number := by
    rw [List.map_map]
    exact List.map_congr_left fun q _ => hnumber q
  refine ⟨by rw [List.length_map]; exact h.room, hnumbers ▸ h.distinct, h.next, hnumbers ▸ h.fresh, honce, fun n => ?_⟩
  rw [hpending]
  constructor
  · rintro ⟨q, hq, rfl, hstate⟩
    exact ⟨f q, List.mem_map_of_mem hq, hnumber q, hstate⟩
  · rintro ⟨p, hp, rfl, hstate⟩
    obtain ⟨q, hq, rfl⟩ := List.mem_map.mp hp
    exact ⟨q, hq, (hnumber q).symm, hstate⟩

/-- Quotes age (R91). -/
theorem elapse (h : t.Sound) (life d : Nat) :
    ({ t with records := t.records.map (Quote.elapse life d) } : QuoteTable).Sound := by
  have hkeeps : ∀ q : Quote, (q.elapse life d).number = q.number ∧ (q.elapse life d).state = q.state := fun q => by
    unfold Quote.elapse
    split <;> exact ⟨rfl, rfl⟩
  exact h.map (fun q => (hkeeps q).1) h.once fun n => by simp only [h.pending, (hkeeps _).2]

/-- A COMMITTING quote returns to OPEN and leaves the pending order (R99, R100). -/
theorem reopen (h : t.Sound) (n : Nat) :
    ({ t with
        records := t.records.map fun q => if q.number = n then { q with state := .opened, ageMs := 0 } else q
        pendingOrder := t.pendingOrder.erase n } : QuoteTable).Sound := by
  refine h.map (fun q => by split <;> rfl) (h.once.erase n) fun m => ?_
  rw [h.once.mem_erase_iff, h.pending]
  constructor
  · rintro ⟨hne, q, hq, rfl, hstate⟩
    exact ⟨q, hq, rfl, by rwa [if_neg hne]⟩
  · rintro ⟨q, hq, rfl, hstate⟩
    by_cases hn : q.number = n
    · simp [hn] at hstate
    · rw [if_neg hn] at hstate
      exact ⟨hn, q, hq, rfl, hstate⟩

/-- An OPEN quote becomes COMMITTING at the end of the pending order (R93, R94). -/
theorem commit (h : t.Sound) {q : Quote} (hq : q ∈ t.records) (hopen : q.state = .opened) (ref : RequestRef) :
    ({ t with
        records := t.records.map fun x => if x.number = q.number then { x with state := .committing ref } else x
        pendingOrder := t.pendingOrder ++ [q.number] } : QuoteTable).Sound := by
  have habsent : q.number ∉ t.pendingOrder := fun hmem => by
    obtain ⟨p, hp, hn, hstate⟩ := (h.pending _).mp hmem
    exact hstate (h.eq_of_number hp hq hn ▸ hopen)
  refine h.map (fun x => by split <;> rfl) (List.Nodup.append h.once (List.nodup_singleton _) (by simpa using habsent))
    fun m => ?_
  rw [List.mem_append, List.mem_singleton, h.pending]
  constructor
  · rintro (⟨p, hp, rfl, hstate⟩ | rfl)
    · refine ⟨p, hp, rfl, ?_⟩
      split
      · simp
      · exact hstate
    · exact ⟨q, hq, rfl, by simp⟩
  · rintro ⟨p, hp, rfl, hstate⟩
    by_cases hn : p.number = q.number
    · exact .inr hn
    · rw [if_neg hn] at hstate
      exact .inl ⟨p, hp, rfl, hstate⟩

/-- A quote leaves the table, and its number the pending order (R101); the others stand before and behind it as they stood. -/
theorem erase (h : t.Sound) {q : Quote} (hq : q ∈ t.records) :
    ({ t with
        records := t.records.eraseP fun x => x.number == q.number
        pendingOrder := t.pendingOrder.erase q.number } : QuoteTable).Sound
      ∧ t.records.Perm (q :: t.records.eraseP fun x => x.number == q.number) := by
  obtain ⟨p, before, behind, -, hp, hall, hrest⟩ :=
    List.exists_of_eraseP (p := fun x : Quote => x.number == q.number) hq (by simp)
  obtain rfl : p = q := h.eq_of_number (by rw [hall]; simp) hq (by simpa using hp)
  have hperm : t.records.Perm (p :: t.records.eraseP fun x => x.number == p.number) := by
    rw [hrest, hall]
    exact List.perm_middle
  have hnumbers := hperm.map Quote.number
  have hdistinct := hnumbers.nodup_iff.mp h.distinct
  rw [List.map_cons, List.nodup_cons] at hdistinct
  refine ⟨⟨List.eraseP_sublist.length_le.trans h.room, hdistinct.2, h.next, fun hmem => h.fresh ?_, h.once.erase _,
    fun n => ?_⟩, hperm⟩
  · exact hnumbers.mem_iff.mpr (List.mem_cons_of_mem _ hmem)
  · rw [h.once.mem_erase_iff, h.pending]
    constructor
    · rintro ⟨hne, x, hx, rfl, hstate⟩
      rcases List.mem_cons.mp (hperm.mem_iff.mp hx) with rfl | hx
      · exact absurd rfl hne
      · exact ⟨x, hx, rfl, hstate⟩
    · rintro ⟨x, hx, rfl, hstate⟩
      refine ⟨fun hn => hdistinct.1 (List.mem_map.mpr ⟨x, hx, hn⟩), x, hperm.mem_iff.mpr (List.mem_cons_of_mem _ hx), rfl,
        hstate⟩

/-- An OPEN quote is stored under the next number, which moves on to a free one (R84, R89, R90). -/
theorem store (h : t.Sound) (hroom : t.records.length < 4) (result : RateResult) :
    let records : List Quote := t.records ++ [{ number := t.nextNumber, state := .opened, ageMs := 0, result := result }]
    ({ t with records := records, nextNumber := advanceCounter (records.map Quote.number) t.nextNumber }
      : QuoteTable).Sound := by
  intro records
  have hlength : records.length = t.records.length + 1 := List.length_append
  have hnumbers : records.map Quote.number = t.records.map Quote.number ++ [t.nextNumber] := List.map_append
  obtain ⟨hlow, hhigh, hfree⟩ :=
    advanceCounter_spec (held := records.map Quote.number) (by rw [List.length_map]; omega) h.next
  refine ⟨by show records.length ≤ 4; omega, ?_, ⟨hlow, hhigh⟩, hfree, h.once, fun n => ?_⟩
  · show (records.map Quote.number).Nodup
    rw [hnumbers]
    exact h.distinct.append (List.nodup_singleton _) (by simpa using h.fresh)
  · rw [h.pending]
    simp [records, or_and_right, exists_or]

end QuoteTable.Sound

end Sys2Proof.Machine
end

section
/-! Quotes and banks in step: the condition as one, what it asks of an operation that changes neither but for quotes reopened,
and of one that replaces a bank (R54, R84, R90, R94, R101, 3.1). -/

namespace Sys2Proof.Machine

/-- A bank that loses a reference counts one less; it keeps its state, but for the RETIRING one that loses its last (R54). -/
theorem Bank.dropped_spec (b : Bank) (h : 0 < b.refs) :
    b.dropped.refs = b.refs - 1 ∧ (0 < b.dropped.refs → b.dropped.state = b.state)
      ∧ (b.dropped.state = b.state ∨ b.dropped.state = .empty) := by
  unfold Bank.dropped
  split
  · exact ⟨by show 0 = _; omega, fun hpos => absurd hpos (Nat.lt_irrefl 0), .inr rfl⟩
  · exact ⟨rfl, fun _ => rfl, .inl rfl⟩

/-- `QuotesSound` and `BanksSound` as one: the quote table's share, and what is asked of each bank. -/
structure State.InStep (s : State) : Prop where
  table : s.quotes.Sound
  count : ∀ id, (s.bank id).refs = s.quotesUnder id
  used : ∀ id, 0 < (s.bank id).refs → (s.bank id).state = .active ∨ (s.bank id).state = .retiring
  single : ∀ id, (s.bank id).state = .loading ∨ (s.bank id).state = .active → (s.bank id.other).state ≠ (s.bank id).state

/-- The condition in the statement's words. -/
theorem inStep_iff (s : State) : s.InStep ↔ QuotesSound s ∧ BanksSound s := by
  constructor
  · intro h
    obtain ⟨hlow, hhigh⟩ := h.table.next
    refine ⟨⟨h.table.room, h.table.distinct, hlow, hhigh, h.table.fresh, h.table.once, h.table.pending, h.count, h.used⟩, ?_⟩
    rintro state hstate ⟨rfl, hb⟩
    exact h.single .a hstate hb
  · rintro ⟨⟨hroom, hdistinct, hlow, hhigh, hfresh, honce, hpending, hcount, hused⟩, hbanks⟩
    refine ⟨⟨hroom, hdistinct, ⟨hlow, hhigh⟩, hfresh, honce, hpending⟩, hcount, hused, fun id hstate hother => ?_⟩
    cases id with
    | a => exact hbanks _ hstate ⟨rfl, hother⟩
    | b => exact hbanks _ hstate ⟨hother, rfl⟩

/-- From `s` to `t` no bank has changed, and of the quotes at most their ages and states: the table is as sound as it was. -/
structure QuotesKept (s t : State) : Prop where
  bank : ∀ id, t.bank id = s.bank id
  under : ∀ id, t.quotesUnder id = s.quotesUnder id
  table : s.quotes.Sound → t.quotes.Sound

namespace QuotesKept

variable {s t : State}

/-- Nothing has happened. -/
theorem refl (s : State) : QuotesKept s s := ⟨fun _ => rfl, fun _ => rfl, id⟩

/-- One operation after another. -/
theorem trans {u : State} (h : QuotesKept s t) (h' : QuotesKept t u) : QuotesKept s u :=
  ⟨fun id => (h'.bank id).trans (h.bank id), fun id => (h'.under id).trans (h.under id), fun hs => h'.table (h.table hs)⟩

/-- An operation that leaves the quote table, but perhaps the waiting RATE, and the banks. -/
theorem same {u : State} (h : QuotesKept s t) (hbank : ∀ id, u.bank id = t.bank id)
    (hquotes : u.quotes = { t.quotes with waiting := u.quotes.waiting }) : QuotesKept s u := by
  refine h.trans ⟨hbank, fun id => ?_, fun ht => hquotes ▸ ht.waiting _⟩
  unfold State.quotesUnder
  rw [hquotes]

/-- A chain of operations keeps what each of them keeps. -/
theorem foldl {α : Type} {f : State → α → State} (h : QuotesKept s t) (hf : ∀ u x, QuotesKept s u → QuotesKept s (f u x))
    (l : List α) : QuotesKept s (l.foldl f t) := by
  induction l generalizing t with
  | nil => exact h
  | cons x l ih => exact ih (hf t x h)

/-- Either branch of a condition. -/
theorem ite {u : State} {c : Prop} [Decidable c] (ht : QuotesKept s t) (hu : QuotesKept s u) :
    QuotesKept s (if c then t else u) := by
  split
  · exact ht
  · exact hu

end QuotesKept

namespace State.InStep

variable {s t : State}

/-- What changes neither banks nor quotes, but for quotes reopened, keeps them in step. -/
theorem of_kept (h : s.InStep) (hkept : QuotesKept s t) : t.InStep := by
  refine ⟨hkept.table h.table, fun id => ?_, fun id => ?_, fun id => ?_⟩
  · rw [hkept.bank, hkept.under, h.count]
  · rw [hkept.bank]
    exact h.used id
  · rw [hkept.bank, hkept.bank]
    exact h.single id

/-- What touches neither banks nor quotes keeps them in step. -/
theorem same (h : s.InStep) (hbank : ∀ id, t.bank id = s.bank id)
    (hquotes : t.quotes = { s.quotes with waiting := t.quotes.waiting }) : t.InStep :=
  h.of_kept ((QuotesKept.refl s).same hbank hquotes)

/-- Either branch of a condition. -/
theorem ite {c : Prop} [Decidable c] (hs : s.InStep) (ht : t.InStep) : (if c then s else t).InStep := by
  split
  · exact hs
  · exact ht

/-- A bank that is EMPTY, LOADING or READY has no quotes. -/
theorem refs_zero (h : s.InStep) (id : BankId) (hactive : (s.bank id).state ≠ .active)
    (hretiring : (s.bank id).state ≠ .retiring) : (s.bank id).refs = 0 := by
  by_contra hrefs
  rcases h.used id (Nat.pos_of_ne_zero hrefs) with hstate | hstate
  · exact hactive hstate
  · exact hretiring hstate

/-- A bank is replaced: by one with as many quotes, ACTIVE or RETIRING if it has some, and neither LOADING nor ACTIVE beside
another such. -/
theorem setBank (h : s.InStep) (id : BankId) {b : Bank} (hrefs : b.refs = (s.bank id).refs)
    (hused : 0 < b.refs → b.state = .active ∨ b.state = .retiring)
    (hsingle : b.state = .loading ∨ b.state = .active → (s.bank id.other).state ≠ b.state) : (s.setBank id b).InStep := by
  refine ⟨by rw [State.setBank_quotes]; exact h.table, fun j => ?_, fun j => ?_, fun j => ?_⟩
  · have hunder : (s.setBank id b).quotesUnder j = s.quotesUnder j := by
      unfold State.quotesUnder
      rw [State.setBank_quotes]
    rw [bank_setBank, hunder]
    split
    · rename_i hj
      rw [hrefs, hj, h.count]
    · exact h.count j
  · rw [bank_setBank]
    split
    · exact hused
    · exact h.used j
  · by_cases hj : id = j
    · subst hj
      rw [bank_setBank_self, Sys2Proof.Machine.bank_setBank_other]
      exact hsingle
    · obtain rfl : j = id.other := by cases id <;> cases j <;> simp_all [BankId.other]
      rw [other_other, bank_setBank_self, Sys2Proof.Machine.bank_setBank_other]
      intro hstate heq
      rw [← heq] at hstate
      exact hsingle hstate heq.symm

/-- A bank without quotes is replaced by one that is neither LOADING nor ACTIVE and has none. -/
theorem setBank_idle (h : s.InStep) (id : BankId) {b : Bank} (hrefs : (s.bank id).refs = 0) (hb : b.refs = 0)
    (hloading : b.state ≠ .loading) (hactive : b.state ≠ .active) : (s.setBank id b).InStep :=
  h.setBank id (hb.trans hrefs.symm) (fun hpos => absurd hb (Nat.pos_iff_ne_zero.mp hpos))
    fun hstate => (hstate.elim hloading hactive).elim

/-- A quote has left the table, and nothing of the table or the banks has changed since but quotes reopened: with its reference
dropped they are in step (R54, R101). -/
theorem dropRef_removed (h : s.InStep) {q : Quote} (hq : q ∈ s.quotes.records)
    (hkept : QuotesKept
      { s with
        quotes :=
        { s.quotes with
          records := s.quotes.records.eraseP fun x => x.number == q.number
          pendingOrder := s.quotes.pendingOrder.erase q.number } } t) : (t.dropRef q.result.bank).InStep := by
  obtain ⟨htable, hperm⟩ := h.table.erase hq
  have hbank : ∀ j, t.bank j = s.bank j := fun j => by
    rw [hkept.bank]
    cases j <;> rfl
  have hunder : ∀ j, s.quotesUnder j = t.quotesUnder j + if q.result.bank = j then 1 else 0 := fun j => by
    rw [hkept.under, State.quotesUnder, hperm.countP_eq, List.countP_cons]
    simp only [decide_eq_true_eq]
    rfl
  have hown := hunder q.result.bank
  rw [if_pos rfl] at hown
  have hcount := h.count q.result.bank
  obtain ⟨hrefs, hsame, hstate⟩ := (s.bank q.result.bank).dropped_spec (by omega)
  rw [dropRef_eq, hbank]
  refine ⟨by rw [State.setBank_quotes]; exact hkept.table htable, fun j => ?_, fun j => ?_, fun j => ?_⟩
  · have hj := hunder j
    have hquotes : (t.setBank q.result.bank (s.bank q.result.bank).dropped).quotesUnder j = t.quotesUnder j := by
      unfold State.quotesUnder
      rw [State.setBank_quotes]
    rw [bank_setBank, hquotes, hbank]
    split
    · rename_i he
      subst he
      omega
    · rename_i hne
      rw [if_neg hne] at hj
      rw [h.count, hj, Nat.add_zero]
  · rw [bank_setBank, hbank]
    split
    · rename_i he
      subst he
      intro hpos
      rw [hsame hpos]
      exact h.used _ (by omega)
    · exact h.used j
  · have hdrop : ∀ k, ((t.setBank q.result.bank (s.bank q.result.bank).dropped).bank k).state = (s.bank k).state
        ∨ ((t.setBank q.result.bank (s.bank q.result.bank).dropped).bank k).state = .empty := fun k => by
      rw [bank_setBank, hbank]
      split
      · rename_i he
        exact he ▸ hstate
      · exact .inl rfl
    intro hpair heq
    have hstays : ∀ k, ((t.setBank q.result.bank (s.bank q.result.bank).dropped).bank k).state =
        ((t.setBank q.result.bank (s.bank q.result.bank).dropped).bank j).state →
        ((t.setBank q.result.bank (s.bank q.result.bank).dropped).bank k).state = (s.bank k).state := fun k hk =>
      (hdrop k).resolve_right fun hempty => by simp [hk.symm.trans hempty] at hpair
    have hj := hstays j rfl
    rw [hj] at hpair
    exact h.single j hpair ((hstays j.other heq).symm.trans (heq.trans hj))

end State.InStep

end Sys2Proof.Machine
end

section
/-! Which operations leave the banks and, but for quotes reopened, the quote table: the quote table's own refusals, the bag table,
the number allocator, the hall line, and START, in the order of the definitions they speak of. -/

namespace Sys2Proof.Machine.QuotesKept

variable {s t : State}

/-- An operation on fields that neither banks nor quotes stand in. -/
theorem beside (h : QuotesKept s t) {u : State} (htariff : u.tariff = t.tariff) (hquotes : u.quotes = t.quotes) :
    QuotesKept s u :=
  h.same (fun id => by cases id <;> simp only [State.bank, htariff]) (by rw [hquotes])

/-! ### The elementary operations -/

theorem onHall (h : QuotesKept s t) (f : Hall → Hall) : QuotesKept s (t.onHall f) := h.beside rfl rfl

theorem modifyPeer (h : QuotesKept s t) (n : Nat) (f : Peer → Peer) : QuotesKept s (t.modifyPeer n f) :=
  h.beside rfl rfl

theorem modifySlot (h : QuotesKept s t) (k : Nat) (f : Slot → Slot) : QuotesKept s (t.modifySlot k f) :=
  h.beside rfl rfl

theorem modifyColumn (h : QuotesKept s t) (station k : Nat) (f : List Nat → List Nat) :
    QuotesKept s (t.modifyColumn station k f) :=
  h.beside rfl rfl

theorem reply (h : QuotesKept s t) (r : RequestRef) (b : Reply) : QuotesKept s (t.reply r b) := h.beside rfl rfl

theorem enqueue (h : QuotesKept s t) (body : FrameBody) : QuotesKept s (t.enqueue body) := h.beside rfl rfl

theorem notify (h : QuotesKept s t) (n : Notice) : QuotesKept s (t.notify n) := h.beside rfl rfl

theorem dueOffer (h : QuotesKept s t) : QuotesKept s t.dueOffer := h.beside rfl rfl

theorem dueServe (h : QuotesKept s t) : QuotesKept s t.dueServe := h.beside rfl rfl

/-! ### The quote table -/

/-- Quotes age (R91). -/
theorem elapse (h : QuotesKept s t) (d : Nat) : QuotesKept s (t.elapse d) := by
  have hresult : ∀ (life : Nat) (q : Quote), (q.elapse life d).result = q.result := fun life q => by
    unfold Quote.elapse
    split <;> rfl
  refine h.trans ⟨fun _ => rfl, fun id => ?_, fun ht => (ht.elapse _ d).waiting _⟩
  simp only [State.quotesUnder, State.elapse, List.countP_map, Function.comp_def, hresult]

/-- A COMMIT is refused, and its quote OPEN again (R99, R100). -/
theorem reopen (h : QuotesKept s t) (reason : Reason) (n : Nat) : QuotesKept s (t.reopen reason n) := by
  unfold State.reopen
  split
  · exact h
  · split
    · exact h
    · refine h.trans ⟨fun _ => rfl, fun id => ?_, fun ht => ht.reopen n⟩
      have hresult : ∀ q : Quote,
          (if q.number = n then { q with state := .opened, ageMs := 0 } else q).result = q.result := fun q => by
        split <;> rfl
      simp only [State.quotesUnder, State.refuse, State.reply_quotes, State.modifyQuote_quotes, List.countP_map,
        Function.comp_def, hresult]

theorem refuseNoNumbers (h : QuotesKept s t) (letter : Nat) : QuotesKept s (t.refuseNoNumbers letter) :=
  h.foldl (fun _ n hu => hu.reopen _ n) _

theorem refuseMuted (h : QuotesKept s t) : QuotesKept s t.refuseMuted :=
  h.foldl (fun _ n hu => hu.reopen _ n) _

/-- The waiting RATE is refused (R88). -/
theorem refuseWaiting (h : QuotesKept s t) (scale : ScaleState) : QuotesKept s (t.refuseWaiting scale) := by
  unfold State.refuseWaiting
  split
  · exact h.same (fun _ => rfl) rfl
  · exact h

/-! ### The bag table -/

theorem modifyRow (h : QuotesKept s t) (r : Nat) (f : Row → Row) : QuotesKept s (t.modifyRow r f) := h.beside rfl rfl

theorem postedAtBags (h : QuotesKept s t) (route bag w : Nat) : QuotesKept s (t.postedAtBags route bag w) := by
  unfold State.postedAtBags
  refine .ite ?_ h
  cases (t.row route).follow with
  | fresh => exact h.modifyRow _ _
  | followed =>
    cases judge bag (t.row route).seq with
    | equal | ahead => exact h.modifyRow _ _
    | behind => exact h.beside rfl rfl

theorem bagnextHeard (h : QuotesKept s t) (route bag : Nat) : QuotesKept s (t.bagnextHeard route bag) := by
  unfold State.bagnextHeard
  refine .ite ?_ h
  cases (t.row route).follow with
  | fresh => exact h.modifyRow _ _
  | followed =>
    cases judge bag (t.row route).seq with
    | ahead => exact h.modifyRow _ _
    | equal | behind => exact h

theorem bagClose (h : QuotesKept s t) (r : RequestRef) (route : Nat) : QuotesKept s (t.bagClose r route) :=
  .ite (((h.modifyRow _ _).reply _ _).modifyRow _ _).dueOffer ((h.modifyRow _ _).reply _ _)

/-! ### The number allocator -/

theorem withdraw (h : QuotesKept s t) (body : FrameBody) : QuotesKept s (t.withdraw body) :=
  .ite (h.beside rfl rfl) h

theorem reviewSupply (h : QuotesKept s t) (k : Nat) : QuotesKept s (t.reviewSupply k) := by
  unfold State.reviewSupply
  split
  · exact h
  · dsimp only
    split
    · split <;> exact h.beside rfl rfl
    · split
      · exact ((h.modifySlot _ _).notify _).refuseNoNumbers _
      · exact h.beside rfl rfl

theorem testNeed (h : QuotesKept s t) (k : Nat) : QuotesKept s (t.testNeed k) := by
  unfold State.testNeed
  split
  · exact h
  · split
    · split
      · exact h.reviewSupply k
      · exact (h.modifySlot _ _).dueOffer.reviewSupply k
    · exact h

theorem loseClaim (h : QuotesKept s t) (k block : Nat) : QuotesKept s (t.loseClaim k block) := by
  unfold State.loseClaim
  split
  · exact h
  · exact ((((QuotesKept.ite (h.withdraw _) h).withdraw _).modifySlot _ _).reviewSupply k).testNeed k

theorem oweHeld (h : QuotesKept s t) (k block : Nat) : QuotesKept s (t.oweHeld k block) := by
  unfold State.oweHeld
  split
  · exact h
  · exact .ite (h.beside rfl rfl) h

theorem winClaim (h : QuotesKept s t) (k block : Nat) : QuotesKept s (t.winClaim k block) := by
  unfold State.winClaim
  split
  · exact h
  · have hwon := fun f n => (((h.modifySlot k f).notify n).reviewSupply k).testNeed k
    exact .ite (hwon _ _).dueServe (hwon _ _)

theorem logConflict (h : QuotesKept s t) (r : ConflictRecord) : QuotesKept s (t.logConflict r) :=
  .ite (.ite (h.beside rfl rfl) (h.beside rfl rfl)) (h.beside rfl rfl)

theorem logTake (h : QuotesKept s t) (r : RequestRef) : QuotesKept s (t.logTake r) := by
  unfold State.logTake
  split <;> exact h.beside rfl rfl

theorem withdrawBlock (h : QuotesKept s t) (k block : Nat) : QuotesKept s (t.withdrawBlock k block) := by
  unfold State.withdrawBlock
  split
  · exact h
  · have hmoved : ∀ u : State, QuotesKept s u → QuotesKept s (((u.oweHeld k block).reviewSupply k).testNeed k) :=
      fun u hu => ((hu.oweHeld k block).reviewSupply k).testNeed k
    exact hmoved _ (.ite (.ite (h.beside rfl rfl) (h.beside rfl rfl)) (h.beside rfl rfl))

theorem issueSerial (h : QuotesKept s t) (k : Nat) (c : CurrentBlock) : QuotesKept s (t.issueSerial k c) :=
  .ite (((h.modifySlot _ _).testNeed k).reviewSupply k) (((h.modifySlot _ _).dueOffer.testNeed k).reviewSupply k)

theorem markHeard (h : QuotesKept s t) (k : Nat) (kind : FrameKind) (station : Nat) (serial : Option Nat) (block : Nat) :
    QuotesKept s (t.markHeard k kind station serial block) := by
  unfold State.markHeard
  split
  · exact h
  · exact .ite (.ite h (h.beside rfl rfl)) (.ite (h.logConflict _) h)

theorem marksHeard (h : QuotesKept s t) (k : Nat) (kind : FrameKind) (station : Nat) (serial : Option Nat)
    (blocks : List Nat) : QuotesKept s (t.marksHeard k kind station serial blocks) :=
  (h.foldl (fun _ b hu => hu.markHeard k kind station serial b) blocks).reviewSupply k

theorem loseIfClaimed (h : QuotesKept s t) (k : Nat) (blocks : List Nat) : QuotesKept s (t.loseIfClaimed k blocks) := by
  unfold State.loseIfClaimed
  split
  · exact h
  · split
    · exact h
    · exact .ite (h.loseClaim _ _) h

theorem claimHeard (h : QuotesKept s t) (station letter block : Nat) : QuotesKept s (t.claimHeard station letter block) := by
  unfold State.claimHeard
  split
  · exact h
  · rename_i k _
    have hmarked := h.marksHeard k .claim station none [block]
    refine modifyColumn ?_ _ _ _
    split
    · exact hmarked
    · exact .ite (hmarked.loseClaim _ _) (.ite (hmarked.oweHeld _ _) hmarked)

theorem heldHeard (h : QuotesKept s t) (station letter block : Nat) : QuotesKept s (t.heldHeard station letter block) := by
  unfold State.heldHeard
  split
  · exact h
  · rename_i k _
    have hmarked := (h.marksHeard k .held station none [block]).loseIfClaimed k [block]
    refine modifyColumn (foldl ?_ (fun _ _ hu => .ite hu (hu.modifyColumn _ _ _)) _) _ _ _
    split
    · exact hmarked
    · exact .ite ((hmarked.withdrawBlock _ _).logConflict _) hmarked

theorem spentHeard (h : QuotesKept s t) (station letter block : Nat) : QuotesKept s (t.spentHeard station letter block) := by
  unfold State.spentHeard
  split
  · exact h
  · exact ((h.marksHeard _ _ _ _ _).loseIfClaimed _ _).modifyColumn _ _ _

theorem holdsHeard (h : QuotesKept s t) (station letter : Nat) (blocks : List Nat) :
    QuotesKept s (t.holdsHeard station letter blocks) := by
  unfold State.holdsHeard
  split
  · exact h
  · exact ((h.marksHeard _ _ _ _ _).loseIfClaimed _ _).modifyColumn _ _ _

theorem checkPosted (h : QuotesKept s t) (k station letter serial : Nat) :
    QuotesKept s (t.checkPosted k station letter serial) := by
  unfold State.checkPosted
  dsimp only
  split
  · exact h
  · exact .ite ((h.logConflict _).withdrawBlock _ _) (.ite h (h.logConflict _))

theorem postedHeard (h : QuotesKept s t) (station letter serial : Nat) :
    QuotesKept s (t.postedHeard station letter serial) := by
  unfold State.postedHeard
  split
  · exact h
  · exact ((h.marksHeard _ _ _ _ _).loseIfClaimed _ _).checkPosted _ _ _ _

theorem joinHeard (h : QuotesKept s t) : QuotesKept s t.joinHeard :=
  .ite (h.beside rfl rfl) h

theorem mapLoad (h : QuotesKept s t) (r : RequestRef) (letter startBlock : Nat) (span : List Bool) :
    QuotesKept s (t.mapLoad r letter startBlock span) := by
  unfold State.mapLoad
  split
  · exact h.beside rfl rfl
  · split
    · exact h.beside rfl rfl
    · split
      case h_1 | h_2 => exact h.beside rfl rfl
      all_goals
        split
        · exact h
        · exact ((h.modifySlot _ _).reply _ _).reviewSupply _

theorem muteNumbers (h : QuotesKept s t) : QuotesKept s t.muteNumbers := by
  refine foldl (h.beside ?_ ?_) (fun _ k hu => hu.reviewSupply k) _ <;> rfl

/-! ### Owed items -/

/-- Of the tariff store, an item that enters can touch the owed CUTOVER alone (R53, R157). -/
theorem offerItem (h : QuotesKept s t) (i : OwedItem) : QuotesKept s (t.offerItem i) := by
  refine .ite (h.same (fun _ => ?_) ?_) h
  all_goals cases i <;> rfl

theorem offerOwed (h : QuotesKept s t) : QuotesKept s t.offerOwed :=
  .ite (h.foldl (fun _ i hu => hu.offerItem i) _) h

theorem offerSlot (h : QuotesKept s t) (k : Nat) : QuotesKept s (t.offerSlot k) := by
  unfold State.offerSlot
  split
  · exact h
  · exact h.foldl (fun _ i hu => hu.offerItem i) _

/-! ### The hall line -/

/-- Muting cancels the owed CUTOVER, and no bank changes (R53, R169). -/
theorem enterMuted (h : QuotesKept s t) (sender : Nat) (kind : Option FrameKind) :
    QuotesKept s (t.enterMuted sender kind) := by
  have hcancelled := fun u : State => fun (hbank : ∀ id, u.bank id = t.bank id) (hquotes : u.quotes = t.quotes) =>
    (h.same hbank (by rw [hquotes])).muteNumbers
  exact (((hcancelled _ (fun _ => by rfl) (by rfl)).onHall _).notify _).refuseMuted

theorem joinHall (h : QuotesKept s t) (group : Nat) : QuotesKept s (t.joinHall group) := by
  exact .ite (((h.onHall _).enterMuted _ _).modifyPeer _ _) (((h.onHall _).modifyPeer _ _).onHall _).dueOffer

theorem failAttempt (h : QuotesKept s t) (f : Frame) : QuotesKept s (t.failAttempt f) :=
  .ite (((h.onHall _).onHall _).notify _) (h.onHall _)

theorem frameSent (h : QuotesKept s t) (f : Frame) : QuotesKept s (t.frameSent f) := by
  unfold State.frameSent State.claimSent
  split
  · split <;> exact h.beside rfl rfl
  all_goals exact h.beside rfl rfl

theorem transmitted (h : QuotesKept s t) (f : Frame) (acknowledged : Bool) :
    QuotesKept s (t.transmitted f acknowledged) :=
  ((h.onHall _).frameSent f).dueOffer.dueServe

theorem endCensus (h : QuotesKept s t) : QuotesKept s t.endCensus :=
  (foldl ((h.onHall _).notify _) (fun _ k hu => hu.testNeed k) _).dueServe

/-! ### START and STATUS -/

theorem takeStart (h : QuotesKept s t) (r : RequestRef) (b : StartBody) : QuotesKept s (t.takeStart r b) := by
  have hconfigured : QuotesKept s (t.configure (startSetup b)) := h.beside rfl rfl
  exact .ite ((hconfigured.joinHall b.group).reply _ _) (h.beside rfl rfl)

theorem takeStatus (h : QuotesKept s t) (r : RequestRef) (sect : Nat) : QuotesKept s (t.takeStatus r sect) := by
  unfold State.takeStatus
  split <;> exact h.beside rfl rfl

end Sys2Proof.Machine.QuotesKept
end

section
/-! Quotes and banks stay in step through what stores and removes quotes and what replaces a bank, and so through every command. -/

namespace Sys2Proof.Machine

/-! ### What the searches find -/

/-- A quote found by its number stands in the table under it. -/
theorem quote?_spec {s : State} {n : Nat} {q : Quote} (h : s.quote? n = some q) : q ∈ s.quotes.records ∧ q.number = n :=
  ⟨List.mem_of_find?_eq_some h, by simpa using List.find?_some h⟩

/-- A bank found by its state is in it. -/
theorem bankIn_spec {s : State} {state : BankState} {id : BankId} (h : s.bankIn state = some id) :
    (s.bank id).state = state := by
  unfold State.bankIn at h
  split_ifs at h with ha hb <;> cases h
  · exact ha
  · exact hb

/-- The bank that a heard CUTOVER activates is READY with its version (R55). -/
theorem readyBank_spec {s : State} {v : Nat} {id : BankId} (h : s.readyBank v = some id) :
    (s.bank id).state = .ready ∧ (s.bank id).version = v := by
  unfold State.readyBank at h
  dsimp only at h
  split at h
  · rename_i ha hb
    cases h
    split
    · exact of_decide_eq_true hb
    · exact of_decide_eq_true ha
  · rename_i ha _
    cases h
    exact of_decide_eq_true ha
  · rename_i _ hb
    cases h
    exact of_decide_eq_true hb
  · cases h

/-- The last stages put the bank they are given into the result (R81). -/
theorem priceResult_bank {cfg : Setup} {p : Product} {id : BankId} {version : Nat} {body : RateBody} {z : ZoneAnswer}
    {settleNumber : Option Nat} {wa wc : Nat} {wv : Option Nat} {dims : Option Dims} {band : BandRecord} {low : Nat}
    {surcharge : Option Surcharge} {result : RateResult}
    (h : priceResult cfg p id version body z settleNumber wa wc wv dims band low surcharge = .ok result) :
    result.bank = id := by
  unfold priceResult at h
  dsimp only at h
  split at h
  · cases h
  · obtain ⟨_, h⟩ | ⟨_, h⟩ := ite_eq_iff.mp h <;> cases h
    rfl

/-- So do the stages of a product (R67). -/
theorem rateProduct_bank {cfg : Setup} {p : Product} {slot : Nat} {id : BankId} {bank : Bank} {body : RateBody}
    {settleNumber : Option Nat} {wa : Nat} {dims : Option Dims} {result : RateResult}
    (h : rateProduct cfg p slot id bank body settleNumber wa dims = .ok result) : result.bank = id := by
  unfold rateProduct at h
  split at h
  · cases h
  · split at h
    · cases h
    · split at h
      · cases h
      · dsimp only at h
        split_ifs at h
        split at h
        · cases h
        · exact priceResult_bank h

/-- A result is priced under the ACTIVE bank (R67). -/
theorem compute_bank {s : State} {body : RateBody} {result : RateResult} (h : s.compute body = .ok result) :
    (s.bank result.bank).state = .active := by
  unfold State.compute at h
  split at h
  · rename_i id cfg hactive _
    have hbank : result.bank = id := by
      split at h
      · split at h
        · split at h
          · exact rateProduct_bank h
          · cases h
        · cases h
      all_goals cases h
    rw [hbank]
    exact bankIn_spec hactive
  · cases h

namespace State.InStep

variable {s t : State}

/-- An operation on fields that neither banks nor quotes stand in. -/
theorem beside (h : s.InStep) (htariff : t.tariff = s.tariff) (hquotes : t.quotes = s.quotes) :
    t.InStep :=
  h.of_kept ((QuotesKept.refl s).beside htariff hquotes)

theorem reply (h : s.InStep) (r : RequestRef) (b : Reply) : (s.reply r b).InStep := h.beside rfl rfl

theorem done (h : s.InStep) (r : RequestRef) (b : DoneBody) : (s.done r b).InStep := h.beside rfl rfl

theorem refuse (h : s.InStep) (r : RequestRef) (reason : Reason) : (s.refuse r reason).InStep := h.beside rfl rfl

theorem notify (h : s.InStep) (n : Notice) : (s.notify n).InStep := h.beside rfl rfl

theorem onWeighing (h : s.InStep) (f : Weighing → Weighing) : (s.onWeighing f).InStep := h.beside rfl rfl

theorem onLink (h : s.InStep) (f : Link → Link) : (s.onLink f).InStep := h.beside rfl rfl

/-- The load cursor moves. -/
theorem withCursor (h : s.InStep) (c : Cursor) : (s.withCursor c).InStep := h.same (fun _ => rfl) rfl

theorem clearWaiting (h : s.InStep) : s.clearWaiting.InStep := h.same (fun _ => rfl) rfl

theorem elapse (h : s.InStep) (d : Nat) : (s.elapse d).InStep := h.of_kept ((QuotesKept.refl s).elapse d)

/-! ### The quote table -/

/-- A quote is stored under the ACTIVE bank (R54, R84, R89, R90). -/
theorem storeOutcome (h : s.InStep) (r : RequestRef) {outcome : Except Reason RateResult}
    (hbank : ∀ result, outcome = .ok result → (s.bank result.bank).state = .active) :
    (s.storeOutcome r outcome).InStep := by
  unfold State.storeOutcome
  split
  · exact h.refuse _ _
  · rename_i result
    split
    · exact h.refuse _ _
    · rename_i hroom
      have htable := h.table.store (Nat.lt_of_not_le hroom) result
      refine reply ?_ _ _
      have hactive := hbank result rfl
      refine ⟨by simpa only [State.takeRef, State.setBank_quotes] using htable, fun j => ?_, fun j => ?_, fun j => ?_⟩
      all_goals simp only [State.takeRef, bank_setBank, State.quotesUnder, State.setBank_quotes]
      · have hcount : (s.bank j).refs = s.quotesUnder j := h.count j
        rw [List.countP_append, List.countP_singleton]
        by_cases hj : result.bank = j
        · subst hj
          simp only [if_true, decide_true]
          exact congrArg (· + 1) hcount
        · simp only [hj, if_false, decide_false, Bool.false_eq_true]
          exact hcount
      · split
        · exact fun _ => .inl hactive
        · exact h.used j
      · have hstate : ∀ k, (if result.bank = k then
            ({ s.bank result.bank with refs := (s.bank result.bank).refs + 1 } : Bank) else s.bank k).state =
              (s.bank k).state := fun k => by
          split
          · rename_i hk
            rw [hk]
          · rfl
        exact fun hpair heq => h.single j (hstate j ▸ hpair) ((hstate j.other).symm.trans (heq.trans (hstate j)))

/-- The outcome of a computation is stored (R67, R89). -/
theorem storeComputed (h : s.InStep) (r : RequestRef) (body : RateBody) : (s.storeOutcome r (s.compute body)).InStep :=
  h.storeOutcome r fun _ hok => compute_bank hok

theorem releaseWaiting (h : s.InStep) : s.releaseWaiting.InStep := by
  unfold State.releaseWaiting
  split
  · exact h
  · exact h.clearWaiting.storeComputed _ _

theorem tellScale (h : s.InStep) (scale : ScaleState) : (s.tellScale scale).InStep := by
  cases scale with
  | settled => exact h.releaseWaiting
  | empty | range | sensor => exact h.of_kept ((QuotesKept.refl s).refuseWaiting _)
  | noZero | moving => exact h

theorem takeRate (h : s.InStep) (r : RequestRef) (body : RateBody) : (s.takeRate r body).InStep := by
  unfold State.takeRate
  split
  · exact h.refuse _ _
  · split
    · exact h.storeComputed _ _
    · split
      case h_5 => exact h.storeComputed _ _
      case h_6 =>
        split
        · exact h.same (fun _ => rfl) rfl
        · exact h.refuse _ _
      all_goals exact h.refuse _ _

theorem removeQuote (h : s.InStep) {q : Quote} (hq : q ∈ s.quotes.records) : (s.removeQuote q).InStep :=
  h.dropRef_removed hq (.refl _)

/-- A quote that has aged meanwhile is removed (R91). -/
theorem expire (h : s.InStep) {q : Quote} (hq : q ∈ s.quotes.records) (d : Nat) : ((s.elapse d).removeQuote q).InStep := by
  have haged : ∀ life, (q.elapse life d).number = q.number ∧ (q.elapse life d).result = q.result := fun life => by
    unfold Quote.elapse
    split <;> exact ⟨rfl, rfl⟩
  simpa only [State.removeQuote, haged] using (h.elapse d).removeQuote (List.mem_map_of_mem (f := Quote.elapse _ d) hq)

theorem takeCancel (h : s.InStep) (r : RequestRef) (n : Nat) : (s.takeCancel r n).InStep := by
  unfold State.takeCancel
  split
  · exact h.refuse _ _
  · rename_i q hq
    have hremoved := h.removeQuote (quote?_spec hq).1
    split
    · exact hremoved.done _ _
    · exact (hremoved.refuse _ _).done _ _

theorem takeCommit (h : s.InStep) (r : RequestRef) (n : Nat) : (s.takeCommit r n).InStep := by
  unfold State.takeCommit
  split
  · exact h.refuse _ _
  · rename_i q hq
    obtain ⟨hmem, rfl⟩ := quote?_spec hq
    split_ifs with hopen
    · exact h.refuse _ _
    · exact h.refuse _ _
    · exact h.refuse _ _
    · refine h.of_kept ⟨fun _ => rfl, fun id => ?_, fun ht => ht.commit hmem (not_not.mp hopen) r⟩
      have hresult : ∀ x : Quote, (if x.number = q.number then { x with state := .committing r } else x).result = x.result :=
        fun x => by split <;> rfl
      simp only [State.quotesUnder, State.dueServe_quotes, State.modifyQuote_quotes, List.countP_map, Function.comp_def,
        hresult]

/-- A completion removes its quote; the draw of the serial may reopen others (R97, R99). -/
theorem complete (h : s.InStep) {q : Quote} (hq : q ∈ s.quotes.records) (commit : RequestRef) (k : Nat) (c : CurrentBlock) :
    (s.complete q commit k c).InStep := by
  have hdrawn : ∀ u : State, QuotesKept u (u.drawSerial k c).1 := fun u => by
    have hcleared : QuotesKept u { u with scratch := { u.scratch with offerDue := false } } :=
      (QuotesKept.refl u).beside rfl rfl
    exact (hcleared.issueSerial k c).beside rfl rfl
  have hposted : ∀ (u : State) (body : FrameBody),
      QuotesKept u (((u.drawSerial k c).1.assignBag q.result.route q.result.wa).enqueue body) :=
    fun u _ => (hdrawn u).beside rfl rfl
  exact h.dropRef_removed hq (QuotesKept.reply (.ite ((hposted _ _).offerSlot k) (hposted _ _)) _ _)

theorem judgeEntry (h : s.InStep) (n : Nat) : (s.judgeEntry n).InStep := by
  unfold State.judgeEntry
  split
  · exact h
  · rename_i q hq
    split
    · exact h
    · split
      · exact h
      · exact h.complete (quote?_spec hq).1 _ _ _

theorem serve (h : s.InStep) : s.serve.InStep := by
  unfold State.serve
  induction s.quotes.pendingOrder generalizing s with
  | nil => exact h
  | cons n ns ih => exact ih (h.judgeEntry n)

/-- What an event makes due, and its messages (R95, R157, R179). -/
theorem finish (h : s.InStep) (own : Nat) (order : RoomOrder) : (s.finish own order).InStep := by
  have hserve : ∀ u : State, u.InStep → u.serveIfDue.InStep := fun u hu => .ite hu.serve hu
  have hoffer : ∀ u : State, u.InStep → u.offerIfDue.InStep := fun u hu =>
    .ite (hu.of_kept (QuotesKept.refl u).offerOwed) hu
  cases order with
  | servingFirst => exact (hoffer _ (hserve _ h)).beside rfl rfl
  | owedFirst => exact (hserve _ (hoffer _ h)).beside rfl rfl

end State.InStep

end Sys2Proof.Machine
end

section
/-! Quotes and banks stay in step through the tariff store, the scale, the counter link and every command. -/

namespace Sys2Proof.Machine.State.InStep

variable {s t : State}

/-! ### The tariff store -/

theorem failLoad (h : s.InStep) {id : BankId} (hloading : (s.bank id).state = .loading) (r : RequestRef)
    (detail : LoadDetail) : (s.failLoad id r detail).InStep := by
  have hrefs : (s.bank id).refs = 0 := h.refs_zero id (by simp [hloading]) (by simp [hloading])
  refine reply ((h.withCursor .cleared).setBank_idle id ?_ rfl (by decide) (by decide)) _ _
  cases id <;> exact hrefs

/-- A record enters the LOADING bank, which stays LOADING without quotes (R42). -/
theorem load (h : s.InStep) {id : BankId} (r : RequestRef) {bank : Bank} (cursor : Cursor)
    (hrefs : bank.refs = (s.bank id).refs) (hstate : bank.state = (s.bank id).state) :
    (s.load id r bank cursor).InStep := by
  refine done ((h.withCursor cursor).setBank id ?_ ?_ ?_) _ _
  · cases id <;> exact hrefs
  · rw [hrefs, hstate]
    exact h.used id
  · rw [hstate]
    have hsingle := h.single id
    cases id <;> exact hsingle

theorem bankOpen (h : s.InStep) (r : RequestRef) (bank openDefault : Nat) : (s.bankOpen r bank openDefault).InStep := by
  unfold State.bankOpen
  split
  · exact h.refuse _ _
  · rename_i id _
    split_ifs with _ hfree
    · exact h.refuse _ _
    · obtain ⟨hstate, hother⟩ := hfree
      have hrefs : (s.bank id).refs = 0 :=
        h.refs_zero id (by rcases hstate with hs | hs <;> simp [hs]) (by rcases hstate with hs | hs <;> simp [hs])
      refine done ((h.withCursor .cleared).setBank id ?_ (fun hpos => absurd hpos (Nat.lt_irrefl 0)) fun _ => ?_) _ _
      · cases id <;> exact hrefs.symm
      · cases id <;> exact hother
    · exact h.refuse _ _

theorem loadCell (h : s.InStep) (r : RequestRef) (letter zone bandCount : Nat) :
    (s.loadCell r letter zone bandCount).InStep := by
  unfold State.loadCell
  split
  · exact h.refuse _ _
  · rename_i id hloading
    have hfault := h.failLoad (bankIn_spec hloading) r
    dsimp only
    split
    · exact h.refuse _ _
    · exact .ite (h.refuse _ _) (.ite (hfault _) (.ite (hfault _) (h.load _ _ rfl rfl)))

theorem loadBand (h : s.InStep) (r : RequestRef) (u p0 i sw p1 : Nat) : (s.loadBand r u p0 i sw p1).InStep := by
  unfold State.loadBand
  split
  · exact h.refuse _ _
  · rename_i id hloading
    have hfault := h.failLoad (bankIn_spec hloading) r
    refine .ite (h.refuse _ _) ?_
    split
    · exact hfault _
    · exact .ite (hfault _) (h.load _ _ rfl rfl)

theorem loadZone (h : s.InStep) (r : RequestRef) (low high zone route flags : Nat) :
    (s.loadZone r low high zone route flags).InStep := by
  unfold State.loadZone
  split
  · exact h.refuse _ _
  · rename_i id hloading
    have hfault := h.failLoad (bankIn_spec hloading) r
    exact .ite (h.refuse _ _) (.ite (hfault _) (.ite (hfault _) (h.load _ _ rfl rfl)))

theorem loadSurch (h : s.InStep) (r : RequestRef)
    (letter oversize irregular remoteRate insuranceUnit insurancePrice : Nat) :
    (s.loadSurch r letter oversize irregular remoteRate insuranceUnit insurancePrice).InStep := by
  unfold State.loadSurch
  split
  · exact h.refuse _ _
  · rename_i id hloading
    have hfault := h.failLoad (bankIn_spec hloading) r
    dsimp only
    split
    · exact h.refuse _ _
    · exact .ite (h.refuse _ _) (.ite (hfault _) (h.load _ _ rfl rfl))

theorem bankClose (h : s.InStep) (r : RequestRef) (version count sum : Nat) :
    (s.bankClose r version count sum).InStep := by
  unfold State.bankClose
  split
  · exact h.refuse _ _
  · rename_i id hloading
    have hfault := h.failLoad (bankIn_spec hloading) r
    have hrefs : (s.bank id).refs = 0 :=
      h.refs_zero id (by simp [bankIn_spec hloading]) (by simp [bankIn_spec hloading])
    refine .ite (hfault _) (.ite (hfault _) (done ?_ _ _))
    refine (h.withCursor .cleared).setBank_idle id ?_ rfl (by simp) (by simp)
    cases id <;> exact hrefs

/-- A READY bank becomes ACTIVE once the bank that was ACTIVE is so no longer (R52). -/
theorem activate (h : s.InStep) {id : BankId} (hready : (s.bank id).state = .ready) (cause : ActivationCause) :
    (s.activate id cause).InStep := by
  have hrefs : (s.bank id).refs = 0 := h.refs_zero id (by simp [hready]) (by simp [hready])
  have hactive : ∀ u : State, u.InStep → u.bank id = s.bank id → (u.bank id.other).state ≠ .active →
      (u.setBank id { s.bank id with state := .active }).InStep := fun u hu hbank hother =>
    hu.setBank id (by rw [hbank]) (fun _ => .inl rfl) fun _ => hother
  unfold State.activate
  dsimp only
  split
  · rename_i hold
    have hdisplaced : (s.bank id.other).displaced.refs = (s.bank id.other).refs
        ∧ ((s.bank id.other).displaced.state = .retiring
          ∨ (s.bank id.other).displaced.refs = 0 ∧ (s.bank id.other).displaced.state = .empty) := by
      unfold Bank.displaced
      split
      · exact ⟨rfl, .inl rfl⟩
      · rename_i hnone
        exact ⟨by show 0 = _; omega, .inr ⟨rfl, rfl⟩⟩
    obtain ⟨hsame, hstate⟩ := hdisplaced
    have hswap : (s.setBank id { s.bank id with state := .active }).setBank id.other (s.bank id.other).displaced =
        (s.setBank id.other (s.bank id.other).displaced).setBank id { s.bank id with state := .active } := by
      cases id <;> rfl
    rw [hswap]
    refine notify (hactive _ (h.setBank id.other hsame ?_ ?_) (by simp) ?_) _
    · rcases hstate with hs | ⟨hzero, _⟩
      · exact fun _ => .inr hs
      · exact fun hpos => absurd hzero (Nat.pos_iff_ne_zero.mp hpos)
    · rcases hstate with hs | ⟨_, hs⟩ <;> simp [hs]
    · rcases hstate with hs | ⟨_, hs⟩ <;> simp [hs]
  · rename_i hold
    exact (hactive s h rfl hold).notify _

theorem swap (h : s.InStep) (r : RequestRef) (bank scope : Nat) : (s.swap r bank scope).InStep := by
  unfold State.swap
  split
  · exact h.refuse _ _
  · refine .ite (h.refuse _ _) ?_
    split
    case h_5 =>
      rename_i hready
      have hactivated := fun body cause => (h.done r body).activate hready cause
      exact .ite ((hactivated _ _).same (fun _ => rfl) rfl) (hactivated _ _)
    all_goals exact h.refuse _ _

theorem cutoverHeard (h : s.InStep) (station v : Nat) : (s.cutoverHeard station v).InStep := by
  refine .ite h ?_
  split
  · rename_i id hbank
    exact (h.beside (t := { s with draws := s.draws + 1 }) rfl rfl).activate (readyBank_spec hbank).1 _
  · exact h.notify _

/-- A RESTART forgets every quote, and every bank its references (R62, R105). -/
theorem takeRestart (h : s.InStep) (r : RequestRef) : (s.takeRestart r).InStep := by
  obtain ⟨hquotes, hbanks⟩ := (inStep_iff s).mp h
  obtain ⟨a, b, heq⟩ := restarted_eq s
  have htable : s.restarted.quotes = { s.quotes with records := [], pendingOrder := [], waiting := none } := by rw [heq]
  have hbank : ∀ id, (s.restarted.bank id).refs = 0
      ∧ ((s.restarted.bank id).state = (s.bank id).state ∨ (s.restarted.bank id).state = .empty) := fun id => by
    rw [bank_restarted hquotes hbanks id]
    split
    · exact ⟨rfl, .inr rfl⟩
    · exact ⟨rfl, .inl rfl⟩
  refine done (s := s.restarted) ⟨?_, fun id => ?_, fun id hpos => ?_, fun id hpair hsame => ?_⟩ _ _
  · rw [htable]
    exact ⟨by simp, by simp, h.table.next, by simp, by simp, by simp⟩
  · rw [(hbank id).1, State.quotesUnder, htable]
    rfl
  · rw [(hbank id).1] at hpos
    exact absurd hpos (Nat.lt_irrefl 0)
  · have hstays : ∀ k, (s.restarted.bank k).state = (s.restarted.bank id).state →
        (s.restarted.bank k).state = (s.bank k).state := fun k hk =>
      (hbank k).2.resolve_right fun hempty => by simp [hk.symm.trans hempty] at hpair
    have hid := hstays id rfl
    rw [hid] at hpair
    exact h.single id hpair ((hstays id.other hsame).symm.trans (hsame.trans hid))

/-! ### The scale -/

theorem halfComplete (h : s.InStep) (cfg : Setup) (hsensor : s.weighing.scale ≠ .sensor) :
    (s.halfComplete cfg).InStep := by
  have hdecided : (s.halfDecided cfg).InStep := h.beside rfl rfl
  rw [halfComplete_eq cfg hsensor]
  exact .ite hdecided (hdecided.tellScale _)

theorem validSample (h : s.InStep) (cfg : Setup) (counts : List Int) : (s.validSample cfg counts).InStep := by
  by_cases hsensor : s.weighing.scale = .sensor
  · rw [validSample_sensor cfg counts hsensor]
    exact .ite (h.onWeighing _) (h.onWeighing _)
  · rw [validSample_ring cfg counts hsensor]
    refine .ite (h.onWeighing _) (halfComplete ((h.onWeighing _).onWeighing _) cfg ?_)
    have hfull : ∀ x, ((s.weighing.sampled x).completeHalf cfg).scale = s.weighing.scale := fun x => by
      rw [completeHalf_sampled]
    simpa only [State.onWeighing_weighing, hfull] using hsensor

theorem invalidSequence (h : s.InStep) : s.invalidSequence.InStep := by
  by_cases hshort : s.weighing.scale = .sensor ∨ s.weighing.invalidRun + 1 < 64
  · rw [invalidSequence_short hshort]
    exact .ite (h.onWeighing _) (h.onWeighing _)
  · rw [not_or, Nat.not_lt] at hshort
    rw [invalidSequence_sensor hshort.1 hshort.2]
    exact (h.onWeighing _).tellScale _

theorem sequenceEnd (h : s.InStep) (counts : List Int) (reference : Int) : (s.sequenceEnd counts reference).InStep := by
  have hnoted : s.weightNotice.InStep := .ite (h.beside rfl rfl) (h.beside rfl rfl)
  unfold State.sequenceEnd
  split
  · exact h
  · exact .ite ((hnoted.onWeighing _).validSample _ _) (hnoted.onWeighing _).invalidSequence

/-! ### The counter link -/

/-- A request after START, handed to its owner (R181). -/
theorem handRequest (h : s.InStep) (r : RequestRef) (request : Request) : (s.handRequest r request).InStep := by
  have hrefused : (s.refuse r .badRequest).InStep := h.refuse _ _
  cases request with
  | start body => exact h.refuse _ _
  | status sect => exact h.of_kept ((QuotesKept.refl s).takeStatus _ _)
  | restart => exact h.takeRestart r
  | zero =>
    show (s.takeZero r).InStep
    unfold State.takeZero
    split
    case h_1 | h_2 =>
      exact .ite (done (.ite ((h.onWeighing _).onWeighing _) (((h.onWeighing _).onWeighing _).tellScale _)) _ _)
        (h.refuse _ _)
    all_goals exact h.refuse _ _
  | mapLoad letter startBlock span => exact .ite (h.of_kept ((QuotesKept.refl s).mapLoad _ _ _ _)) hrefused
  | logTake => exact h.of_kept ((QuotesKept.refl s).logTake _)
  | bankOpen bank openDefault => exact h.bankOpen _ _ _
  | cell letter zone bandCount => exact h.loadCell _ _ _ _
  | band u p0 i sw p1 => exact h.loadBand _ _ _ _ _ _
  | zone low high zone route flags => exact h.loadZone _ _ _ _ _ _
  | surch letter oversize irregular remoteRate unit price => exact h.loadSurch _ _ _ _ _ _ _
  | bankClose version count sum => exact h.bankClose _ _ _ _
  | swap bank scope => exact h.swap _ _ _
  | rate body => exact .ite (h.takeRate r body) hrefused
  | commit number => exact .ite (h.takeCommit _ _) hrefused
  | cancel number => exact .ite (h.takeCancel _ _) hrefused
  | bagClose route => exact .ite (h.of_kept ((QuotesKept.refl s).bagClose _ _)) hrefused
  | unknown kind => exact hrefused

/-- A request before START (R181). -/
theorem handEarly (h : s.InStep) (r : RequestRef) (request : Request) : (s.handEarly r request).InStep := by
  cases request with
  | start body => exact h.of_kept ((QuotesKept.refl s).takeStart _ _)
  | status sect => exact h.of_kept ((QuotesKept.refl s).takeStatus _ _)
  | _ => exact h.refuse _ _

theorem takeRequest (h : s.InStep) (tag : Nat) (request : Request) : (s.takeRequest tag request).InStep :=
  .ite (.ite (h.onLink _) (h.beside rfl rfl)) (.ite ((h.onLink _).handRequest _ _) ((h.onLink _).handEarly _ _))

theorem takeWhole (h : s.InStep) (tag : Nat) (request : Request) : (takeWhole tag request s).InStep :=
  (h.takeRequest tag request).finish _ _

/-- The last byte of a message brings its request, the others the parser (R175). -/
theorem takeByte (h : s.InStep) (byte : Byte) (framingError : Bool) : (s.takeByte byte framingError).InStep := by
  unfold State.takeByte
  dsimp only
  split
  · exact .ite (h.onLink _) h
  · exact .ite (h.onLink _) (.ite (h.onLink _) (.ite (h.onLink _) (h.onLink _)))
  · exact .ite (h.onLink _) (h.onLink _)
  · exact .ite (h.onLink _) (.ite (h.onLink _) (.ite ((h.onLink _).takeRequest _ _) (h.onLink _)))

/-! ### The hall line -/

/-- A frame is handed to its owners: a CUTOVER to the tariff store, every other past quotes and banks (8.2). -/
theorem hand (h : s.InStep) (f : Frame) : (s.hand f).InStep := by
  have hkept := QuotesKept.refl s
  unfold State.hand
  split
  case h_9 => exact h.cutoverHeard _ _
  all_goals refine h.of_kept ?_
  · exact hkept.joinHeard
  · exact hkept.holdsHeard _ _ _
  · exact hkept
  · exact hkept.claimHeard _ _ _
  · exact hkept.heldHeard _ _ _
  · exact hkept.spentHeard _ _ _
  · exact (hkept.postedAtBags _ _ _).postedHeard _ _ _
  · exact hkept.bagnextHeard _ _

theorem hearFrame (h : s.InStep) (f : Frame) (order : RoomOrder) : (hearFrame f order s).InStep := by
  have hack : (s.acknowledge true).InStep := h.beside rfl rfl
  have hcredited : ((s.acknowledge true).credit f).InStep := h.beside rfl rfl
  refine finish ?_ _ _
  exact .ite hcredited (.ite hack (.ite (.ite hack (hack.of_kept ((QuotesKept.refl _).enterMuted _ _)))
    (hcredited.hand f)))

end Sys2Proof.Machine.State.InStep
end

section
/-! The commands one by one, and the step (R54, R84, R90, R94, R101). -/

namespace Sys2Proof.Machine

/-- Every command keeps quotes and banks in step. -/
theorem inStep_of_exec {s t : State} (h : s.InStep) (i : Instr) (hexec : exec i s = .next t) : t.InStep := by
  have hkept := QuotesKept.refl s
  have hlater := fun d => hkept.elapse d
  cases i with
  | powerOnReset straps =>
    cases hexec
    exact ((inStep_iff State.reset).mpr ⟨quotesSound_reset, banksSound_reset⟩).beside rfl rfl
  | start tag body | status tag sect | restart tag | zero tag | mapLoad tag letter startBlock span | logTake tag
  | bankOpen tag bank openDefault | cell tag letter zone bandCount | band tag u p0 i sw p1
  | zone tag low high zone route flags | surch tag letter oversize irregular remoteRate unit price
  | bankClose tag version count sum | swap tag bank scope | rate tag body | commit tag number | cancel tag number
  | bagClose tag route | unknownRequestKind tag kind =>
    cases hexec
    exact h.takeWhole _ _
  | heardClaim station group letter block order | heardHeld station group letter block order
  | heardSpent station group letter block order | heardHolds station group letter blocks order
  | heardPosted station group letter serial route bag weight order | heardJoin station group office
  | heardBagnext station group route bag | heardCutover station group version | heardAlive station group =>
    cases hexec
    exact h.hearFrame _ _
  | linkMessageDiscard =>
    cases hexec
    exact .ite h (h.onLink _)
  | gapTimerExpiry =>
    cases hexec
    exact .ite h ((h.elapse _).onLink _)
  | messageTransmissionBegin | messageTransmissionComplete =>
    cases hexec
    exact h.onLink _
  | sampleSequenceStart =>
    cases hexec
    exact .ite (h.onWeighing _) h
  | sequenceEnd counts reference =>
    cases hexec
    exact (h.sequenceEnd counts reference).finish _ _
  | waitingRateRelease =>
    cases hexec
    exact .ite (h.releaseWaiting.finish _ _) h
  | waitingRateScaleRefusal =>
    cases hexec
    exact .ite ((h.of_kept (hkept.refuseWaiting _)).finish _ _) h
  | settleWaitTimerExpiry =>
    simp only [exec, execSettleWaitTimerExpiry] at hexec
    split at hexec <;> cases hexec
    · exact h
    · exact ((h.elapse _).clearWaiting.refuse _ _).finish _ _
  | gateSample level | gateLevelAccepted level =>
    cases hexec
    exact .ite (h.beside rfl rfl) h
  | encoderCount direction widthBlocked heightBlocked =>
    simp only [exec, execEncoderCount] at hexec
    split at hexec <;> cases hexec
    · exact h
    · exact h.beside rfl rfl
  | encoderError =>
    cases hexec
    exact .ite (h.beside rfl rfl) h
  | stallTimerExpiry =>
    cases hexec
    exact .ite ((h.elapse _).beside (t := State.onGauge _ _) rfl rfl) h
  | quoteExpiry number =>
    simp only [exec, execQuoteExpiry] at hexec
    split at hexec
    · cases hexec
      exact h
    · rename_i q hq
      split at hexec <;> cases hexec
      · exact h.expire (quote?_spec hq).1 _
      · exact h
  | commitCompletion number =>
    cases hexec
    exact (h.judgeEntry number).finish _ _
  | holdoffExpiry slot order =>
    simp only [exec, execHoldoffExpiry] at hexec
    split at hexec
    · cases hexec
      exact h
    · split at hexec <;> cases hexec
      · exact (h.of_kept ((hlater _).winClaim _ _)).finish _ _
      all_goals exact h
  | frameDiscard levels =>
    simp only [exec, execFrameDiscard] at hexec
    split at hexec <;> cases hexec
    · exact h.beside rfl rfl
    · exact h
  | owedItemEntry =>
    cases hexec
    exact h.of_kept hkept.offerOwed
  | attemptBegin =>
    cases hexec
    refine .ite ?_ h
    split
    · exact h
    · exact h.beside rfl rfl
  | arbitrationLost field =>
    simp only [exec, execArbitrationLost] at hexec
    split at hexec <;> cases hexec
    · exact h
    · exact .ite (h.beside rfl rfl) h
  | failedAttempt =>
    simp only [exec, execFailedAttempt] at hexec
    split at hexec <;> cases hexec
    · exact h
    · exact (h.of_kept (hkept.failAttempt _)).finish _ _
  | transmitCompletion acknowledged order =>
    simp only [exec, execTransmitCompletion] at hexec
    split at hexec <;> cases hexec
    · exact h
    · exact (h.of_kept (hkept.transmitted _ _)).finish _ _
  | censusTimerExpiry order =>
    simp only [exec, execCensusTimerExpiry] at hexec
    split at hexec <;> cases hexec
    · exact h
    · exact (h.of_kept (hlater _).endCensus).finish _ _
  | silenceTimerExpiry =>
    cases hexec
    have hrestarted := fun d => (hlater d).onHall fun x => { x with silence := 0 }
    exact .ite (.ite (h.of_kept ((hrestarted _).enqueue _)) (h.of_kept (hrestarted _))) h
  | livenessSilent station =>
    simp only [exec, execLivenessSilent] at hexec
    split at hexec
    · cases hexec
      exact h
    · split at hexec <;> cases hexec
      · exact h.of_kept ((hlater _).modifyPeer _ _)
      · exact h
  | byteReceived byte framingError =>
    cases hexec
    exact (h.takeByte byte framingError).finish _ _

/-- Settles O58: a step takes one command, or lets a millisecond pass. -/
theorem stepKeepsQuotesAndBanksInStep : Obligations.StepKeepsQuotesAndBanksInStep := by
  intro s t hquotes hbanks hstep
  have h : s.InStep := (inStep_iff s).mpr ⟨hquotes, hbanks⟩
  refine (inStep_iff t).mp ?_
  unfold step at hstep
  split at hstep
  · cases hstep
    exact h.elapse 1
  · rename_i c rest _
    exact inStep_of_exec (s := { s with pending := rest }) (h.beside rfl rfl) c hstep

end Sys2Proof.Machine
end

section
/-! Requests that are answered at once, and the loading requests of the tariff store, function by function (R41 to R50). -/

namespace Sys2Proof.Machine

/-! ### A request answered at once -/

/-- A request command is the taking of its request (log 6). -/
theorem exec_request {i : Instr} {tag : Nat} {request : Request} (h : i.request? = some (tag, request)) (s : State) :
    exec i s = .next (takeWhole tag request s) := by
  cases i <;> cases h <;> rfl

section

variable (i : Instr) {tag kind : Nat} {request : Request} (hi : i.request? = some (tag, request) ∧ request.kind = kind)
  {s : State} (h : Accepts kind s)
include hi h

/-- A request command that is not turned away after START goes to its owner (R177, R181). -/
theorem exec_accepted :
    exec i s = .next (((s.taken tag kind).handRequest (s.nextRef tag) request).finish s.link.nextId .owedFirst) := by
  obtain ⟨hi, rfl⟩ := hi
  obtain ⟨_, hstarted, hroom⟩ := h
  rw [exec_request hi, takeWhole_taken tag request s hroom, if_pos hstarted]

/-- A request whose owner makes `t` of the part and replies, and no more: the answer stands in the output queue (R178, R179). -/
theorem exec_answered {t : State} {body : Reply} (hscratch : t.scratch = s.scratch) (hlink : t.link = s.link)
    (howner : (s.taken tag kind).handRequest (s.nextRef tag) request = (t.taken tag kind).reply (s.nextRef tag) body) :
    exec i s = .next (t.answered tag kind body) := by
  have href : s.nextRef tag = t.nextRef tag := by rw [State.nextRef, State.nextRef, hlink]
  rw [exec_accepted i hi h, howner, href, finish_reply_taken tag kind _ _ _ t (hscratch.trans h.1)]

/-- A request that its owner refuses. -/
theorem exec_refused {reason : Reason}
    (howner : (s.taken tag kind).handRequest (s.nextRef tag) request = (s.taken tag kind).refuse (s.nextRef tag) reason) :
    exec i s = .next (s.answered tag kind (.refused reason none)) :=
  exec_answered i hi h rfl rfl howner

/-- A request whose owner replaces the cursor and a bank, and replies. -/
theorem exec_banked {c : Cursor} {id : BankId} {b : Bank} {body : Reply}
    (howner : (s.taken tag kind).handRequest (s.nextRef tag) request =
      (((s.taken tag kind).withCursor c).setBank id b).reply (s.nextRef tag) body) :
    exec i s = .next (((s.withCursor c).setBank id b).answered tag kind body) := by
  have hbanked : ((s.taken tag kind).withCursor c).setBank id b = ((s.withCursor c).setBank id b).taken tag kind := by
    cases id <;> rfl
  exact exec_answered i hi h (by simp [State.withCursor]) (by simp [State.withCursor]) (hbanked ▸ howner)

end

/-! ### Opening and closing a load -/

/-- The banks are named 1 and 2 (R195). -/
theorem ofCode_eq_none {bank : Nat} (h1 : bank ≠ 1) (h2 : bank ≠ 2) : BankId.ofCode bank = none := by
  unfold BankId.ofCode
  split
  · exact absurd rfl h1
  · exact absurd rfl h2
  · rfl

/-- BANKOPEN of a bank by its flag (R41). -/
theorem bankOpen_eq {bank flag : Nat} {id : BankId} (hcode : BankId.ofCode bank = some id) (hflag : flag ≤ 1)
    (r : RequestRef) (s : State) :
    s.bankOpen r bank flag =
      if ((s.bank id).state = .empty ∨ (s.bank id).state = .ready) ∧ (s.bank id.other).state ≠ .loading then
        ((s.withCursor .cleared).setBank id
          { Bank.cleared with state := .loading, openDefault := decide (flag = 1) }).reply r (.done .plain)
      else s.refuse r .bankBusy := by
  unfold State.bankOpen
  rw [hcode]
  exact if_neg (Nat.not_lt.mpr hflag)

/-- Settles O24: `bankOpen_eq` within the taking of a request. -/
theorem bankOpenStartsALoad : Obligations.BankOpenStartsALoad := by
  refine ⟨fun tag bank flag s haccepts h1 h2 => exec_refused (.bankOpen tag bank flag) ⟨rfl, rfl⟩ haccepts ?_,
    fun tag bank flag id s haccepts hcode hflag => ?_⟩
  · show (s.taken tag 7).bankOpen (s.nextRef tag) bank flag = _
    unfold State.bankOpen
    rw [ofCode_eq_none h1 h2]
    rfl
  · have howner := bankOpen_eq hcode hflag (s.nextRef tag) (s.taken tag 7)
    split
    · rename_i hfree
      exact exec_banked (.bankOpen tag bank flag) ⟨rfl, rfl⟩ haccepts (howner.trans (if_pos hfree))
    · rename_i hbusy
      exact exec_refused (.bankOpen tag bank flag) ⟨rfl, rfl⟩ haccepts (howner.trans (if_neg hbusy))

/-- BANKCLOSE of the LOADING bank (R49). -/
theorem bankClose_eq {s : State} {id : BankId} (hloading : s.bankIn .loading = some id) (r : RequestRef)
    (version count sum : Nat) :
    s.bankClose r version count sum =
      if s.tariff.cursor.openCell ≠ none then s.failLoad id r .order
      else if count ≠ s.tariff.cursor.records ∨ sum ≠ s.tariff.cursor.sum then s.failLoad id r .sum
      else ((s.withCursor .cleared).setBank id { s.bank id with state := .ready, version := version, refs := 0 }).reply r
        (.done (.bank id version)) := by
  unfold State.bankClose
  rw [hloading]
  simp only [ne_eq, Option.isSome_iff_ne_none]
  rfl

/-- Settles O28: `bankClose_eq` within the taking of a request. -/
theorem bankCloseChecksCountAndSum : Obligations.BankCloseChecksCountAndSum := by
  intro tag version count sum id s haccepts hloading ended
  have howner := bankClose_eq (s := s.taken tag 12) hloading (s.nextRef tag) version count sum
  split
  · rename_i hopen
    exact exec_banked (.bankClose tag version count sum) ⟨rfl, rfl⟩ haccepts (howner.trans (if_pos hopen))
  · rename_i hopen
    split
    · rename_i hsum
      exact exec_banked (.bankClose tag version count sum) ⟨rfl, rfl⟩ haccepts
        (howner.trans ((if_neg hopen).trans (if_pos hsum)))
    · rename_i hsum
      exact exec_banked (.bankClose tag version count sum) ⟨rfl, rfl⟩ haccepts
        (howner.trans ((if_neg hopen).trans (if_neg hsum)))

/-! ### No LOADING bank -/

/-- A loading request while neither bank is LOADING (R48). -/
theorem handRequest_notLoading {s : State} (hnone : s.bankIn .loading = none) (r : RequestRef) {request : Request}
    (hlow : 8 ≤ request.kind) (hhigh : request.kind ≤ 12) (hknown : ∀ k, request ≠ .unknown k) :
    s.handRequest r request = s.refuse r .notLoading := by
  cases request with
  | cell letter zone bandCount => simp only [State.handRequest, State.loadCell, hnone]
  | band u p0 i sw p1 => simp only [State.handRequest, State.loadBand, hnone]
  | zone low high zone route flags => simp only [State.handRequest, State.loadZone, hnone]
  | surch letter oversize irregular remoteRate unit price => simp only [State.handRequest, State.loadSurch, hnone]
  | bankClose version count sum => simp only [State.handRequest, State.bankClose, hnone]
  | unknown k => exact absurd rfl (hknown k)
  | _ => simp [Request.kind] at hlow hhigh

/-- Settles O26: `handRequest_notLoading` within the taking of a request. -/
theorem loadingNeedsALoadingBank : Obligations.LoadingNeedsALoadingBank := by
  intro i tag request s hrequest haccepts hlow hhigh hknown ha hb
  have hnone : s.bankIn .loading = none := by
    unfold State.bankIn
    rw [if_neg ha, if_neg hb]
  exact exec_refused i ⟨hrequest, rfl⟩ haccepts
    (handRequest_notLoading (s := s.taken tag request.kind) hnone _ hlow hhigh hknown)

end Sys2Proof.Machine
end

section
/-! The loading of records: what each of CELL, BAND, ZONE and SURCH does in a part with a LOADING bank, in the order of its
tests (R42 to R47, R50). -/

namespace Sys2Proof.Machine

section

variable {s : State} {id : BankId} (hloading : s.bankIn .loading = some id) (r : RequestRef)
include hloading

/-- CELL of a letter that START configured (R42, R43). -/
theorem loadCell_eq {letter slot : Nat} (hslot : s.productIndex letter = some slot) (zone n : Nat) :
    s.loadCell r letter zone n =
      if zone > 15 ∨ n < 1 ∨ n > 12 then s.refuse r .badRequest
      else if s.tariff.cursor.openCell ≠ none ∨ ∃ c ∈ (s.bank id).cells, c.slot = slot ∧ c.zone = zone then
        s.failLoad id r .order
      else if s.tariff.cursor.bands + n > 512 then s.failLoad id r .full
      else s.load id r
        { s.bank id with
          cells := (s.bank id).cells
            ++ [{ slot := slot, zone := zone, first := s.tariff.cursor.bands, count := n }] }
        { s.tariff.cursor.count (letter + zone + n) with
          cells := s.tariff.cursor.cells + 1
          openCell := some { slot := slot, zone := zone, expected := n, lastU := none } } := by
  unfold State.loadCell
  rw [hloading]
  dsimp only
  rw [hslot]
  simp only [Option.isSome_iff_ne_none, List.any_eq_true, decide_eq_true_eq]
  rfl

/-- BAND while no cell is open (R42, R44). -/
theorem loadBand_closed (hclosed : s.tariff.cursor.openCell = none) (u p0 i sw p1 : Nat) :
    s.loadBand r u p0 i sw p1 =
      if u < 1 ∨ u > 999999 ∨ p0 > 999999 ∨ i > 999999 ∨ sw > 999999 ∨ p1 > 999999 then s.refuse r .badRequest
      else s.failLoad id r .order := by
  unfold State.loadBand
  rw [hloading]
  dsimp only
  rw [hclosed]

/-- BAND of the open cell (R42, R44). -/
theorem loadBand_open {cell : OpenCell} (hopen : s.tariff.cursor.openCell = some cell) (u p0 i sw p1 : Nat) :
    s.loadBand r u p0 i sw p1 =
      if u < 1 ∨ u > 999999 ∨ p0 > 999999 ∨ i > 999999 ∨ sw > 999999 ∨ p1 > 999999 then s.refuse r .badRequest
      else if ∃ last, cell.lastU = some last ∧ u ≤ last then s.failLoad id r .order
      else s.load id r
        { s.bank id with bands := (s.bank id).bands ++ [{ u := u, p0 := p0, i := i, sw := sw, p1 := p1 }] }
        { s.tariff.cursor.count (u + p0 + i + sw + p1) with
          bands := s.tariff.cursor.bands + 1
          openCell :=
            if cell.expected ≤ 1 then none else some { cell with expected := cell.expected - 1, lastU := some u } } := by
  unfold State.loadBand
  rw [hloading]
  dsimp only
  rw [hopen]
  dsimp only
  cases cell.lastU with
  | none => simp only [reduceCtorEq, false_and, exists_false, if_false, Bool.false_eq_true]
  | some last => simp only [Option.some.injEq, exists_eq_left', decide_eq_true_eq]

/-- ZONE (R42, R45). -/
theorem loadZone_eq (low high zone route flags : Nat) :
    s.loadZone r low high zone route flags =
      if low > 999999 ∨ high > 999999 ∨ high < low ∨ zone > 15 ∨ route > 31 ∨ flags > 3 then s.refuse r .badRequest
      else if s.tariff.cursor.openCell ≠ none ∨ ∃ h, s.tariff.cursor.lastHigh = some h ∧ low ≤ h then s.failLoad id r .order
      else if s.tariff.cursor.zones ≥ 256 then s.failLoad id r .full
      else s.load id r
        { s.bank id with
          zones := (s.bank id).zones ++
            [{ low := low, high := high, zone := zone, route := route, remote := flags.testBit 0,
               noInsurance := flags.testBit 1 }] }
        { s.tariff.cursor.count (low + high + zone + route + flags) with
          zones := s.tariff.cursor.zones + 1, lastHigh := some high } := by
  unfold State.loadZone
  rw [hloading]
  dsimp only
  simp only [Option.isSome_iff_ne_none]
  cases s.tariff.cursor.lastHigh with
  | none =>
    simp only [reduceCtorEq, false_and, exists_false, Bool.false_eq_true]
    rfl
  | some h =>
    simp only [Option.some.injEq, exists_eq_left', decide_eq_true_eq]
    rfl

/-- SURCH of a letter that START configured (R42, R46). -/
theorem loadSurch_eq {letter slot : Nat} (hslot : s.productIndex letter = some slot)
    (oversize irregular remoteRate unit price : Nat) :
    s.loadSurch r letter oversize irregular remoteRate unit price =
      if oversize > 999999 ∨ irregular > 999999 ∨ remoteRate > 500 ∨ unit < 1 ∨ unit > 1000000 ∨ price > 999999 then
        s.refuse r .badRequest
      else if s.tariff.cursor.openCell ≠ none ∨ ∃ x ∈ (s.bank id).surcharges, x.slot = slot then s.failLoad id r .order
      else s.load id r
        { s.bank id with
          surcharges := (s.bank id).surcharges ++
            [{ slot := slot, oversize := oversize, irregular := irregular, remoteRate := remoteRate,
               insuranceUnit := unit, insurancePrice := price }] }
        { s.tariff.cursor.count (letter + oversize + irregular + remoteRate + unit + price) with
          surcharges := s.tariff.cursor.surcharges + 1 } := by
  unfold State.loadSurch
  rw [hloading]
  dsimp only
  rw [hslot]
  simp only [Option.isSome_iff_ne_none, List.any_eq_true, decide_eq_true_eq]

/-- CELL of a letter that START did not configure (R42). -/
theorem loadCell_unconfigured {letter : Nat} (hslot : s.productIndex letter = none) (zone n : Nat) :
    s.loadCell r letter zone n = s.refuse r .badRequest := by
  unfold State.loadCell
  rw [hloading]
  dsimp only
  rw [hslot]

/-- SURCH of a letter that START did not configure (R42). -/
theorem loadSurch_unconfigured {letter : Nat} (hslot : s.productIndex letter = none)
    (oversize irregular remoteRate unit price : Nat) :
    s.loadSurch r letter oversize irregular remoteRate unit price = s.refuse r .badRequest := by
  unfold State.loadSurch
  rw [hloading]
  dsimp only
  rw [hslot]

end

/-- The two flags of a zone entry, as the bits of a number of at most 3 (R195). -/
theorem zoneFlags {flags : Nat} (h : flags ≤ 3) :
    flags.testBit 0 = decide (flags % 2 = 1) ∧ flags.testBit 1 = decide (2 ≤ flags) := by
  interval_cases flags <;> decide

/-- Settles O25: each record passes its tests in `loadZone_eq`, `loadSurch_eq`, `loadCell_eq` or `loadBand_open`. -/
theorem recordsAreLoaded : Obligations.RecordsAreLoaded := by
  refine ⟨fun tag id s hclear hstarted hloading hclosed => ⟨?_, ?_⟩, fun tag id s hclear hstarted hloading => ⟨?_, ?_⟩⟩
  · intro low high zone route flags hroom hlow hhigh hzone hroute hflags horder hplace
    have hentry := loadZone_eq (s := s.taken tag 10) hloading (s.nextRef tag) low high zone route flags
    obtain ⟨hremote, hinsurance⟩ := zoneFlags hflags
    rw [← hremote, ← hinsurance]
    refine exec_banked (.zone tag low high zone route flags) ⟨rfl, rfl⟩ ⟨hclear, hstarted, hroom⟩
      (hentry.trans ((if_neg (by omega)).trans ((if_neg ?_).trans (if_neg (Nat.not_le.mpr hplace)))))
    rintro (hopen | ⟨h, hlast, hle⟩)
    · exact hopen hclosed
    · exact absurd (horder h hlast) (Nat.not_lt.mpr hle)
  · intro letter oversize irregular remoteRate unit price slot hroom hslot ho hi hr hu1 hu2 hp hnew
    have hrecord := loadSurch_eq (s := s.taken tag 11) hloading (s.nextRef tag) hslot oversize irregular
      remoteRate unit price
    refine exec_banked (.surch tag letter oversize irregular remoteRate unit price) ⟨rfl, rfl⟩
      ⟨hclear, hstarted, hroom⟩ (hrecord.trans ((if_neg (by omega)).trans (if_neg ?_)))
    rintro (hopen | ⟨x, hx, hsame⟩)
    · exact hopen hclosed
    · exact hnew x hx hsame
  · intro letter zone n slot hroom hslot hzone hn1 hn12 hclosed hnew hplace
    have hcell := loadCell_eq (s := s.taken tag 8) hloading (s.nextRef tag) hslot zone n
    refine exec_banked (.cell tag letter zone n) ⟨rfl, rfl⟩ ⟨hclear, hstarted, hroom⟩
      (hcell.trans ((if_neg (by omega)).trans ((if_neg ?_).trans (if_neg (Nat.not_lt.mpr hplace)))))
    rintro (hopen | ⟨c, hc, hsame, hzones⟩)
    · exact hopen hclosed
    · exact (hnew c hc).elim (fun h => h hsame) fun h => h hzones
  · intro u p0 i sw p1 cell hroom hu1 hu2 hp0 hi hsw hp1 hopen horder
    have hband := loadBand_open (s := s.taken tag 9) hloading (s.nextRef tag) hopen u p0 i sw p1
    refine exec_banked (.band tag u p0 i sw p1) ⟨rfl, rfl⟩ ⟨hclear, hstarted, hroom⟩
      (hband.trans ((if_neg (by omega)).trans (if_neg ?_)))
    rintro ⟨last, hlast, hle⟩
    exact absurd (horder last hlast) (Nat.not_lt.mpr hle)

/-- Settles O27: each fault and each refusal is a branch of the same lemmas. -/
theorem structuralFaultEndsTheLoad : Obligations.StructuralFaultEndsTheLoad := by
  intro tag id s hclear hstarted hloading ended
  refine ⟨?_, ?_, ?_, ?_, ?_, ?_, ?_, ?_⟩
  · intro letter zone n slot hroom hslot hzone hn1 hn12
    have hcell := loadCell_eq (s := s.taken tag 8) hloading (s.nextRef tag) hslot zone n
    refine ⟨fun horder => ?_, fun hclosed hnew hplace => ?_⟩
    · exact exec_banked (.cell tag letter zone n) ⟨rfl, rfl⟩ ⟨hclear, hstarted, hroom⟩
        (hcell.trans ((if_neg (by omega)).trans (if_pos horder)))
    · refine exec_banked (.cell tag letter zone n) ⟨rfl, rfl⟩ ⟨hclear, hstarted, hroom⟩
        (hcell.trans ((if_neg (by omega)).trans ((if_neg ?_).trans (if_pos hplace))))
      rintro (hopen | ⟨c, hc, hsame, hzones⟩)
      · exact hopen hclosed
      · exact (hnew c hc).elim (fun h => h hsame) fun h => h hzones
  · intro u p0 i sw p1 hroom hu1 hu2 hp0 hi hsw hp1 horder
    rcases horder with hclosed | ⟨cell, last, hopen, hlast, hle⟩
    · have hband := loadBand_closed (s := s.taken tag 9) hloading (s.nextRef tag) hclosed u p0 i sw p1
      exact exec_banked (.band tag u p0 i sw p1) ⟨rfl, rfl⟩ ⟨hclear, hstarted, hroom⟩
        (hband.trans (if_neg (by omega)))
    · have hband := loadBand_open (s := s.taken tag 9) hloading (s.nextRef tag) hopen u p0 i sw p1
      exact exec_banked (.band tag u p0 i sw p1) ⟨rfl, rfl⟩ ⟨hclear, hstarted, hroom⟩
        (hband.trans ((if_neg (by omega)).trans (if_pos ⟨last, hlast, hle⟩)))
  · intro low high zone route flags hroom hlow hhigh hzone hroute hflags
    have hentry := loadZone_eq (s := s.taken tag 10) hloading (s.nextRef tag) low high zone route flags
    refine ⟨fun horder => ?_, fun hclosed hnew hplace => ?_⟩
    · exact exec_banked (.zone tag low high zone route flags) ⟨rfl, rfl⟩ ⟨hclear, hstarted, hroom⟩
        (hentry.trans ((if_neg (by omega)).trans (if_pos horder)))
    · refine exec_banked (.zone tag low high zone route flags) ⟨rfl, rfl⟩ ⟨hclear, hstarted, hroom⟩
        (hentry.trans ((if_neg (by omega)).trans ((if_neg ?_).trans (if_pos hplace))))
      rintro (hopen | ⟨h, hlast, hle⟩)
      · exact hopen hclosed
      · exact absurd (hnew h hlast) (Nat.not_lt.mpr hle)
  · intro letter oversize irregular remoteRate unit price slot hroom hslot ho hi hr hu1 hu2 hp horder
    have hrecord := loadSurch_eq (s := s.taken tag 11) hloading (s.nextRef tag) hslot oversize irregular
      remoteRate unit price
    exact exec_banked (.surch tag letter oversize irregular remoteRate unit price) ⟨rfl, rfl⟩
      ⟨hclear, hstarted, hroom⟩ (hrecord.trans ((if_neg (by omega)).trans (if_pos horder)))
  · intro letter zone n hroom hbad
    refine exec_refused (.cell tag letter zone n) ⟨rfl, rfl⟩ ⟨hclear, hstarted, hroom⟩ ?_
    cases hslot : s.productIndex letter with
    | none => exact loadCell_unconfigured (s := s.taken tag 8) hloading _ hslot zone n
    | some slot =>
      have hrange := hbad.resolve_left (by simp [hslot])
      exact (loadCell_eq (s := s.taken tag 8) hloading _ hslot zone n).trans (if_pos (by omega))
  · intro u p0 i sw p1 hroom hbad
    refine exec_refused (.band tag u p0 i sw p1) ⟨rfl, rfl⟩ ⟨hclear, hstarted, hroom⟩ ?_
    cases hcell : s.tariff.cursor.openCell with
    | none => exact (loadBand_closed (s := s.taken tag 9) hloading _ hcell u p0 i sw p1).trans (if_pos (by omega))
    | some cell => exact (loadBand_open (s := s.taken tag 9) hloading _ hcell u p0 i sw p1).trans (if_pos (by omega))
  · intro low high zone route flags hroom hbad
    exact exec_refused (.zone tag low high zone route flags) ⟨rfl, rfl⟩ ⟨hclear, hstarted, hroom⟩
      ((loadZone_eq (s := s.taken tag 10) hloading _ low high zone route flags).trans (if_pos hbad))
  · intro letter oversize irregular remoteRate unit price hroom hbad
    refine exec_refused (.surch tag letter oversize irregular remoteRate unit price) ⟨rfl, rfl⟩
      ⟨hclear, hstarted, hroom⟩ ?_
    cases hslot : s.productIndex letter with
    | none => exact loadSurch_unconfigured (s := s.taken tag 11) hloading _ hslot oversize irregular remoteRate unit price
    | some slot =>
      have hrange := hbad.resolve_left (by simp [hslot])
      exact (loadSurch_eq (s := s.taken tag 11) hloading _ hslot oversize irregular remoteRate unit price).trans
        (if_pos (by omega))

end Sys2Proof.Machine
end

section
/-! SWAP and the heard CUTOVER (R51, R52, R53, R55, R56): the activation of a READY bank, and the offering that ends an event. -/

namespace Sys2Proof.Machine

/-! ### An offering at the end of an event -/

/-- An offering neither reads nor touches the counter link and the scratch. -/
theorem offerOwed_frame (l : Link) (c : Scratch) (s : State) :
    ({ s with link := l, scratch := c } : State).offerOwed = { s.offerOwed with link := l, scratch := c } := by
  have hitem : ∀ (u : State) (i : OwedItem),
      ({ u with link := l, scratch := c } : State).offerItem i = { u.offerItem i with link := l, scratch := c } := by
    intro u i
    have hentered : (({ u with link := l, scratch := c } : State).enqueue
        (({ u with link := l, scratch := c } : State).itemBody i)).settleItem i =
          { (u.enqueue (u.itemBody i)).settleItem i with link := l, scratch := c } := by
      cases i <;> rfl
    unfold State.offerItem
    rw [hentered]
    split <;> rfl
  have hitems : ∀ (items : List OwedItem) (u : State),
      items.foldl State.offerItem { u with link := l, scratch := c } =
        { items.foldl State.offerItem u with link := l, scratch := c } := by
    intro items
    induction items with
    | nil => exact fun _ => rfl
    | cons i items ih =>
      intro u
      rw [List.foldl_cons, List.foldl_cons, hitem, ih]
  have howed : ({ s with link := l, scratch := c } : State).owedItems = s.owedItems := rfl
  have hsends : ({ s with link := l, scratch := c } : State).sends = s.sends := rfl
  unfold State.offerOwed
  rw [howed, hitems, hsends]
  split_ifs <;> rfl

/-- An event that made an offering due and nothing else: its messages enter, and the owed items are offered (R157). -/
theorem finish_offer (own : Nat) (order : RoomOrder) {s : State} (hoffer : s.scratch.offerDue = true)
    (hserve : s.scratch.serveDue = false) : s.finish own order = (s.flush own).offerOwed := by
  have hframe := offerOwed_frame s.link s.scratch s
  have hscratch : s.offerOwed.scratch = s.scratch := by
    rw [hframe]
  have hlink : s.offerOwed.link = s.link := by
    rw [hframe]
  have hflush : s.offerOwed.flush own = (s.flush own).offerOwed := by
    rw [State.flush, State.flush, hscratch, hlink]
    exact (offerOwed_frame _ .clear s).symm
  cases order <;>
    simp only [State.finish, State.settleRoom, State.serveIfDue, State.offerIfDue, hoffer, hserve, hscratch, hflush,
      if_true, if_false, Bool.false_eq_true]

/-! ### The activation of a bank -/

/-- A bank replaced by itself. -/
theorem setBank_self (id : BankId) (s : State) : s.setBank id (s.bank id) = s := by cases id <;> rfl

/-- The banks after an activation: the named one ACTIVE, and the other RETIRING or EMPTY if it was (R52). -/
def State.activated (id : BankId) (s : State) : State :=
  (s.setBank id { s.bank id with state := .active }).setBank id.other
    (if (s.bank id.other).state = .active then
      (if 0 < (s.bank id.other).refs then { s.bank id.other with state := .retiring } else .cleared)
    else s.bank id.other)

/-- An activation replaces banks only (R52). -/
theorem activated_frame (id : BankId) (s : State) :
    ∃ a b : Bank, s.activated id = { s with tariff := { s.tariff with bankA := a, bankB := b } } := by
  cases id <;> exact ⟨_, _, rfl⟩

/-- The notice of an activation (R56). -/
def State.changeNotice (id : BankId) (cause : ActivationCause) (s : State) : Notice :=
  .tariffChanged id (s.bank id).version
    (if (s.bank id.other).state = .active then
      some ((s.bank id.other).version, if 0 < (s.bank id.other).refs then .retiring else .empty)
    else none) cause

/-- An activation replaces the banks and sends its notice (R52, R56). -/
theorem activate_eq (id : BankId) (cause : ActivationCause) (s : State) :
    s.activate id cause = (s.activated id).notify (s.changeNotice id cause) := by
  have hdisplaced : (s.bank id.other).displaced.state = if 0 < (s.bank id.other).refs then .retiring else .empty := by
    unfold Bank.displaced
    split <;> rfl
  unfold State.activate State.activated State.changeNotice
  dsimp only
  rw [hdisplaced]
  split
  · rfl
  · have hother : (s.setBank id { s.bank id with state := .active }).bank id.other = s.bank id.other :=
      bank_setBank_other _ _ _
    rw [← hother, setBank_self]

/-! ### SWAP -/

/-- The own reply of a request and then a notice: both enter the output queue in that order (R178, R179, R184). -/
theorem flush_reply_notice (tag kind : Nat) (body : Reply) (n : Notice) {t : State} (h : t.scratch = .clear) :
    (((t.taken tag kind).reply (t.nextRef tag) body).notify n).flush t.link.nextId = (t.answered tag kind body).noticed n := by
  have hproduced : (((t.taken tag kind).reply (t.nextRef tag) body).notify n).scratch.produced =
      [.reply (some t.link.nextId) tag body, .notice t.link.noticeSeq n] := by
    show t.scratch.produced ++ _ ++ _ = _
    rw [h]
    rfl
  have horder : ownFirst t.link.nextId [.reply (some t.link.nextId) tag body, .notice t.link.noticeSeq n] =
      [.reply (some t.link.nextId) tag body, .notice t.link.noticeSeq n] := by
    simp [ownFirst, OutMsg.answers]
  have hlink : ((((t.taken tag kind).reply (t.nextRef tag) body).notify n).flush t.link.nextId).link =
      ((t.answered tag kind body).noticed n).link := by
    rw [State.flush_link, hproduced, horder, State.notify_link, foldl_accept_noticeSeq]
    rfl
  have hclear : (t.answered tag kind body).noticed n = { (t.answered tag kind body).noticed n with scratch := .clear } := by
    rw [← h]
    rfl
  rw [hclear]
  exact congrArg (fun l => { t with link := l, scratch := .clear }) hlink

/-- A reply and an activation (R52, R56). -/
theorem activate_done (id : BankId) (cause : ActivationCause) (tag kind : Nat) (body : DoneBody) (s : State) :
    ((s.taken tag kind).done (s.nextRef tag) body).activate id cause =
      (((s.activated id).taken tag kind).reply ((s.activated id).nextRef tag) (.done body)).notify
        (s.changeNotice id cause) := by
  rw [activate_eq]
  cases id <;> rfl

/-- A CUTOVER of this version is owed (R53). -/
def State.owingCutover (version : Nat) (s : State) : State :=
  { s with tariff := { s.tariff with owedCutover := some version } }

/-- SWAP of a READY bank (R51, R53). -/
theorem swap_ready {bank scope : Nat} {id : BankId} (hcode : BankId.ofCode bank = some id) (hscope : scope = 1 ∨ scope = 2)
    (r : RequestRef) {s : State} (hready : (s.bank id).state = .ready) :
    s.swap r bank scope =
      let t := (s.done r (.bank id (s.bank id).version)).activate id (if scope = 2 then .swapHall else .swapLocal)
      if scope = 2 ∧ s.hall.state ≠ .muted then
        (t.owingCutover (s.bank id).version).dueOffer
      else t := by
  unfold State.swap
  rw [hcode]
  simp only [hready, State.mayOwe, decide_eq_true_eq]
  rw [if_neg (by omega)]
  rfl

/-- SWAP of a bank in another state (R51). -/
theorem swap_refused {bank scope : Nat} {id : BankId} (hcode : BankId.ofCode bank = some id)
    (hscope : scope = 1 ∨ scope = 2) (r : RequestRef) (s : State) :
    ((s.bank id).state = .active → s.swap r bank scope = s.refuse r .already)
      ∧ ((s.bank id).state = .loading ∨ (s.bank id).state = .retiring → s.swap r bank scope = s.refuse r .bankBusy)
      ∧ ((s.bank id).state = .empty → s.swap r bank scope = s.refuse r .noTariff) := by
  have hnamed : ¬ (scope ≠ 1 ∧ scope ≠ 2) := by omega
  unfold State.swap
  rw [hcode]
  dsimp only
  rw [if_neg hnamed]
  refine ⟨fun h => by rw [h], fun h => ?_, fun h => by rw [h]⟩
  rcases h with h | h <;> rw [h]

/-- Settles O29: `swap_refused` and `swap_ready` within the taking of a request; the reply and the notice by
`flush_reply_notice`, the owed CUTOVER by `finish_offer`. -/
theorem swapActivatesAReadyBank : Obligations.SwapActivatesAReadyBank := by
  refine ⟨fun tag bank scope s haccepts hbad => exec_refused (.swap tag bank scope) ⟨rfl, rfl⟩ haccepts ?_,
    fun tag bank scope id s haccepts hcode hscope => ?_⟩
  · show (s.taken tag 13).swap (s.nextRef tag) bank scope = _
    unfold State.swap
    split
    · rfl
    · rename_i id hcode
      refine if_pos (hbad.resolve_left fun hbank => ?_)
      rw [ofCode_eq_none hbank.1 hbank.2] at hcode
      cases hcode
  · have hrefused := swap_refused hcode hscope (s.nextRef tag) (s.taken tag 13)
    obtain ⟨hactive, hbusy, hempty⟩ := hrefused
    refine ⟨fun h => exec_refused (.swap tag bank scope) ⟨rfl, rfl⟩ haccepts (hactive h),
      fun h => exec_refused (.swap tag bank scope) ⟨rfl, rfl⟩ haccepts (hbusy h),
      fun h => exec_refused (.swap tag bank scope) ⟨rfl, rfl⟩ haccepts (hempty h), ?_⟩
    intro hready old displaced wasActive u v
    let body := Reply.done (.bank id (s.bank id).version)
    let m := ((u.taken tag 13).reply (u.nextRef tag) body).notify
      (s.changeNotice id (if scope = 2 then .swapHall else .swapLocal))
    have howner : (s.taken tag 13).handRequest (s.nextRef tag) (.swap bank scope) =
        if scope = 2 ∧ s.hall.state ≠ .muted then (m.owingCutover (s.bank id).version).dueOffer else m := by
      refine (swap_ready hcode hscope (s.nextRef tag) (s := s.taken tag 13) hready).trans ?_
      dsimp only
      rw [activate_done]
      rfl
    obtain ⟨hscratch, hlink⟩ : u.scratch = s.scratch ∧ u.link = s.link := by
      obtain ⟨a, b, hactivated⟩ := activated_frame id s
      have hu : u = { s with tariff := { s.tariff with bankA := a, bankB := b } } := hactivated
      rw [hu]
      exact ⟨rfl, rfl⟩
    have hflush : m.flush s.link.nextId = v := by
      have hdisplaced : displaced.state = if 0 < old.refs then .retiring else .empty := by
        simp only [displaced]
        split <;> rfl
      simp only [v, hdisplaced]
      rw [← hlink]
      exact flush_reply_notice tag 13 _ _ (hscratch.trans haccepts.1)
    have hdue : m.scratch.offerDue = false ∧ m.scratch.serveDue = false := 
      ⟨congrArg Scratch.offerDue (hscratch.trans haccepts.1), congrArg Scratch.serveDue (hscratch.trans haccepts.1)⟩
    refine (exec_accepted (.swap tag bank scope) ⟨rfl, rfl⟩ haccepts).trans (congrArg _ ?_)
    refine (congrArg (State.finish s.link.nextId .owedFirst) howner).trans ?_
    split
    · rw [finish_offer _ _ (s := (m.owingCutover _).dueOffer) rfl hdue.2, ← hflush]
      rfl
    · rw [finish_quiet _ _ _ hdue.1 hdue.2, hflush]

end Sys2Proof.Machine
end

section
/-! A heard CUTOVER (R55, R56): the hearing of a frame from another station, and what its owner makes of it. -/

namespace Sys2Proof.Machine

/-- A frame of the group from another station, not a JOIN: its sender is credited and its owner gets it (R165). -/
theorem hear_fromPeer {station group : Nat} {s : State} (hheard : HeardFromPeer station group s) {body : FrameBody}
    (hbody : body.kind ≠ .join) :
    (s.acknowledge true).hear { station := station, group := group, body := body } =
      (s.heardBy station group).hand { station := station, group := group, body := body } := by
  obtain ⟨_, hstate, hgroup, hother⟩ := hheard
  have hcredit : (s.acknowledge true).credit { station := station, group := group, body := body } =
      s.heardBy station group := by
    cases body with
    | join office => exact absurd rfl hbody
    | holds _ _ | alive | claim _ _ | held _ _ | spent _ _ | posted _ _ _ _ _ | bagnext _ _ | cutover _ => rfl
  have hunstarted : ¬ (s.acknowledge true).hall.state = .starting := hstate
  have hsame : ¬ ((s.acknowledge true).setup.map (·.group)) ≠ some group := not_not_intro hgroup
  have hforeign : ¬ station = (s.acknowledge true).hall.station := hother
  rw [State.hear, if_neg hunstarted, if_neg hsame, if_neg hforeign, hcredit]

/-- No READY bank of a version: none of the two banks is READY with it. -/
theorem readyBank_eq_none {s : State} {version : Nat} (h : s.readyBank version = none) (id : BankId)
    (hready : (s.bank id).state = .ready) : (s.bank id).version ≠ version := by
  intro hversion
  unfold State.readyBank at h
  cases id with
  | a =>
    have ha : decide (s.tariff.bankA.state = .ready ∧ s.tariff.bankA.version = version) = true :=
      decide_eq_true ⟨hready, hversion⟩
    simp only [ha] at h
    cases hb : decide (s.tariff.bankB.state = .ready ∧ s.tariff.bankB.version = version) <;> rw [hb] at h <;> cases h
  | b =>
    have hb : decide (s.tariff.bankB.state = .ready ∧ s.tariff.bankB.version = version) = true :=
      decide_eq_true ⟨hready, hversion⟩
    simp only [hb] at h
    cases ha : decide (s.tariff.bankA.state = .ready ∧ s.tariff.bankA.version = version) <;> rw [ha] at h <;> cases h

/-- What an activation leaves of the two banks (R52). -/
theorem bank_activated (id : BankId) (s : State) :
    (s.activated id).bank id = { s.bank id with state := .active }
      ∧ (s.activated id).bank id.other =
        (if (s.bank id.other).state = .active then
          (if 0 < (s.bank id.other).refs then { s.bank id.other with state := .retiring } else .cleared)
        else s.bank id.other) := by
  cases id <;> exact ⟨rfl, rfl⟩

/-- An event that leaves a state with a clear scratch and then sends one notice. -/
theorem finish_notify (own : Nat) (order : RoomOrder) (n : Notice) {s : State} (h : s.scratch = .clear) :
    (s.notify n).finish own order = s.noticed n := by
  have hquiet : s.Quiet own := State.quiet_of_clear h
  rw [(hquiet.notify n).finish, hquiet.flush_notify, flush_clear own s h]

/-- Settles O30: the frame reaches `State.cutoverHeard` (`hear_fromPeer`), whose three branches are the three cases. -/
theorem heardCutoverActivatesOrIsMissed : Obligations.HeardCutoverActivatesOrIsMissed := by
  intro station group version s hheard active h
  have hclear : h.scratch = .clear := hheard.1
  have hexec : exec (.heardCutover station group version) s =
      .next ((h.cutoverHeard station version).finish s.link.nextId .owedFirst) :=
    congrArg (fun u : State => Host.Outcome.next (u.finish s.link.nextId .owedFirst))
      (hear_fromPeer hheard (body := .cutover version) FrameKind.noConfusion)
  have hactive : (h.activeBank.map fun id => (h.bank id).version) = active := rfl
  have hreadyBank : h.readyBank version = s.readyBank version := rfl
  refine ⟨fun hsame => ?_, fun hdiffers hnone => ?_, fun id hdiffers hsome => ?_, fun hnone => readyBank_eq_none hnone⟩
  · rw [hexec, State.cutoverHeard, if_pos (hactive.trans hsame), finish_clear _ _ _ hclear]
  · rw [hexec, State.cutoverHeard, if_neg (hactive ▸ hdiffers), hreadyBank, hnone]
    exact congrArg _ (finish_notify _ _ _ hclear)
  · obtain ⟨hready, rfl⟩ := readyBank_spec hsome
    let u : State := ({ h with draws := h.draws + 1 } : State).activated id
    obtain ⟨a, b, hu⟩ : ∃ a b : Bank, u =
        { h with draws := h.draws + 1, tariff := { h.tariff with bankA := a, bankB := b } } :=
      activated_frame id { h with draws := h.draws + 1 }
    have hlink : u.link = h.link := by rw [hu]
    have huclear : u.scratch = .clear := by rw [hu]; exact hclear
    have hbanks : u.bank id = _ ∧ u.bank id.other = _ := bank_activated id { h with draws := h.draws + 1 }
    refine ⟨hready, rfl, u.noticed (h.changeNotice id (.cutover station)), ?_, hbanks.1, hbanks.2, ?_⟩
    · rw [hexec, State.cutoverHeard, if_neg (hactive ▸ hdiffers), hreadyBank, hsome]
      exact congrArg _ ((congrArg (State.finish _ _) (activate_eq id _ _)).trans (finish_notify _ _ _ huclear))
    · have htold : (u.noticed (h.changeNotice id (.cutover station))).link =
          (h.noticed (h.changeNotice id (.cutover station))).link := by
        rw [State.noticed, State.noticed, State.onLink, State.onLink, hlink]
      have hrest : u.noticed (h.changeNotice id (.cutover station)) = { u with link := (u.noticed _).link } := rfl
      rw [htold] at hrest
      rw [hrest, hu]
      exact ⟨rfl, rfl, rfl, rfl, rfl, rfl, rfl, rfl, rfl⟩

end Sys2Proof.Machine
end

section
/-! The lookups of the tariff store (R57, R58, R75), and the end of a quote by its life or by CANCEL (R54, R91, R92). -/

namespace Sys2Proof.Machine

/-! ### Lookups -/

/-- The only entry that covers a code answers its lookup (R57). -/
theorem lookupZone_covered {b : Bank} {d : Nat} {z : ZoneEntry} (hmem : z ∈ b.zones)
    (honly : ∀ y ∈ b.zones, y.low ≤ d → d ≤ y.high → y = z) (hlow : z.low ≤ d) (hhigh : d ≤ z.high) :
    b.lookupZone d = some { zone := z.zone, route := z.route, remote := z.remote, noInsurance := z.noInsurance } := by
  unfold Bank.lookupZone
  cases hfound : b.zones.find? fun y => decide (y.low ≤ d ∧ d ≤ y.high) with
  | none => exact absurd (decide_eq_true ⟨hlow, hhigh⟩) (List.find?_eq_none.mp hfound z hmem)
  | some y =>
    obtain ⟨hylow, hyhigh⟩ := of_decide_eq_true (p := y.low ≤ d ∧ d ≤ y.high) (List.find?_some hfound :)
    rw [honly y (List.mem_of_find?_eq_some hfound) hylow hyhigh]

/-- A code no entry covers gets the open default or nothing (R57). -/
theorem lookupZone_uncovered {b : Bank} {d : Nat} (h : ∀ z ∈ b.zones, d < z.low ∨ z.high < d) :
    b.lookupZone d =
      if b.openDefault then some { zone := 0, route := 0, remote := false, noInsurance := false } else none := by
  have hfound : (b.zones.find? fun y => decide (y.low ≤ d ∧ d ≤ y.high)) = none :=
    List.find?_eq_none.mpr fun z hz hcovers => by
      have houtside := h z hz
      have hinside := of_decide_eq_true hcovers
      omega
  rw [Bank.lookupZone, hfound]

/-- No band reaches the weight (R75). -/
theorem firstBand_none {wc : Nat} {bands : List BandRecord} (h : ∀ x ∈ bands, x.u < wc) (low : Nat) :
    firstBand wc low bands = none := by
  induction bands generalizing low with
  | nil => rfl
  | cons b rest ih =>
    obtain ⟨hb, hrest⟩ := List.forall_mem_cons.mp h
    rw [firstBand, if_neg (Nat.not_le.mpr hb), ih hrest]

/-- The first band that reaches the weight, with the U of the band before it as its lower limit (R58, R75). -/
theorem firstBand_some {wc n : Nat} {bands : List BandRecord} {x : BandRecord} (hx : bands[n]? = some x) (hreaches : wc ≤ x.u)
    (hbefore : ∀ y ∈ bands.take n, y.u < wc) (low : Nat) :
    firstBand wc low bands = some (x, match (generalizing := false) n with
      | 0 => low
      | k + 1 => ((bands[k]?).map (·.u)).getD 0) := by
  induction bands generalizing n low with
  | nil => cases hx
  | cons b rest ih =>
    cases n with
    | zero =>
      obtain rfl : b = x := Option.some.inj hx
      rw [firstBand, if_pos hreaches]
    | succ k =>
      rw [List.take_succ_cons] at hbefore
      obtain ⟨hb, hrest⟩ := List.forall_mem_cons.mp hbefore
      rw [firstBand, if_neg (Nat.not_le.mpr hb), ih hx hrest]
      cases k <;> rfl

/-- Settles O31, by the search of the zone map and by induction on the bands of the cell. -/
theorem zoneAndBandLookup : Obligations.ZoneAndBandLookup :=
  ⟨fun _ _ => ⟨fun _ hz honly => lookupZone_covered hz honly, lookupZone_uncovered⟩,
    fun _ _ _ => ⟨fun hall => firstBand_none hall 0, fun _ _ hx hreaches hbefore => firstBand_some hx hreaches hbefore 0⟩⟩

/-! ### The end of a quote -/

/-- The removal of a quote, by its number and with the loss of its reference (R54, R91, R92). -/
theorem removeQuote_eq (q : Quote) (s : State) :
    s.removeQuote q =
      State.setBank q.result.bank (s.bank q.result.bank).dropped
        { s with quotes := { s.quotes with
            records := s.quotes.records.eraseP fun x => x.number == q.number
            pendingOrder := s.quotes.pendingOrder.erase q.number } } :=
  dropRef_eq _ _

/-- The removal of a quote neither reads nor touches the counter link and the scratch. -/
theorem removeQuote_frame (q : Quote) (l : Link) (c : Scratch) (s : State) :
    ({ s with link := l, scratch := c } : State).removeQuote q = { s.removeQuote q with link := l, scratch := c } := by
  rw [removeQuote_eq, removeQuote_eq]
  cases q.result.bank <;> rfl

/-- Two replies, the later to the request of the event: both enter the output queue in that order (R179). -/
theorem finish_reply_reply (r : RequestRef) (b : Reply) (tag kind : Nat) (body : Reply) (order : RoomOrder) {t : State}
    (h : t.scratch = .clear) :
    (((t.taken tag kind).reply r b).reply (t.nextRef tag) body).finish t.link.nextId order =
      ((t.taken tag kind).replied r b).said (.reply (some t.link.nextId) tag body) := by
  have hproduced : (((t.taken tag kind).reply r b).reply (t.nextRef tag) body).scratch.produced =
      [.reply (some r.id) r.tag b, .reply (some t.link.nextId) tag body] := by
    show t.scratch.produced ++ _ ++ _ = _
    rw [h]
    rfl
  have hoffer : (((t.taken tag kind).reply r b).reply (t.nextRef tag) body).scratch.offerDue = false :=
    congrArg Scratch.offerDue h
  have hserve : (((t.taken tag kind).reply r b).reply (t.nextRef tag) body).scratch.serveDue = false :=
    congrArg Scratch.serveDue h
  rw [finish_quiet _ _ _ hoffer hserve]
  rw [State.flush, hproduced, ownFirst_replies _ _ (by simp [OutMsg.isReply])]
  show ({ t with link := _, scratch := .clear } : State) = _
  rw [← h]
  rfl

/-- CANCEL of an unknown number (R92). -/
theorem takeCancel_none {n : Nat} {s : State} (h : s.quote? n = none) (r : RequestRef) :
    s.takeCancel r n = s.refuse r .noQuote := by
  simp only [State.takeCancel, h]

/-- CANCEL of an OPEN quote (R92). -/
theorem takeCancel_opened {n : Nat} {q : Quote} {s : State} (h : s.quote? n = some q) (hstate : q.state = .opened)
    (r : RequestRef) : s.takeCancel r n = (s.removeQuote q).done r .plain := by
  simp only [State.takeCancel, h, hstate]

/-- CANCEL of a COMMITTING quote (R92). -/
theorem takeCancel_committing {n : Nat} {q : Quote} {commit : RequestRef} {s : State} (h : s.quote? n = some q)
    (hstate : q.state = .committing commit) (r : RequestRef) :
    s.takeCancel r n = ((s.removeQuote q).refuse commit .cancelled).done r .plain := by
  simp only [State.takeCancel, h, hstate]

/-- Settles O36: the quote found is removed as `removeQuote_eq` says; QUOTE_EXPIRY does it at the end of its life, CANCEL within
the taking of a request, with one reply or two. -/
theorem quotesExpireAndAreCancelled : Obligations.QuotesExpireAndAreCancelled := by
  intro n q s hclear hfound removed
  obtain ⟨-, hnumber⟩ := quote?_spec hfound
  have hremoved : ∀ u : State, u.removeQuote q = removed u := fun u => by
    rw [removeQuote_eq, hnumber]
    rfl
  have hcancel : ∀ (tag m : Nat) (t : State), 1 ≤ m → m ≤ 65535 →
      (t.taken tag 16).handRequest (t.nextRef tag) (.cancel m) = (t.taken tag 16).takeCancel (t.nextRef tag) m :=
    fun tag m t h1 h2 => if_pos (decide_eq_true ⟨h1, h2⟩)
  refine ⟨fun hopened => ?_, fun tag hstarted hroom h1 h2 => ?_, fun tag m hstarted hroom h1 h2 hnone => ?_⟩
  · show execQuoteExpiry n s = _
    rw [execQuoteExpiry, hfound, ← hremoved]
    exact if_pos hopened
  · have haccepts : Accepts 16 s := ⟨hclear, hstarted, hroom⟩
    have hframe : s.removeQuote q = { s.removeQuote q with link := s.link, scratch := s.scratch } :=
      removeQuote_frame q s.link s.scratch s
    have hscratch : (s.removeQuote q).scratch = s.scratch := (congrArg State.scratch hframe :)
    have hlink : (s.removeQuote q).link = s.link := (congrArg State.link hframe :)
    have hjoined : (s.taken tag 16).removeQuote q = (s.removeQuote q).taken tag 16 := by
      refine (removeQuote_frame q _ s.scratch s).trans ?_
      rw [State.taken, State.onLink, hlink, ← hscratch]
    have hfound' : (s.taken tag 16).quote? n = some q := hfound
    rw [← hremoved]
    cases hstate : q.state with
    | opened =>
      have htaken := takeCancel_opened hfound' hstate (s.nextRef tag)
      rw [hjoined] at htaken
      exact exec_answered (.cancel tag n) ⟨rfl, rfl⟩ haccepts hscratch hlink ((hcancel tag n s h1 h2).trans htaken)
    | committing ref =>
      have htaken := takeCancel_committing hfound' hstate (s.nextRef tag)
      rw [hjoined] at htaken
      refine (exec_accepted (.cancel tag n) ⟨rfl, rfl⟩ haccepts).trans (congrArg _ ?_)
      have hend := finish_reply_reply ref (.refused .cancelled none) tag 16 (.done .plain) .owedFirst
        (hscratch.trans hclear)
      rw [hlink] at hend
      refine Eq.trans ?_ hend
      refine congrArg (State.finish s.link.nextId .owedFirst) (((hcancel tag n s h1 h2).trans htaken).trans ?_)
      rw [State.nextRef, State.nextRef, hlink]
      rfl
  · have hnone' : (s.taken tag 16).quote? m = none := hnone
    exact exec_refused (.cancel tag m) ⟨rfl, rfl⟩ ⟨hclear, hstarted, hroom⟩
      ((hcancel tag m s h1 h2).trans (takeCancel_none hnone' _))

end Sys2Proof.Machine
end

section
/-! The owed items in their order (R157), their frames (R155, R128), and the place of a frame in the queue (R156). -/

namespace Sys2Proof.Machine

/-! ### One part of the owed items: what each row of a table owes, by ascending index -/

/-- What each entry of a table owes, in the order of the table. -/
def perIndex {α : Type} (g : Nat → α → List OwedItem) (l : List α) : List OwedItem :=
  ((List.range l.length).zip l).flatMap fun x => g x.1 x.2

section

variable {α : Type} (g : Nat → α → List OwedItem)

/-- The first entry, and then the others under the next indexes. -/
theorem perIndex_cons (x : α) (l : List α) : perIndex g (x :: l) = g 0 x ++ perIndex (fun k => g (k + 1)) l := by
  unfold perIndex
  rw [List.length_cons, List.range_succ_eq_map, List.zip_cons_cons, List.flatMap_cons, List.zip_map_left, List.flatMap_map]
  rfl

/-- An item is owed when the entry at some index owes it. -/
theorem mem_perIndex (l : List α) (i : OwedItem) : i ∈ perIndex g l ↔ ∃ k x, l[k]? = some x ∧ i ∈ g k x := by
  induction l generalizing g with
  | nil => simp [perIndex]
  | cons y l ih =>
    rw [perIndex_cons, List.mem_append, ih]
    constructor
    · rintro (h | ⟨k, x, hx, hi⟩)
      · exact ⟨0, y, rfl, h⟩
      · exact ⟨k + 1, x, hx, hi⟩
    · rintro ⟨k, x, hx, hi⟩
      cases k with
      | zero =>
        cases hx
        exact .inl hi
      | succ k => exact .inr ⟨k, x, hx, hi⟩

/-- A change of one entry that leaves what it owes leaves the items. -/
theorem perIndex_modify_same {f : α → α} (h : ∀ j x, g j (f x) = g j x) (l : List α) (k : Nat) :
    perIndex g (l.modify k f) = perIndex g l := by
  induction l generalizing g k with
  | nil => rw [List.modify_nil]
  | cons y l ih =>
    cases k with
    | zero => rw [List.modify_zero_cons, perIndex_cons, perIndex_cons, h]
    | succ k => rw [List.modify_succ_cons, perIndex_cons, perIndex_cons, ih _ fun j => h (j + 1)]

/-- The first item is the first that some entry owes; when that entry comes to owe the rest of its own, the rest remains. -/
theorem perIndex_eq_cons {l : List α} {i : OwedItem} {rest : List OwedItem} (h : perIndex g l = i :: rest) :
    ∃ k x xs, l[k]? = some x ∧ g k x = i :: xs ∧ ∀ f : α → α, g k (f x) = xs → perIndex g (l.modify k f) = rest := by
  induction l generalizing g with
  | nil => cases h
  | cons y l ih =>
    rw [perIndex_cons] at h
    rcases List.append_eq_cons_iff.mp h with ⟨hnone, hlater⟩ | ⟨xs, hfirst, rfl⟩
    · obtain ⟨k, x, xs, hx, hg, hmodify⟩ := ih _ hlater
      refine ⟨k + 1, x, xs, hx, hg, fun f hf => ?_⟩
      rw [List.modify_succ_cons, perIndex_cons, hnone, hmodify f hf, List.nil_append]
    · refine ⟨0, y, xs, rfl, hfirst, fun f hf => ?_⟩
      rw [List.modify_zero_cons, perIndex_cons, hf]

/-- What a selection of one entry's items finds, it finds there in their order. -/
theorem perIndex_filterMap {β : Type} (φ : OwedItem → Option β) {l : List α} {k : Nat} {x : α} (hx : l[k]? = some x)
    (hothers : ∀ j y, j ≠ k → (g j y).filterMap φ = []) : (perIndex g l).filterMap φ = (g k x).filterMap φ := by
  have hnone : ∀ (l : List α) (g : Nat → α → List OwedItem), (∀ j y, (g j y).filterMap φ = []) →
      (perIndex g l).filterMap φ = [] := by
    intro l
    induction l with
    | nil => exact fun _ _ => rfl
    | cons y l ih =>
      intro g hg
      rw [perIndex_cons, List.filterMap_append, hg, ih _ fun j => hg (j + 1), List.nil_append]
  induction l generalizing g k with
  | nil => cases hx
  | cons y l ih =>
    rw [perIndex_cons, List.filterMap_append]
    cases k with
    | zero =>
      cases hx
      rw [hnone l _ fun j y => hothers (j + 1) y (Nat.succ_ne_zero j), List.append_nil]
    | succ k =>
      rw [hothers 0 y (Nat.succ_ne_zero k).symm, List.nil_append]
      exact ih (fun j => g (j + 1)) hx fun j y hj => hothers (j + 1) y fun h => hj (Nat.succ.inj h)

end

/-! ### The place of an item in the order of R157 -/

/-- The place of an item: its part, and its index in it (R157). -/
def OwedItem.place : OwedItem → Nat × Nat
  | .held k _ => (0, k)
  | .claim k _ => (1, k)
  | .join => (2, 0)
  | .holds k => (3, k)
  | .spent k _ => (4, k)
  | .cutover _ => (5, 0)
  | .bagnext r _ => (6, r)

/-- The order of the places (R157). -/
def notAfter (x y : Nat × Nat) : Prop := x.1 < y.1 ∨ (x.1 = y.1 ∧ x.2 ≤ y.2)

/-- Entries that owe items of one part at their own index owe them in order. -/
theorem pairwise_perIndex {α : Type} {g : Nat → α → List OwedItem} {part shift : Nat}
    (h : ∀ k x, ∀ i ∈ g k x, i.place = (part, k + shift)) (l : List α) :
    (perIndex g l).Pairwise fun i j => notAfter i.place j.place := by
  induction l generalizing g shift with
  | nil => exact List.Pairwise.nil
  | cons y l ih =>
    rw [perIndex_cons, List.pairwise_append]
    have hshifted : ∀ k x, ∀ i ∈ g (k + 1) x, i.place = (part, k + (shift + 1)) := fun k x i hi => by
      rw [h (k + 1) x i hi, Nat.succ_add_eq_add_succ]
    refine ⟨List.pairwise_of_forall_mem_list fun i hi j hj => ?_, ih hshifted, fun i hi j hj => ?_⟩
    · rw [h 0 y i hi, h 0 y j hj]
      exact .inr ⟨rfl, Nat.le_refl _⟩
    · obtain ⟨k, x, -, hj⟩ := (mem_perIndex _ l j).mp hj
      rw [h 0 y i hi, hshifted k x j hj]
      exact .inr ⟨rfl, by omega⟩

/-! ### The seven parts -/

/-- What a slot owes of each kind, and a row, at their index. -/
def heldOf (k : Nat) (x : Slot) : List OwedItem := x.owedHeld.map (OwedItem.held k)
@[inherit_doc heldOf] def claimOf (k : Nat) (x : Slot) : List OwedItem := x.owedClaim.map (OwedItem.claim k)
@[inherit_doc heldOf] def holdsOf (k : Nat) (x : Slot) : List OwedItem := if x.holdsOwed then [OwedItem.holds k] else []
@[inherit_doc heldOf] def spentOf (k : Nat) (x : Slot) : List OwedItem := x.owedSpent.map (OwedItem.spent k)
@[inherit_doc heldOf] def bagnextOf (r : Nat) (x : Row) : List OwedItem := x.owed.toList.map (OwedItem.bagnext r)

/-- The owed JOIN. -/
def joinOf (join : Bool) : List OwedItem := if join then [OwedItem.join] else []

/-- The owed items of the slots, of JOIN, of CUTOVER and of the bag rows, in the order of R157. -/
def itemsOwed (slots : List Slot) (join : Bool) (cutover : Option Nat) (rows : List Row) : List OwedItem :=
  perIndex heldOf slots ++ (perIndex claimOf slots ++ (joinOf join ++
    (perIndex holdsOf slots ++ (perIndex spentOf slots ++ (cutover.toList.map OwedItem.cutover ++ perIndex bagnextOf rows)))))

/-- The owed items of a station. -/
theorem owedItems_eq (s : State) :
    s.owedItems = itemsOwed s.alloc.slots s.hall.owedJoin s.tariff.owedCutover s.bags.rows := by
  unfold State.owedItems itemsOwed
  simp only [List.append_assoc]
  rfl

theorem mem_heldOf (k : Nat) (x : Slot) (i : OwedItem) : i ∈ heldOf k x ↔ ∃ b ∈ x.owedHeld, OwedItem.held k b = i :=
  List.mem_map

theorem mem_claimOf (k : Nat) (x : Slot) (i : OwedItem) :
    i ∈ claimOf k x ↔ ∃ b, x.claim = .owed b ∧ OwedItem.claim k b = i := by
  unfold claimOf Slot.owedClaim
  cases x.claim <;> simp [eq_comm]

theorem mem_holdsOf (k : Nat) (x : Slot) (i : OwedItem) :
    i ∈ holdsOf k x ↔ x.holdsOwed = true ∧ OwedItem.holds k = i := by
  unfold holdsOf
  cases x.holdsOwed <;> simp [eq_comm]

theorem mem_spentOf (k : Nat) (x : Slot) (i : OwedItem) : i ∈ spentOf k x ↔ ∃ b ∈ x.owedSpent, OwedItem.spent k b = i :=
  List.mem_map

theorem mem_bagnextOf (r : Nat) (x : Row) (i : OwedItem) :
    i ∈ bagnextOf r x ↔ ∃ b, x.owed = some b ∧ OwedItem.bagnext r b = i := by
  unfold bagnextOf
  cases x.owed <;> simp [eq_comm]

theorem place_of_mem_heldOf (k : Nat) (x : Slot) : ∀ i ∈ heldOf k x, i.place = (0, k) := fun i hi => by
  obtain ⟨b, -, rfl⟩ := (mem_heldOf k x i).mp hi
  rfl

theorem place_of_mem_claimOf (k : Nat) (x : Slot) : ∀ i ∈ claimOf k x, i.place = (1, k) := fun i hi => by
  obtain ⟨b, -, rfl⟩ := (mem_claimOf k x i).mp hi
  rfl

theorem place_of_mem_holdsOf (k : Nat) (x : Slot) : ∀ i ∈ holdsOf k x, i.place = (3, k) := fun i hi => by
  obtain ⟨-, rfl⟩ := (mem_holdsOf k x i).mp hi
  rfl

theorem place_of_mem_spentOf (k : Nat) (x : Slot) : ∀ i ∈ spentOf k x, i.place = (4, k) := fun i hi => by
  obtain ⟨b, -, rfl⟩ := (mem_spentOf k x i).mp hi
  rfl

theorem place_of_mem_bagnextOf (r : Nat) (x : Row) : ∀ i ∈ bagnextOf r x, i.place = (6, r) := fun i hi => by
  obtain ⟨b, -, rfl⟩ := (mem_bagnextOf r x i).mp hi
  rfl

theorem place_of_mem_joinOf (join : Bool) : ∀ i ∈ joinOf join, i.place = (2, 0) := fun i hi => by
  cases join <;> simp_all [joinOf, OwedItem.place]

/-- An item is owed in one of the seven ways. -/
theorem mem_owedItems (s : State) (i : OwedItem) :
    i ∈ s.owedItems ↔
      (∃ k x, s.alloc.slots[k]? = some x ∧ ∃ b ∈ x.owedHeld, OwedItem.held k b = i)
      ∨ (∃ k x, s.alloc.slots[k]? = some x ∧ ∃ b, x.claim = .owed b ∧ OwedItem.claim k b = i)
      ∨ (s.hall.owedJoin = true ∧ OwedItem.join = i)
      ∨ (∃ k x, s.alloc.slots[k]? = some x ∧ x.holdsOwed = true ∧ OwedItem.holds k = i)
      ∨ (∃ k x, s.alloc.slots[k]? = some x ∧ ∃ b ∈ x.owedSpent, OwedItem.spent k b = i)
      ∨ (∃ v, s.tariff.owedCutover = some v ∧ OwedItem.cutover v = i)
      ∨ (∃ r x, s.bags.rows[r]? = some x ∧ ∃ b, x.owed = some b ∧ OwedItem.bagnext r b = i) := by
  have hjoin : i ∈ joinOf s.hall.owedJoin ↔ s.hall.owedJoin = true ∧ OwedItem.join = i := by
    cases s.hall.owedJoin <;> simp [joinOf, eq_comm]
  have hcutover : i ∈ s.tariff.owedCutover.toList.map OwedItem.cutover ↔
      ∃ v, s.tariff.owedCutover = some v ∧ OwedItem.cutover v = i := by
    cases s.tariff.owedCutover <;> simp [eq_comm]
  rw [owedItems_eq, itemsOwed]
  simp only [List.mem_append, mem_perIndex, mem_heldOf, mem_claimOf, mem_holdsOf, mem_spentOf, mem_bagnextOf, hjoin, hcutover]

/-- Items in the order of their places, none of them in an earlier part than `part`. -/
def OrderedFrom (part : Nat) (l : List OwedItem) : Prop :=
  (l.Pairwise fun i j => notAfter i.place j.place) ∧ ∀ i ∈ l, part ≤ i.place.1

/-- The items of one part before those of later parts. -/
theorem OrderedFrom.append {part : Nat} {l₁ l₂ : List OwedItem} (hordered : l₁.Pairwise fun i j => notAfter i.place j.place)
    (hpart : ∀ i ∈ l₁, i.place.1 = part) (hlater : OrderedFrom (part + 1) l₂) : OrderedFrom part (l₁ ++ l₂) := by
  obtain ⟨hordered₂, hlater⟩ := hlater
  refine ⟨List.pairwise_append.mpr ⟨hordered, hordered₂, fun i hi j hj => .inl ?_⟩, fun i hi => ?_⟩
  · have hj := hlater j hj
    rw [hpart i hi]
    omega
  · rcases List.mem_append.mp hi with hi | hi
    · exact (hpart i hi).ge
    · exact Nat.le_of_succ_le (hlater i hi)

/-- The items of the entries of a table before those of later parts. -/
theorem OrderedFrom.perIndex_append {α : Type} {g : Nat → α → List OwedItem} {part : Nat}
    (h : ∀ k x, ∀ i ∈ g k x, i.place = (part, k)) (l : List α) {l₂ : List OwedItem} (hlater : OrderedFrom (part + 1) l₂) :
    OrderedFrom part (perIndex g l ++ l₂) := by
  refine .append (pairwise_perIndex (shift := 0) h l) (fun i hi => ?_) hlater
  obtain ⟨k, x, -, hi⟩ := (mem_perIndex g l i).mp hi
  rw [h k x i hi]

/-- The items stand in the order of their places (R157). -/
theorem pairwise_owedItems (s : State) : s.owedItems.Pairwise fun i j => notAfter i.place j.place := by
  have hbags : OrderedFrom 6 (perIndex bagnextOf s.bags.rows) := by
    simpa only [List.append_nil] using
      OrderedFrom.perIndex_append place_of_mem_bagnextOf s.bags.rows (l₂ := []) ⟨List.Pairwise.nil, fun _ hi => nomatch hi⟩
  have hcutover : OrderedFrom 5 (s.tariff.owedCutover.toList.map OwedItem.cutover ++ perIndex bagnextOf s.bags.rows) := by
    refine .append ?_ (fun i hi => ?_) hbags
    · cases s.tariff.owedCutover with
      | none => exact List.Pairwise.nil
      | some v => exact List.pairwise_singleton _ _
    · obtain ⟨v, -, rfl⟩ := List.mem_map.mp hi
      rfl
  have hslots := OrderedFrom.perIndex_append place_of_mem_holdsOf s.alloc.slots
    (.perIndex_append place_of_mem_spentOf s.alloc.slots hcutover)
  have hjoin := OrderedFrom.append (part := 2) (l₁ := joinOf s.hall.owedJoin)
    (by cases s.hall.owedJoin <;> simp [joinOf])
    (fun i hi => congrArg Prod.fst (place_of_mem_joinOf _ i hi)) hslots
  rw [owedItems_eq]
  exact (OrderedFrom.perIndex_append place_of_mem_heldOf _ (.perIndex_append place_of_mem_claimOf _ hjoin)).1

/-- The place of a frame that enters: behind its own class and the earlier ones, before the later ones (R156). -/
theorem insertFrame_place (q : List QueuedFrame) (f : QueuedFrame) : ∃ before behind, q = before ++ behind
    ∧ insertFrame q f = before ++ f :: behind
    ∧ (∀ x ∈ before, x.frame.frameClass.rank ≤ f.frame.frameClass.rank)
    ∧ (∀ x ∈ behind.head?, f.frame.frameClass.rank < x.frame.frameClass.rank) := by
  let goesBefore := fun g : QueuedFrame => decide (g.frame.frameClass.rank ≤ f.frame.frameClass.rank)
  refine ⟨q.takeWhile goesBefore, q.dropWhile goesBefore, List.takeWhile_append_dropWhile.symm, rfl,
    fun x hx => of_decide_eq_true (List.mem_takeWhile_imp (p := goesBefore) hx), fun x hx => ?_⟩
  have hstops := List.head?_dropWhile_not goesBefore q
  rw [Option.mem_def.mp hx] at hstops
  simpa [goesBefore] using hstops

end Sys2Proof.Machine
end

section
/-! OWED_ITEM_ENTRY (R157): the owed items enter the transmit queue one after another, as far as their classes are admitted. -/

namespace Sys2Proof.Machine

/-! ### One item enters -/

/-- An item enters the queue and is settled at its owner (R155, R157). -/
def State.enterItem (s : State) (i : OwedItem) : State := (s.enqueue (s.itemBody i)).settleItem i

/-- The owed items after one item has been settled. -/
theorem owedItems_enterItem_eq (s : State) (i : OwedItem) :
    (s.enterItem i).owedItems = itemsOwed (s.settleItem i).alloc.slots (s.settleItem i).hall.owedJoin
      (s.settleItem i).tariff.owedCutover (s.settleItem i).bags.rows := by
  rw [owedItems_eq]
  cases i <;> rfl

section

variable {f : Slot → Slot} (l : List Slot) (k : Nat)

/-- A change of a slot that leaves its owed HELDs leaves those of the station. -/
theorem held_modify (h : ∀ x, (f x).owedHeld = x.owedHeld) : perIndex heldOf (l.modify k f) = perIndex heldOf l :=
  perIndex_modify_same _ (fun _ x => by rw [heldOf, h, heldOf]) l k

/-- A change of a slot that leaves its claim leaves the owed CLAIMs. -/
theorem claim_modify (h : ∀ x, (f x).claim = x.claim) : perIndex claimOf (l.modify k f) = perIndex claimOf l :=
  perIndex_modify_same _ (fun _ x => by rw [claimOf, Slot.owedClaim, h, claimOf, Slot.owedClaim]) l k

/-- A change of a slot that leaves its owed HOLDS leaves those of the station. -/
theorem holds_modify (h : ∀ x, (f x).holdsOwed = x.holdsOwed) : perIndex holdsOf (l.modify k f) = perIndex holdsOf l :=
  perIndex_modify_same _ (fun _ x => by rw [holdsOf, h, holdsOf]) l k

/-- A change of a slot that leaves its owed SPENTs leaves those of the station. -/
theorem spent_modify (h : ∀ x, (f x).owedSpent = x.owedSpent) : perIndex spentOf (l.modify k f) = perIndex spentOf l :=
  perIndex_modify_same _ (fun _ x => by rw [spentOf, h, spentOf]) l k

end

/-- The first owed item, once settled, leaves the rest (R157): the seven cases are the part in which it stands; the parts
before it are empty, and of the parts only its own changes. -/
theorem owedItems_enterItem {s : State} {i : OwedItem} {rest : List OwedItem} (h : s.owedItems = i :: rest) :
    (s.enterItem i).owedItems = rest := by
  rw [owedItems_eq, itemsOwed] at h
  rw [owedItems_enterItem_eq, itemsOwed]
  rcases List.append_eq_cons_iff.mp h with ⟨hheld, h⟩ | ⟨own, hpart, rfl⟩
  case inr =>
    obtain ⟨k, x, _, -, hg, hmodify⟩ := perIndex_eq_cons _ hpart
    obtain ⟨b, bs, hb, rfl, rfl⟩ := List.map_eq_cons_iff.mp hg
    have hrest := hmodify (fun x => { x with owedHeld := x.owedHeld.erase b }) (by simp [heldOf, hb])
    simp only [State.settleItem, State.modifySlot, hrest, claim_modify, holds_modify, spent_modify, implies_true]
  rcases List.append_eq_cons_iff.mp h with ⟨hclaim, h⟩ | ⟨own, hpart, rfl⟩
  case inr =>
    obtain ⟨k, x, _, -, hg, hmodify⟩ := perIndex_eq_cons _ hpart
    obtain ⟨b, bs, hb, rfl, rfl⟩ := List.map_eq_cons_iff.mp hg
    obtain rfl : bs = [] := by
      unfold Slot.owedClaim at hb
      cases hx : x.claim <;> rw [hx] at hb <;> cases hb
      rfl
    have hrest := hmodify (fun x => { x with claim := .queued b }) rfl
    simp only [State.settleItem, State.modifySlot, hrest, held_modify, holds_modify, spent_modify, implies_true, hheld,
      List.nil_append]
  rcases List.append_eq_cons_iff.mp h with ⟨hjoin, h⟩ | ⟨own, hpart, rfl⟩
  case inr =>
    obtain ⟨rfl, rfl⟩ : i = .join ∧ own = [] := by
      unfold joinOf at hpart
      split at hpart <;> cases hpart
      exact ⟨rfl, rfl⟩
    have hrest : joinOf false = [] := rfl
    simp only [State.settleItem, hrest, hheld, hclaim, List.nil_append]
  rcases List.append_eq_cons_iff.mp h with ⟨hholds, h⟩ | ⟨own, hpart, rfl⟩
  case inr =>
    obtain ⟨k, x, own', -, hg, hmodify⟩ := perIndex_eq_cons _ hpart
    obtain ⟨rfl, rfl⟩ : i = .holds k ∧ own' = [] := by
      unfold holdsOf at hg
      split at hg <;> cases hg
      exact ⟨rfl, rfl⟩
    have hrest := hmodify (fun x => { x with holdsOwed := false }) rfl
    simp only [State.settleItem, State.modifySlot, hrest, held_modify, claim_modify, spent_modify, implies_true, hheld, hclaim,
      hjoin, List.nil_append]
  rcases List.append_eq_cons_iff.mp h with ⟨hspent, h⟩ | ⟨own, hpart, rfl⟩
  case inr =>
    obtain ⟨k, x, _, -, hg, hmodify⟩ := perIndex_eq_cons _ hpart
    obtain ⟨b, bs, hb, rfl, rfl⟩ := List.map_eq_cons_iff.mp hg
    have hrest := hmodify (fun x => { x with owedSpent := x.owedSpent.erase b }) (by simp [spentOf, hb])
    simp only [State.settleItem, State.modifySlot, hrest, held_modify, claim_modify, holds_modify, implies_true, hheld, hclaim,
      hjoin, hholds, List.nil_append]
  rcases List.append_eq_cons_iff.mp h with ⟨hcutover, h⟩ | ⟨own, hpart, rfl⟩
  case inr =>
    obtain ⟨v, vs, hv, rfl, rfl⟩ := List.map_eq_cons_iff.mp hpart
    obtain rfl : vs = [] := by
      cases hx : s.tariff.owedCutover <;> rw [hx] at hv <;> cases hv
      rfl
    simp only [State.settleItem, hheld, hclaim, hjoin, hholds, hspent, List.nil_append, Option.toList_none, List.map_nil]
  obtain ⟨r, x, _, -, hg, hmodify⟩ := perIndex_eq_cons _ h
  obtain ⟨b, bs, hb, rfl, rfl⟩ := List.map_eq_cons_iff.mp hg
  obtain rfl : bs = [] := by
    cases hx : x.owed <;> rw [hx] at hb <;> cases hb
    rfl
  have hrest := hmodify (fun x => { x with owed := none }) rfl
  simp only [State.settleItem, State.modifyRow, hrest, hheld, hclaim, hjoin, hholds, hspent, hcutover, List.nil_append]

/-! ### What the entries keep -/

/-- A CLAIM is owed by a slot whose claim is OWED (R114). -/
theorem claim_mem_owedItems (s : State) (k b : Nat) :
    OwedItem.claim k b ∈ s.owedItems ↔ ∃ x, s.alloc.slots[k]? = some x ∧ x.claim = .owed b := by
  simp [mem_owedItems]

/-- A slot but for what it owes. -/
def Slot.unowed (x : Slot) : Slot := { x with claim := .none, owedHeld := [], owedSpent := [], holdsOwed := false }

/-- A row but for what it owes. -/
def Row.unowed (r : Row) : Row := { r with owed := none }

/-- Between two claims: the same, or the CLAIM that was owed has been queued (R114). -/
def ClaimEntered (c d : Claim) : Prop := d = c ∨ ∃ b, c = .owed b ∧ d = .queued b

/-- Entries change the queue and what is owed, and nothing else. -/
structure EntryKept (s t : State) : Prop where
  parts : t = { s with hall := t.hall, tariff := t.tariff, bags := t.bags, alloc := t.alloc }
  hall : t.hall = { s.hall with queue := t.hall.queue, owedJoin := t.hall.owedJoin }
  tariff : t.tariff = { s.tariff with owedCutover := t.tariff.owedCutover }
  late : t.bags.lateCount = s.bags.lateCount
  rows : t.bags.rows.map Row.unowed = s.bags.rows.map Row.unowed
  alloc : t.alloc = { s.alloc with slots := t.alloc.slots }
  slots : t.alloc.slots.map Slot.unowed = s.alloc.slots.map Slot.unowed
  claims : ∀ (k : Nat) (x y : Slot), s.alloc.slots[k]? = some x → t.alloc.slots[k]? = some y → ClaimEntered x.claim y.claim
  queue : s.hall.queue.Sublist t.hall.queue

/-- A change of one entry that leaves `g` of it leaves the table under `g`. -/
theorem map_modify_same {α β : Type} {g : α → β} {f : α → α} (h : ∀ x, g (f x) = g x) (l : List α) (k : Nat) :
    (l.modify k f).map g = l.map g := by
  refine List.ext_getElem? fun j => ?_
  rw [List.getElem?_map, List.getElem?_map, List.getElem?_modify]
  cases l[j]? with
  | none => rfl
  | some x => by_cases hj : k = j <;> simp [hj, h]

namespace EntryKept

theorem refl (s : State) : EntryKept s s :=
  ⟨rfl, rfl, rfl, rfl, rfl, rfl, rfl, fun _ _ _ hx hy => .inl (by rw [hx] at hy; cases hy; rfl), List.Sublist.refl _⟩

variable {s t u : State}

theorem length (h : EntryKept s t) : t.alloc.slots.length = s.alloc.slots.length := by
  simpa only [List.length_map] using congrArg List.length h.slots

/-- A slot after the entries, as it was but for what it owed. -/
theorem slot (h : EntryKept s t) {k : Nat} {x : Slot} (hx : s.alloc.slots[k]? = some x) :
    ∃ y, t.alloc.slots[k]? = some y ∧ y.unowed = x.unowed := by
  have hmap := congrArg (·[k]?) h.slots
  simp only [List.getElem?_map, hx, Option.map_some] at hmap
  exact Option.map_eq_some_iff.mp hmap

theorem trans (h : EntryKept s t) (h' : EntryKept t u) : EntryKept s u where
  parts := by rw [h'.parts, h.parts]
  hall := by rw [h'.hall, h.hall]
  tariff := by rw [h'.tariff, h.tariff]
  late := h'.late.trans h.late
  rows := h'.rows.trans h.rows
  alloc := by rw [h'.alloc, h.alloc]
  slots := h'.slots.trans h.slots
  claims k x z hx hz := by
    obtain ⟨y, hy, -⟩ := h.slot hx
    rcases h.claims k x y hx hy with hxy | ⟨b, hxb, hyb⟩
    · exact hxy ▸ h'.claims k y z hy hz
    · rcases h'.claims k y z hy hz with hyz | ⟨c, hyc, -⟩
      · exact .inr ⟨b, hxb, hyz.trans hyb⟩
      · rw [hyb] at hyc
        cases hyc
  queue := h.queue.trans h'.queue

/-- An item enters, and its slot loses what it owed. -/
theorem modifySlot (body : FrameBody) (k : Nat) {f : Slot → Slot} (hunowed : ∀ x, (f x).unowed = x.unowed)
    (hclaim : ∀ x, s.alloc.slots[k]? = some x → ClaimEntered x.claim (f x).claim) :
    EntryKept s ((s.enqueue body).modifySlot k f) where
  parts := rfl
  hall := rfl
  tariff := rfl
  late := rfl
  rows := rfl
  alloc := rfl
  slots := map_modify_same hunowed _ k
  claims j x y hx hy := by
    have hy : (s.alloc.slots.modify k f)[j]? = some y := hy
    rw [List.getElem?_modify, hx] at hy
    obtain rfl : (if k = j then f x else x) = y := Option.some.inj hy
    split_ifs with hj
    · exact hclaim x (hj ▸ hx)
    · exact .inl rfl
  queue := sublist_insertFrame _ _

/-- An owed item enters. -/
theorem enterItem {i : OwedItem} (hi : i ∈ s.owedItems) : EntryKept s (s.enterItem i) := by
  have hsame : ∀ x : Slot, ClaimEntered x.claim x.claim := fun _ => .inl rfl
  have hqueue := sublist_insertFrame s.hall.queue { frame := s.buildFrame (s.itemBody i), check := none }
  have hslot : ∀ (k : Nat) (x y : Slot), s.alloc.slots[k]? = some x → s.alloc.slots[k]? = some y →
      ClaimEntered x.claim y.claim := (refl s).claims
  cases i with
  | held k b => exact modifySlot _ k (fun _ => rfl) fun x _ => hsame x
  | holds k => exact modifySlot _ k (fun _ => rfl) fun x _ => hsame x
  | spent k b => exact modifySlot _ k (fun _ => rfl) fun x _ => hsame x
  | claim k b =>
    obtain ⟨x', hx', hclaim⟩ := (claim_mem_owedItems s k b).mp hi
    exact modifySlot _ k (fun _ => rfl) fun x hx => .inr ⟨b, by rwa [Option.some.inj (hx.symm.trans hx')], rfl⟩
  | join => exact ⟨rfl, rfl, rfl, rfl, rfl, rfl, rfl, hslot, hqueue⟩
  | cutover v => exact ⟨rfl, rfl, rfl, rfl, rfl, rfl, rfl, hslot, hqueue⟩
  | bagnext r b => 
    have hrows := map_modify_same (g := Row.unowed) (f := fun x => { x with owed := none }) (fun _ => rfl) s.bags.rows r
    exact ⟨rfl, rfl, rfl, rfl, hrows, rfl, rfl, hslot, hqueue⟩

/-- The frame of an item is the same after the entries (R155, R128). -/
theorem frameOf (h : EntryKept s t) (i : OwedItem) : t.buildFrame (t.itemBody i) = s.buildFrame (s.itemBody i) := by
  have hslots : ∀ k : Nat, (t.alloc.slots[k]?).map Slot.unowed = (s.alloc.slots[k]?).map Slot.unowed := fun k => by
    simpa only [List.getElem?_map] using congrArg (fun l : List Slot => l[k]?) h.slots
  have hletter : ∀ k : Nat, t.letterOf k = s.letterOf k := fun k => by
    have hmapped := congrArg (fun o => (o.map Slot.letter).getD 0) (hslots k)
    simp only [Option.map_map] at hmapped
    exact hmapped
  have hblocks : ∀ k : Nat, ((t.alloc.slots[k]?).map Slot.heldBlocks).getD [] =
      ((s.alloc.slots[k]?).map Slot.heldBlocks).getD [] :=
    fun k => by
      have hmapped := congrArg (fun o => (o.map Slot.heldBlocks).getD []) (hslots k)
      simp only [Option.map_map] at hmapped
      exact hmapped
  have hsetup : t.setup = s.setup := by rw [h.parts]
  have hstation : t.hall.station = s.hall.station := by rw [h.hall]
  have hbody : t.itemBody i = s.itemBody i := by
    cases i <;> simp only [State.itemBody, hletter, hblocks, hsetup]
  rw [State.buildFrame, State.buildFrame, hbody, hsetup, hstation]

end EntryKept

/-! ### The offering -/

/-- The frame of an owed item, as it enters the queue (R155). -/
def State.entryOf (s : State) (i : OwedItem) : QueuedFrame := { frame := s.buildFrame (s.itemBody i), check := none }

/-- From `s` to `t` the items `entered`, the first of those owed, have entered the queue, and no others (R157). -/
structure Offered (s t : State) (entered : List OwedItem) : Prop where
  items : s.owedItems = entered ++ t.owedItems
  kept : EntryKept s t
  queue : t.hall.queue = entered.foldl (fun q i => insertFrame q (s.entryOf i)) s.hall.queue
  claims : ∀ k b, OwedItem.claim k b ∈ entered → ∃ y, t.alloc.slots[k]? = some y ∧ y.claim = .queued b
  room : s.hall.queue.length ≤ 16 → t.hall.queue.length ≤ 16

/-- An admitted class leaves room for a frame (R156). -/
theorem length_of_admits {queue : List QueuedFrame} {c : FrameClass} (h : admits queue c = true) : queue.length < 16 := by
  have hlevel : c.level ≤ 16 := by cases c <;> decide
  exact Nat.lt_of_lt_of_le (of_decide_eq_true h) hlevel

/-- The queue after an item has entered. -/
theorem enterItem_queue (s : State) (i : OwedItem) : (s.enterItem i).hall.queue = insertFrame s.hall.queue (s.entryOf i) := by
  cases i <;> rfl

/-- A slot whose CLAIM has entered is QUEUED (R114). -/
theorem enterItem_claim {s : State} {k b : Nat} (h : OwedItem.claim k b ∈ s.owedItems) :
    ∃ y, (s.enterItem (.claim k b)).alloc.slots[k]? = some y ∧ y.claim = .queued b := by
  obtain ⟨x, hx, -⟩ := (claim_mem_owedItems s k b).mp h
  refine ⟨{ x with claim := .queued b }, ?_, rfl⟩
  show (s.alloc.slots.modify k _)[k]? = _
  rw [List.getElem?_modify, hx]
  exact congrArg some (if_pos rfl)

namespace Offered

theorem nil (s : State) : Offered s s [] :=
  ⟨rfl, .refl s, rfl, fun _ _ h => (List.not_mem_nil h).elim, id⟩

/-- The first owed item enters, and the others after it. -/
theorem cons {s t : State} {i : OwedItem} {rest entered : List OwedItem} (hitems : s.owedItems = i :: rest)
    (hadmits : admits s.hall.queue i.frameClass = true) (h : Offered (s.enterItem i) t entered) :
    Offered s t (i :: entered) := by
  have howed : i ∈ s.owedItems := hitems ▸ List.mem_cons_self
  have hentry : EntryKept s (s.enterItem i) := .enterItem howed
  have hframes : (s.enterItem i).entryOf = s.entryOf := funext fun j => by
    rw [State.entryOf, State.entryOf, hentry.frameOf]
  refine ⟨?_, hentry.trans h.kept, ?_, fun k b hmem => ?_, fun _ => h.room ?_⟩
  · rw [hitems, List.cons_append, ← h.items, owedItems_enterItem hitems]
  · rw [h.queue, hframes, enterItem_queue, List.foldl_cons]
  · rcases List.mem_cons.mp hmem with rfl | hmem
    · obtain ⟨x, hx, hqueued⟩ := enterItem_claim howed
      obtain ⟨y, hy, -⟩ := h.kept.slot hx
      rcases h.kept.claims k x y hx hy with hsame | ⟨c, hc, -⟩
      · exact ⟨y, hy, hsame.trans hqueued⟩
      · rw [hqueued] at hc
        cases hc
    · exact h.claims k b hmem
  · rw [enterItem_queue, length_insertFrame]
    exact length_of_admits hadmits

end Offered

/-- Items of which none is admitted leave the station. -/
theorem foldl_offerItem_refused {s : State} {items : List OwedItem}
    (h : ∀ i ∈ items, admits s.hall.queue i.frameClass = false) : items.foldl State.offerItem s = s := by
  induction items with
  | nil => rfl
  | cons i items ih =>
    obtain ⟨hi, hitems⟩ := List.forall_mem_cons.mp h
    rw [List.foldl_cons, State.offerItem, hi]
    exact ih hitems

/-- The class of an item follows from its part: the HELDs and CLAIMs come first (R157). -/
theorem frameClass_of_place (i : OwedItem) : i.frameClass = if i.place.1 ≤ 1 then .urgent else .normal := by
  cases i <;> rfl

/-- No item after one that is not admitted is admitted either (R156, R157). -/
theorem admits_later {s : State} {i j : OwedItem} {rest : List OwedItem} (hitems : s.owedItems = i :: rest)
    (hrefused : admits s.hall.queue i.frameClass = false) (hj : j ∈ i :: rest) :
    admits s.hall.queue j.frameClass = false := by
  rcases List.mem_cons.mp hj with rfl | hj
  · exact hrefused
  · have hordered := pairwise_owedItems s
    rw [hitems] at hordered
    have hplace : i.place.1 ≤ j.place.1 := by
      rcases (List.pairwise_cons.mp hordered).1 j hj with h | h <;> omega
    have hlevel : j.frameClass.level ≤ i.frameClass.level := by
      rw [frameClass_of_place i, frameClass_of_place j]
      split_ifs
      · exact Nat.le_refl _
      · omega
      · decide
      · exact Nat.le_refl _
    exact decide_eq_false fun h => of_decide_eq_false hrefused (Nat.lt_of_lt_of_le h hlevel)

/-- An offering takes the first owed items, up to the first that is not admitted (R156, R157). -/
theorem offered_owedItems (items : List OwedItem) {s : State} (hitems : s.owedItems = items) :
    ∃ entered, Offered s (items.foldl State.offerItem s) entered
      ∧ ∀ i ∈ (items.foldl State.offerItem s).owedItems,
        admits (items.foldl State.offerItem s).hall.queue i.frameClass = false := by
  induction items generalizing s with
  | nil => exact ⟨[], .nil s, fun i hi => by rw [List.foldl_nil, hitems] at hi; cases hi⟩
  | cons i rest ih =>
    cases hadmits : admits s.hall.queue i.frameClass with
    | true =>
      have hfirst : s.offerItem i = s.enterItem i := by
        rw [State.offerItem, hadmits]
        rfl
      obtain ⟨entered, hoffered, hstopped⟩ := ih (owedItems_enterItem hitems)
      rw [List.foldl_cons, hfirst]
      exact ⟨i :: entered, .cons hitems hadmits hoffered, hstopped⟩
    | false =>
      have hnone : ∀ j ∈ i :: rest, admits s.hall.queue j.frameClass = false := fun j => admits_later hitems hadmits
      rw [foldl_offerItem_refused hnone]
      exact ⟨[], .nil s, fun j hj => hnone j (hitems ▸ hj)⟩

/-- An item not admitted to a queue of fewer than 16 frames is NORMAL, and the queue holds 12 (R156). -/
theorem normal_of_refused {queue : List QueuedFrame} {i : OwedItem} (h : admits queue i.frameClass = false)
    (hroom : queue.length < 16) : i.frameClass = .normal ∧ 12 ≤ queue.length := by
  have hfull := Nat.not_lt.mp (of_decide_eq_false h)
  rw [frameClass_of_place] at hfull ⊢
  split_ifs at hfull ⊢
  · exact absurd hroom (Nat.not_lt.mpr hfull)
  · exact ⟨rfl, hfull⟩

end Sys2Proof.Machine
end

section
/-! The owed items as a whole: which are owed, in what order, with what frames, and how they enter (R155, R156, R157). -/

namespace Sys2Proof.Machine

section

variable {φ : OwedItem → Option Nat}

/-- A selection of the items of one part passes over the others. -/
theorem filterMap_eq_nil_of_place {part : Nat} (hothers : ∀ i, i.place.1 ≠ part → φ i = none) {l : List OwedItem}
    (hl : ∀ i ∈ l, i.place.1 ≠ part) : l.filterMap φ = [] :=
  List.filterMap_eq_nil_iff.mpr fun i hi => hothers i (hl i hi)

/-- A selection of the items of one part passes over what a table owes of another. -/
theorem perIndex_filterMap_nil {α : Type} {g : Nat → α → List OwedItem} {part own : Nat}
    (hothers : ∀ i, i.place.1 ≠ part → φ i = none) (hg : ∀ k x, ∀ i ∈ g k x, i.place = (own, k)) (hown : own ≠ part)
    (l : List α) : (perIndex g l).filterMap φ = [] := by
  refine filterMap_eq_nil_of_place hothers fun i hi => ?_
  obtain ⟨k, x, -, hi⟩ := (mem_perIndex g l i).mp hi
  rw [hg k x i hi]
  exact hown

/-- A selection of the items of another part passes over the owed JOIN. -/
theorem joinOf_filterMap_nil {part : Nat} (hothers : ∀ i, i.place.1 ≠ part → φ i = none) (hpart : 2 ≠ part) (join : Bool) :
    (joinOf join).filterMap φ = [] :=
  filterMap_eq_nil_of_place hothers fun i hi => by rwa [place_of_mem_joinOf join i hi]

/-- A selection of the items of another part passes over the owed CUTOVER. -/
theorem cutover_filterMap_nil {part : Nat} (hothers : ∀ i, i.place.1 ≠ part → φ i = none) (hpart : 5 ≠ part)
    (v : Option Nat) : (v.toList.map OwedItem.cutover).filterMap φ = [] :=
  filterMap_eq_nil_of_place hothers fun i hi => by
    obtain ⟨_, -, rfl⟩ := List.mem_map.mp hi
    exact hpart

variable {s : State} {k : Nat} {x : Slot} (hx : s.alloc.slots[k]? = some x)
include hx

/-- The HELDs of a slot are owed in the order in which it owes them (R157). -/
theorem owedItems_held (hheld : ∀ j b, φ (.held j b) = if j = k then some b else none)
    (hothers : ∀ i, i.place.1 ≠ 0 → φ i = none) : s.owedItems.filterMap φ = x.owedHeld := by
  rw [owedItems_eq, itemsOwed]
  simp only [List.filterMap_append, List.append_nil, joinOf_filterMap_nil hothers (by decide),
    cutover_filterMap_nil hothers (by decide), perIndex_filterMap_nil hothers place_of_mem_claimOf (by decide),
    perIndex_filterMap_nil hothers place_of_mem_holdsOf (by decide),
    perIndex_filterMap_nil hothers place_of_mem_spentOf (by decide),
    perIndex_filterMap_nil hothers place_of_mem_bagnextOf (by decide)]
  rw [perIndex_filterMap heldOf φ hx fun j y hj => by simp [heldOf, hheld, List.filterMap_map, hj]]
  simp [heldOf, hheld, List.filterMap_map]

/-- The SPENTs of a slot are owed in the order in which it owes them (R157). -/
theorem owedItems_spent (hspent : ∀ j b, φ (.spent j b) = if j = k then some b else none)
    (hothers : ∀ i, i.place.1 ≠ 4 → φ i = none) : s.owedItems.filterMap φ = x.owedSpent := by
  rw [owedItems_eq, itemsOwed]
  simp only [List.filterMap_append, List.append_nil, List.nil_append, joinOf_filterMap_nil hothers (by decide),
    cutover_filterMap_nil hothers (by decide), perIndex_filterMap_nil hothers place_of_mem_heldOf (by decide),
    perIndex_filterMap_nil hothers place_of_mem_claimOf (by decide),
    perIndex_filterMap_nil hothers place_of_mem_holdsOf (by decide),
    perIndex_filterMap_nil hothers place_of_mem_bagnextOf (by decide)]
  rw [perIndex_filterMap spentOf φ hx fun j y hj => by simp [spentOf, hspent, List.filterMap_map, hj]]
  simp [spentOf, hspent, List.filterMap_map]

end

/-- The frame of each item (R128, R155). -/
theorem itemFrames {s : State} {cfg : Setup} (hsetup : s.setup = some cfg) (b : FrameBody) :
    s.buildFrame b = { station := s.hall.station, group := cfg.group, body := b } := by
  rw [State.buildFrame, hsetup]
  rfl

/-- Two slots alike but for what they owe. -/
theorem eq_of_unowed {x y : Slot} (h : y.unowed = x.unowed) :
    y = { x with claim := y.claim, owedHeld := y.owedHeld, owedSpent := y.owedSpent, holdsOwed := y.holdsOwed } :=
  congrArg (fun z : Slot =>
    { z with claim := y.claim, owedHeld := y.owedHeld, owedSpent := y.owedSpent, holdsOwed := y.holdsOwed }) h

/-- A CLAIM that enters is for the block that was claimed (R114). -/
theorem block?_of_claimEntered {c d : Claim} (h : ClaimEntered c d) : d.block? = c.block? := by
  rcases h with rfl | ⟨b, rfl, rfl⟩ <;> rfl

/-- Settles O53: what is owed by `mem_owedItems` and `pairwise_owedItems`, the frames by `itemFrames`, the place of a frame by
`insertFrame_place`, and the offering by `offered_owedItems`. -/
theorem owedItemsEnterTheQueue : Obligations.OwedItemsEnterTheQueue := by
  refine ⟨fun s => ⟨?_, ?_, ?_, ?_, ?_, ?_, ?_, ?_, ?_⟩, fun s cfg hsetup => ⟨?_, ?_, ?_, ?_⟩, insertFrame_place,
    fun s hsends => ?_⟩
  · simp [mem_owedItems]
  · simp [mem_owedItems]
  · simp [mem_owedItems]
  · simp [mem_owedItems]
  · simp [mem_owedItems]
  · simp [mem_owedItems]
  · simp [mem_owedItems]
  · intro k x hx
    refine ⟨owedItems_held hx (fun _ _ => rfl) fun i hi => ?_, owedItems_spent hx (fun _ _ => rfl) fun i hi => ?_⟩
    · cases i with
      | held => exact absurd rfl hi
      | claim | join | holds | spent | cutover | bagnext => rfl
    · cases i with
      | spent => exact absurd rfl hi
      | claim | join | holds | held | cutover | bagnext => rfl
  · exact List.pairwise_map.mpr ((pairwise_owedItems s).imp fun {i j} h => by cases i <;> cases j <;> exact h)
  · refine (itemFrames hsetup _).trans ?_
    rw [State.itemBody, hsetup]
    rfl
  · exact fun v => itemFrames hsetup _
  · exact fun r b => itemFrames hsetup _
  · intro k x hx
    have hletter : s.letterOf k = x.letter := by rw [State.letterOf, hx]; rfl
    refine ⟨fun b => ⟨?_, ?_, ?_⟩, ?_⟩ <;> refine (itemFrames hsetup _).trans ?_ <;> rw [State.itemBody, hletter]
    rw [hx]
    rfl
  · obtain ⟨entered, hoffered, hstopped⟩ := offered_owedItems s.owedItems (s := s) rfl
    have hkept := hoffered.kept
    have hexec : exec .owedItemEntry s = .next (s.owedItems.foldl State.offerItem s) := by
      show Host.Outcome.next s.offerOwed = _
      rw [State.offerOwed, if_pos hsends]
    have hparts : ∀ {t : State}, t = { s with hall := t.hall, tariff := t.tariff, bags := t.bags, alloc := t.alloc } →
        t.weighing = s.weighing ∧ t.gauge = s.gauge ∧ t.quotes = s.quotes ∧ t.link = s.link ∧ t.setup = s.setup := by
      intro t ht
      rw [ht]
      exact ⟨rfl, rfl, rfl, rfl, rfl⟩
    refine ⟨_, entered, hexec, hoffered.items, hoffered.queue, fun i hi => normal_of_refused (hstopped i hi),
      hoffered.claims, hkept.queue, hoffered.room, hkept.hall, hkept.tariff, hkept.late, hkept.rows, ?_, ?_, ?_,
      hkept.length, fun k x y hx hy => ?_, hparts hkept.parts⟩
    · rw [hkept.alloc]
    · rw [hkept.alloc]
    · rw [hkept.alloc]
    · obtain ⟨y', hy', hunowed⟩ := hkept.slot hx
      obtain rfl : y' = y := Option.some.inj (hy'.symm.trans hy)
      exact ⟨eq_of_unowed hunowed, block?_of_claimEntered (hkept.claims k x y' hx hy)⟩

end Sys2Proof.Machine
end

section
/-! COMMITs that are turned back (R99, R100), and the re-evaluation of a supply state (R111): what the model's operations
leave at the end of the event is what the statements' `State.turnedBack` and `State.resupplied` say. -/

namespace Sys2Proof.Machine

/-! ### A COMMITTING quote is OPEN again -/

/-- The quote has left the pending order and is OPEN with age 0 (R99, R100). -/
def State.reopened (n : Nat) (s : State) : State :=
  { s with
    quotes := { s.quotes with
      records := s.quotes.records.map fun q => if q.number = n then { q with state := .opened, ageMs := 0 } else q
      pendingOrder := s.quotes.pendingOrder.erase n } }

/-- No COMMITTING quote has this number. -/
def State.NotCommitting (n : Nat) (s : State) : Prop := ∀ q, s.quote? n = some q → q.state = .opened

/-- A number is of a COMMITTING quote or not. -/
theorem committing_or (n : Nat) (s : State) :
    s.NotCommitting n ∨ ∃ q ref, s.quote? n = some q ∧ q.state = .committing ref := by
  cases hq : s.quote? n with
  | none => exact .inl fun _ h => by rw [hq] at h; cases h
  | some q =>
    cases hstate : q.state with
    | opened => exact .inl fun p h => by rw [hq] at h; cases h; exact hstate
    | committing ref => exact .inr ⟨q, ref, rfl, hstate⟩

section

variable (reason : Reason) {n : Nat} {s : State}

/-- No COMMIT to turn back: nothing happens. -/
theorem reopen_notCommitting (h : s.NotCommitting n) : s.reopen reason n = s := by
  unfold State.reopen
  split
  · rfl
  · rename_i q hq
    rw [h q hq]

/-- The statements' word for it. -/
theorem turnedBack_notCommitting (h : s.NotCommitting n) : s.turnedBack reason [n] = s := by
  simp only [State.turnedBack, List.foldl_cons, List.foldl_nil]
  split
  · rfl
  · rename_i q hq
    rw [h q hq]

variable {q : Quote} {ref : RequestRef} (hq : s.quote? n = some q) (hstate : q.state = .committing ref)
include hq hstate

/-- A COMMIT is turned back: its quote is OPEN again, and it is refused (R99, R100). -/
theorem reopen_committing : s.reopen reason n = (s.reopened n).refuse ref reason := by
  simp only [State.reopen, hq, hstate]
  rfl

/-- The statements' word for it. -/
theorem turnedBack_committing : s.turnedBack reason [n] = (s.reopened n).replied ref (.refused reason none) := by
  simp only [State.turnedBack, List.foldl_cons, List.foldl_nil, hq, hstate]
  rfl

end

/-! ### The event of another's request -/

/-- The event is quiet, and every COMMIT still to be answered was taken before its own request (R94, R177, R179). -/
structure State.Turning (own : Nat) (s : State) : Prop where
  quiet : s.Quiet own
  earlier : ∀ q ∈ s.quotes.records, ∀ ref, q.state = .committing ref → ref.id < own

namespace State.Turning

variable {own : Nat} {s : State}

theorem notify (h : s.Turning own) (n : Notice) : (s.notify n).Turning own := ⟨h.quiet.notify n, h.earlier⟩

/-- Nothing of the quotes and of what the event has produced has changed. -/
theorem congr {t : State} (h : s.Turning own) (hscratch : t.scratch = s.scratch) (hquotes : t.quotes = s.quotes) :
    t.Turning own :=
  ⟨h.quiet.congr hscratch, hquotes ▸ h.earlier⟩

/-- A quote that becomes OPEN leaves no other COMMIT to be answered. -/
theorem reopened (h : s.Turning own) (n : Nat) : (s.reopened n).Turning own := by
  refine ⟨h.quiet.congr rfl, fun q hq ref hstate => ?_⟩
  obtain ⟨p, hp, rfl⟩ := List.mem_map.mp hq
  by_cases hn : p.number = n
  · rw [if_pos hn] at hstate
    cases hstate
  · rw [if_neg hn] at hstate
    exact h.earlier p hp ref hstate

/-- The COMMIT of a quote is turned back (R99, R100). -/
theorem reopen (h : s.Turning own) (reason : Reason) (n : Nat) :
    (s.reopen reason n).Turning own ∧ (s.reopen reason n).flush own = (s.flush own).turnedBack reason [n] := by
  rcases committing_or n s with hnone | ⟨q, ref, hq, hstate⟩
  · rw [reopen_notCommitting reason hnone, turnedBack_notCommitting reason (s := s.flush own) hnone]
    exact ⟨h, rfl⟩
  · have hearlier : ref.id < own := h.earlier q (quote?_spec hq).1 ref hstate
    have hreopened := h.reopened n
    rw [reopen_committing reason hq hstate, turnedBack_committing reason (s := s.flush own) hq hstate]
    exact ⟨⟨hreopened.quiet.reply hearlier _, hreopened.earlier⟩, hreopened.quiet.flush_reply hearlier _⟩

/-- The COMMITs of several quotes are turned back in turn (R99, R100). -/
theorem foldl_reopen (h : s.Turning own) (reason : Reason) (ns : List Nat) :
    (ns.foldl (State.reopen reason) s).Turning own
      ∧ (ns.foldl (State.reopen reason) s).flush own = (s.flush own).turnedBack reason ns := by
  induction ns generalizing s with
  | nil => exact ⟨h, rfl⟩
  | cons n ns ih =>
    obtain ⟨hturning, hflush⟩ := h.reopen reason n
    obtain ⟨hturning', hflush'⟩ := ih hturning
    exact ⟨hturning', by rw [List.foldl_cons, hflush', hflush, ← turnedBack_cons]⟩

end State.Turning

/-! ### The re-evaluation of a supply state -/

section

variable {k : Nat} {x : Slot} {s : State} (hx : s.alloc.slots[k]? = some x)
include hx

/-- A slot becomes EXHAUSTED (R99, R111). -/
theorem reviewSupply_exhausted (h : x.supplyOf = .exhausted ∧ x.supply ≠ .exhausted) :
    s.reviewSupply k =
      ((s.modifySlot k fun y => { y with supply := x.supplyOf }).notify (.exhausted x.letter)).refuseNoNumbers x.letter := by
  have hlast : ¬ (x.supplyOf = .last ∧ x.supply ≠ .last) := fun hlast => by
    rw [h.1] at hlast
    cases hlast.1
  simp only [State.reviewSupply, hx]
  rw [if_neg hlast, if_pos h]

/-- A slot becomes LAST (R111). -/
theorem reviewSupply_last {c : CurrentBlock} (hcurrent : x.current = some c) (h : x.supplyOf = .last ∧ x.supply ≠ .last) :
    s.reviewSupply k =
      (s.modifySlot k fun y => { y with supply := x.supplyOf }).notify (.lowNumbers x.letter c.block c.left) := by
  simp only [State.reviewSupply, hx, hcurrent]
  rw [if_pos h]

/-- A slot becomes neither (R111). -/
theorem reviewSupply_quiet (hexhausted : ¬ (x.supplyOf = .exhausted ∧ x.supply ≠ .exhausted))
    (hlast : x.current = none ∨ ¬ (x.supplyOf = .last ∧ x.supply ≠ .last)) :
    s.reviewSupply k = s.modifySlot k fun y => { y with supply := x.supplyOf } := by
  simp only [State.reviewSupply, hx]
  rw [if_neg hexhausted]
  rcases hlast with hcurrent | hlast
  · rw [hcurrent]
    exact ite_self _
  · rw [if_neg hlast]

/-- The statements' word for a slot that becomes EXHAUSTED. -/
theorem resupplied_exhausted (h : x.supplyOf = .exhausted ∧ x.supply ≠ .exhausted) :
    s.resupplied k =
      ((s.modifySlot k fun y => { y with supply := x.supplyOf }).noticed (.exhausted x.letter)).turnedBack .noNumbers
        (s.pendingOf x.letter) := by
  simp only [State.resupplied, hx, ← supplyOf_table]
  rw [if_pos h]

/-- The statements' word for a slot that becomes LAST. -/
theorem resupplied_last {c : CurrentBlock} (hcurrent : x.current = some c) (h : x.supplyOf = .last ∧ x.supply ≠ .last) :
    s.resupplied k =
      (s.modifySlot k fun y => { y with supply := x.supplyOf }).noticed (.lowNumbers x.letter c.block c.left) := by
  have hexhausted : ¬ (x.supplyOf = .exhausted ∧ x.supply ≠ .exhausted) := fun hex => by
    rw [h.1] at hex
    cases hex.1
  simp only [State.resupplied, hx, ← supplyOf_table]
  rw [if_neg hexhausted, hcurrent]
  exact if_pos h

/-- The statements' word for a slot that becomes neither. -/
theorem resupplied_quiet (hexhausted : ¬ (x.supplyOf = .exhausted ∧ x.supply ≠ .exhausted))
    (hlast : x.current = none ∨ ¬ (x.supplyOf = .last ∧ x.supply ≠ .last)) :
    s.resupplied k = s.modifySlot k fun y => { y with supply := x.supplyOf } := by
  simp only [State.resupplied, hx, ← supplyOf_table]
  rw [if_neg hexhausted]
  cases hcurrent : x.current with
  | none => rfl
  | some c => exact if_neg (hlast.resolve_left fun h => by rw [hcurrent] at h; cases h)

end

/-- A re-evaluation at the end of the event (R99, R111). -/
theorem State.Turning.reviewSupply {own : Nat} {s : State} (h : s.Turning own) (k : Nat) :
    (s.reviewSupply k).Turning own ∧ (s.reviewSupply k).flush own = (s.flush own).resupplied k := by
  have hslots : (s.flush own).alloc.slots = s.alloc.slots := rfl
  cases hx : s.alloc.slots[k]? with
  | none =>
    have hnone : s.reviewSupply k = s ∧ (s.flush own).resupplied k = s.flush own := by
      simp only [State.reviewSupply, State.resupplied, hslots, hx, and_self]
    rw [hnone.1, hnone.2]
    exact ⟨h, rfl⟩
  | some x =>
    have hx' : (s.flush own).alloc.slots[k]? = some x := hx
    have hslot : (s.modifySlot k fun y => { y with supply := x.supplyOf }).Turning own := h.congr rfl rfl
    by_cases hexhausted : x.supplyOf = .exhausted ∧ x.supply ≠ .exhausted
    · obtain ⟨hturning, hflush⟩ := (hslot.notify (.exhausted x.letter)).foldl_reopen .noNumbers (s.pendingOf x.letter)
      rw [reviewSupply_exhausted hx hexhausted, resupplied_exhausted hx' hexhausted]
      exact ⟨hturning, hflush.trans (by rw [hslot.quiet.flush_notify]; rfl)⟩
    · by_cases hlast : x.current = none ∨ ¬ (x.supplyOf = .last ∧ x.supply ≠ .last)
      · rw [reviewSupply_quiet hx hexhausted hlast, resupplied_quiet hx' hexhausted hlast]
        exact ⟨hslot, rfl⟩
      · obtain ⟨hcurrent, hlast⟩ := not_or.mp hlast
        obtain ⟨c, hcurrent⟩ := Option.ne_none_iff_exists'.mp hcurrent
        rw [reviewSupply_last hx hcurrent (not_not.mp hlast), resupplied_last hx' hcurrent (not_not.mp hlast)]
        exact ⟨hslot.notify _, hslot.quiet.flush_notify _⟩

end Sys2Proof.Machine
end

section
/-! The duplicate station (R100, R133, R168, R169): a good frame with this station's own number mutes it. -/

namespace Sys2Proof.Machine

/-! ### What turning COMMITs back and re-evaluating supply states leave -/

/-- A slot but for its supply state. -/
def Slot.unsupplied (x : Slot) : Slot := { x with supply := .off }

/-- Only COMMITs have been turned back, supply states re-evaluated and messages produced; nothing has become due. -/
structure TurnedOnly (s t : State) : Prop where
  parts : t = { s with
    alloc := { s.alloc with slots := t.alloc.slots }, quotes := t.quotes, link := t.link, scratch := t.scratch }
  slots : t.alloc.slots.map Slot.unsupplied = s.alloc.slots.map Slot.unsupplied
  numbers : t.quotes.records.map Quote.number = s.quotes.records.map Quote.number
  outstanding : t.link.outstanding = s.link.outstanding
  due : t.scratch.offerDue = s.scratch.offerDue ∧ t.scratch.serveDue = s.scratch.serveDue

namespace TurnedOnly

theorem refl (s : State) : TurnedOnly s s := ⟨rfl, rfl, rfl, rfl, rfl, rfl⟩

variable {s t u : State}

theorem trans (h : TurnedOnly s t) (h' : TurnedOnly t u) : TurnedOnly s u where
  parts := by rw [h'.parts, h.parts]
  slots := h'.slots.trans h.slots
  numbers := h'.numbers.trans h.numbers
  outstanding := h'.outstanding.trans h.outstanding
  due := ⟨h'.due.1.trans h.due.1, h'.due.2.trans h.due.2⟩

theorem notify (h : TurnedOnly s t) (n : Notice) : TurnedOnly s (t.notify n) := h.trans ⟨rfl, rfl, rfl, rfl, rfl, rfl⟩

theorem resupply (h : TurnedOnly s t) (k : Nat) (v : Supply) :
    TurnedOnly s (t.modifySlot k fun y => { y with supply := v }) :=
  h.trans ⟨rfl, map_modify_same (g := Slot.unsupplied) (f := fun y => { y with supply := v }) (fun _ => rfl) _ k,
    rfl, rfl, rfl, rfl⟩

theorem reopened_numbers (n : Nat) (s : State) :
    (s.reopened n).quotes.records.map Quote.number = s.quotes.records.map Quote.number := by
  show List.map _ (s.quotes.records.map _) = _
  rw [List.map_map]
  refine List.map_congr_left fun q _ => ?_
  rw [Function.comp_apply, apply_ite Quote.number, ite_self]

theorem reopen (h : TurnedOnly s t) (reason : Reason) (n : Nat) : TurnedOnly s (t.reopen reason n) := by
  rcases committing_or n t with hnone | ⟨q, ref, hq, hstate⟩
  · rwa [reopen_notCommitting reason hnone]
  · rw [reopen_committing reason hq hstate]
    exact h.trans ⟨rfl, rfl, reopened_numbers n t, rfl, rfl, rfl⟩

theorem foldl {α : Type} {step : State → α → State} (hstep : ∀ {u : State} (a : α), TurnedOnly s u → TurnedOnly s (step u a))
    (h : TurnedOnly s t) (l : List α) : TurnedOnly s (l.foldl step t) := by
  induction l generalizing t with
  | nil => exact h
  | cons a l ih => exact ih (hstep a h)

theorem reviewSupply (h : TurnedOnly s t) (k : Nat) : TurnedOnly s (t.reviewSupply k) := by
  unfold State.reviewSupply
  split
  · exact h
  · have hslot := h.resupply k
    dsimp only
    split_ifs
    · split
      · exact hslot _
      · exact (hslot _).notify _
    · exact ((hslot _).notify _).foldl (fun _ hu => hu.reopen _ _) _
    · exact hslot _

end TurnedOnly

/-! ### The pending order is emptied -/

/-- The oldest quote of the pending order is OPEN again (R100). -/
theorem reopen_pendingOrder {s : State} (h : s.quotes.Sound) {n : Nat} {ns : List Nat}
    (hpending : s.quotes.pendingOrder = n :: ns)
    (reason : Reason) : (s.reopen reason n).quotes.pendingOrder = ns := by
  obtain ⟨p, hp, hnumber, hstate⟩ := (h.pending n).mp (hpending ▸ List.mem_cons_self)
  have hcommitting : ¬ s.NotCommitting n := fun hnone => by
    cases hq : s.quote? n with
    | none => exact List.find?_eq_none.mp hq p hp (beq_iff_eq.mpr hnumber)
    | some q =>
      obtain ⟨hmem, hsame⟩ := quote?_spec hq
      exact hstate (h.eq_of_number hp hmem (hnumber.trans hsame.symm) ▸ hnone q hq)
  obtain ⟨q, ref, hq, hstate⟩ := (committing_or n s).resolve_left hcommitting
  rw [reopen_committing reason hq hstate]
  show s.quotes.pendingOrder.erase n = ns
  rw [hpending, List.erase_cons_head]

/-- Muting leaves no quote COMMITTING (R100). -/
theorem refuseMuted_opened {s : State} (h : s.quotes.Sound) :
    s.refuseMuted.quotes.pendingOrder = [] ∧ ∀ q ∈ s.refuseMuted.quotes.records, q.state = .opened := by
  have hempty : ∀ (ns : List Nat) {u : State}, u.quotes.Sound → u.quotes.pendingOrder = ns →
      (ns.foldl (State.reopen .muted) u).quotes.pendingOrder = [] := by
    intro ns
    induction ns with
    | nil => exact fun _ hpending => hpending
    | cons n ns ih =>
      intro u hu hpending
      exact ih (((QuotesKept.refl u).reopen .muted n).table hu) (reopen_pendingOrder hu hpending .muted)
  have hsound : s.refuseMuted.quotes.Sound := (QuotesKept.refl s).refuseMuted.table h
  have hpending : s.refuseMuted.quotes.pendingOrder = [] := hempty _ h rfl
  refine ⟨hpending, fun q hq => of_not_not fun hstate => ?_⟩
  have hmem := (hsound.pending q.number).mpr ⟨q, hq, rfl, hstate⟩
  rw [hpending] at hmem
  cases hmem

/-! ### The slots whose claim ends with no block and no free mark -/

/-- Muting ends the slot's claim, and it has no block and no free mark left (R111, R133). -/
def Slot.ended (x : Slot) : Bool :=
  x.enabled && x.current.isNone && decide (x.marks.count false = 0)
    && (match x.claim with
      | .owed _ | .queued _ => true
      | .none | .holdoff _ _ => false)

/-- The supply state of a slot after muting: such a slot is EXHAUSTED, and was WAITING; any other keeps its state (R111). -/
theorem supplyOf_muted (x : Slot) :
    (x.ended = true → x.muted.supplyOf = .exhausted ∧ x.supplyOf = .waiting)
      ∧ (x.ended = false → x.muted.supplyOf = x.supplyOf) := by
  have hmuted : x.muted.supplyOf =
      if x.enabled = false then .off
      else if x.current.isSome then (if x.marks.count false = 0 then .last else .stocked)
      else if x.muted.claim = .none ∧ x.marks.count false = 0 then .exhausted else .waiting := supplyOf_table x.muted
  rw [hmuted, supplyOf_table x]
  unfold Slot.ended Slot.muted
  cases x.enabled <;> cases x.current <;> cases x.claim <;> simp

/-- A slot has become EXHAUSTED, with its notice and its refusals (R99, R111). -/
def State.exhaust (s : State) (x : Slot) : State :=
  (s.noticed (.exhausted x.letter)).turnedBack .noNumbers (s.pendingOf x.letter)

/-- What is turned back at the counter link and the quote table depends on them alone. -/
theorem turnedBack_same (reason : Reason) (ns : List Nat) {u v : State} (hlink : u.link = v.link)
    (hquotes : u.quotes = v.quotes) :
    (u.turnedBack reason ns).link = (v.turnedBack reason ns).link
      ∧ (u.turnedBack reason ns).quotes = (v.turnedBack reason ns).quotes := by
  induction ns generalizing u v with
  | nil => exact ⟨hlink, hquotes⟩
  | cons n ns ih =>
    have hquote : u.quote? n = v.quote? n := by rw [State.quote?, State.quote?, hquotes]
    rw [turnedBack_cons, turnedBack_cons reason n ns v]
    rcases committing_or n v with hnone | ⟨q, ref, hq, hstate⟩
    · have hnone' : u.NotCommitting n := fun q hq => hnone q (hquote ▸ hq)
      rw [turnedBack_notCommitting reason hnone, turnedBack_notCommitting reason hnone']
      exact ih hlink hquotes
    · rw [turnedBack_committing reason hq hstate, turnedBack_committing reason (hquote.trans hq) hstate]
      refine ih ?_ ?_
      · exact congrArg (fun l : Link => l.accept (.reply (some ref.id) ref.tag (.refused reason none))) hlink
      · show (u.reopened n).quotes = (v.reopened n).quotes
        rw [State.reopened, State.reopened, hquotes]

/-- What a notice leaves at the counter link depends on the link alone. -/
theorem noticed_same (n : Notice) {u v : State} (hlink : u.link = v.link) : (u.noticed n).link = (v.noticed n).link := by
  rw [State.noticed, State.noticed, State.onLink, State.onLink, hlink]

/-- The pending quotes of a product depend on the quote table alone. -/
theorem pendingOf_same (letter : Nat) {u v : State} (hquotes : u.quotes = v.quotes) :
    u.pendingOf letter = v.pendingOf letter := by
  have hquote : u.quote? = v.quote? := funext fun n => by rw [State.quote?, State.quote?, hquotes]
  rw [State.pendingOf, State.pendingOf, hquotes, hquote]

/-- A slot that muting has not ended becomes neither LAST nor EXHAUSTED (R111). -/
theorem muted_supply_kept {x : Slot} (hcurrent : x.supply = x.supplyOf) (hended : x.ended = false) (v : Supply) :
    ¬ (x.muted.supplyOf = v ∧ x.muted.supply ≠ v) := fun h =>
  h.2 (hcurrent.trans (((supplyOf_muted x).2 hended).symm.trans h.1))

/-- The re-evaluation of one muted slot (R99, R111): against the state `v` with the same link and quote table, it exhausts the
slot when its claim has ended so, and does nothing there otherwise. -/
theorem resupplied_muted {k : Nat} {x : Slot} {u v : State} (hslot : u.alloc.slots[k]? = some x.muted)
    (hcurrent : x.supply = x.supplyOf) (hlink : u.link = v.link) (hquotes : u.quotes = v.quotes) :
    (u.resupplied k).link = (if x.ended then v.exhaust x else v).link
      ∧ (u.resupplied k).quotes = (if x.ended then v.exhaust x else v).quotes
      ∧ ∀ j, k < j → (u.resupplied k).alloc.slots[j]? = u.alloc.slots[j]? := by
  have hothers : ∀ (f : Slot → Slot) (j : Nat), k < j → (u.modifySlot k f).alloc.slots[j]? = u.alloc.slots[j]? :=
    fun f j hj => by rw [slots_modifySlot, if_neg (Nat.ne_of_lt hj)]
  cases hended : x.ended with
  | true =>
    obtain ⟨hexhausted, hwaiting⟩ := (supplyOf_muted x).1 hended
    have hsupply : x.muted.supply ≠ .exhausted := fun h => by
      have hsame : x.supply = .exhausted := h
      rw [hcurrent, hwaiting] at hsame
      cases hsame
    have hpending := pendingOf_same x.letter hquotes
    rw [resupplied_exhausted hslot ⟨hexhausted, hsupply⟩]
    have hsame := turnedBack_same .noNumbers (v.pendingOf x.letter) (v := v.noticed (.exhausted x.letter))
      (u := (u.modifySlot k fun y => { y with supply := x.muted.supplyOf }).noticed (.exhausted x.letter))
      (noticed_same _ hlink) hquotes
    rw [← hpending] at hsame
    refine ⟨hsame.1.trans (by rw [hpending]; rfl), hsame.2.trans (by rw [hpending]; rfl), fun j hj => ?_⟩
    rw [turnedBack_frame]
    exact hothers _ j hj
  | false =>
    rw [resupplied_quiet hslot (muted_supply_kept hcurrent hended _) (.inr (muted_supply_kept hcurrent hended _))]
    exact ⟨hlink, hquotes, hothers _⟩

/-- The re-evaluation of the muted slots exhausts, in ascending order, those whose claim has ended so (R99, R111). -/
theorem resupplied_foldl_muted {s u : State} (hcurrent : SuppliesCurrent s) (hlink : u.link = s.link)
    (hquotes : u.quotes = s.quotes) (hslots : u.alloc.slots = s.alloc.slots.map Slot.muted) (n : Nat) :
    ((List.range n).foldl (fun t k => t.resupplied k) u).link =
        (((s.alloc.slots.take n).filter Slot.ended).foldl State.exhaust s).link
      ∧ ((List.range n).foldl (fun t k => t.resupplied k) u).quotes =
        (((s.alloc.slots.take n).filter Slot.ended).foldl State.exhaust s).quotes
      ∧ ∀ j, n ≤ j → ((List.range n).foldl (fun t k => t.resupplied k) u).alloc.slots[j]? =
        (s.alloc.slots[j]?).map Slot.muted := by
  induction n with
  | zero => exact ⟨hlink, hquotes, fun j _ => by rw [List.range_zero, List.foldl_nil, hslots, List.getElem?_map]⟩
  | succ n ih =>
    obtain ⟨hlink', hquotes', hslots'⟩ := ih
    rw [List.range_succ, List.foldl_concat, List.take_add_one, List.filter_append, List.foldl_append]
    cases hx : s.alloc.slots[n]? with
    | none =>
      have hnone := hslots' n (Nat.le_refl n)
      rw [hx] at hnone
      have hsame : ∀ w : State, w.alloc.slots[n]? = none → w.resupplied n = w := fun w hw => by
        simp only [State.resupplied, hw]
      rw [hsame _ hnone]
      exact ⟨hlink', hquotes', fun j hj => hslots' j (Nat.le_of_succ_le hj)⟩
    | some x =>
      have hslot := hslots' n (Nat.le_refl n)
      rw [hx] at hslot
      obtain ⟨hl, hq, hlater⟩ := resupplied_muted hslot (hcurrent x (List.mem_of_getElem? hx)) hlink' hquotes'
      have hstep : ∀ v : State, ((some x).toList.filter Slot.ended).foldl State.exhaust v =
          if x.ended then v.exhaust x else v := fun v => by
          rw [Option.toList_some, List.filter_singleton]
          cases x.ended <;> rfl
      rw [hstep]
      exact ⟨hl, hq, fun j hj => (hlater j hj).trans (hslots' j (Nat.le_of_succ_le hj))⟩

end Sys2Proof.Machine
end

section
/-! The duplicate station, settled: the hearing of its frame, what it leaves of the part, and what it tells (R168, R169). -/

namespace Sys2Proof.Machine

/-- A HEARD command is the hearing of its frame (R165). -/
theorem exec_heardFrame {i : Instr} {f : Frame} (h : heardFrame? i = some f) (s : State) :
    ∃ order, exec i s = .next (hearFrame f order s) := by
  cases i <;> cases h <;> exact ⟨_, rfl⟩

/-- Before the supply states are re-evaluated: MUTED, with the queue, the owed items and the unsent claims
gone (R133, R146, R169). -/
def State.silenced (s : State) : State :=
  { s with
    hall := { s.hall with state := .muted, census := none, queue := [], attempt := none, owedJoin := false, silence := 0 }
    tariff := { s.tariff with owedCutover := none }
    bags := { s.bags with rows := s.bags.rows.map fun r => { r with owed := none } }
    alloc := { s.alloc with slots := s.alloc.slots.map Slot.muted } }

/-- After the supply states of the first `n` slots have been re-evaluated (R111, R169). -/
def State.reviewed (n : Nat) (s : State) : State :=
  ((List.range n).foldl (fun t k => t.reviewSupply k) s.silenced).onHall fun h => { h with failures := 0, lineFault := false }

/-- After the MUTED notice and the refusals (R100, R169). -/
def State.mutedBy (n sender : Nat) (kind : Option FrameKind) (s : State) : State :=
  ((s.reviewed n).notify (.muted s.hall.station sender kind)).refuseMuted

/-- Re-evaluation turns back COMMITs, and no more (R99, R111). -/
theorem turnedOnly_foldl_reviewSupply (ks : List Nat) (s : State) :
    TurnedOnly s (ks.foldl (fun t k => t.reviewSupply k) s) :=
  (TurnedOnly.refl s).foldl (fun k hu => hu.reviewSupply k) ks

theorem turnedOnly_reviewed (n : Nat) (s : State) :
    TurnedOnly (s.silenced.onHall fun h => { h with failures := 0, lineFault := false }) (s.reviewed n) := by
  have hreviewed := turnedOnly_foldl_reviewSupply (List.range n) s.silenced
  refine ⟨?_, hreviewed.slots, hreviewed.numbers, hreviewed.outstanding, hreviewed.due⟩
  unfold State.reviewed
  rw [hreviewed.parts]
  rfl

/-- The entry into MUTED re-evaluates every slot (R169). -/
theorem enterMuted_eq (sender : Nat) (kind : Option FrameKind) (s : State) :
    s.enterMuted sender kind = s.mutedBy Config.slots sender kind := by
  have hstation : ∀ n, (s.reviewed n).hall.station = s.hall.station := fun n => by
    rw [(turnedOnly_reviewed n s).parts]
    rfl
  rw [State.mutedBy, ← hstation Config.slots]
  rfl

/-- Re-evaluations at the end of the event (R99, R111). -/
theorem State.Turning.foldl_reviewSupply {own : Nat} {s : State} (h : s.Turning own) (ks : List Nat) :
    (ks.foldl (fun t k => t.reviewSupply k) s).Turning own
      ∧ (ks.foldl (fun t k => t.reviewSupply k) s).flush own = ks.foldl (fun t k => t.resupplied k) (s.flush own) := by
  induction ks generalizing s with
  | nil => exact ⟨h, rfl⟩
  | cons k ks ih =>
    obtain ⟨hturning, hflush⟩ := h.reviewSupply k
    obtain ⟨hturning', hflush'⟩ := ih hturning
    exact ⟨hturning', by rw [List.foldl_cons, hflush', hflush, List.foldl_cons]⟩

/-- What the muting of the part leaves of it, whatever it tells (R133, R146, R169). -/
theorem turnedOnly_mutedBy (n sender : Nat) (kind : Option FrameKind) (s : State) :
    TurnedOnly (s.silenced.onHall fun h => { h with failures := 0, lineFault := false }) (s.mutedBy n sender kind) :=
  ((turnedOnly_reviewed n s).notify _).foldl (fun m hu => hu.reopen .muted m) _

/-- What the muting of the part tells, from a state `v` with the same counter link, quotes and slots (R99, R100, R111, R169). -/
theorem told_mutedBy {own : Nat} {s v gone : State} (hscratch : s.scratch = .clear) (hearlier : s.Turning own)
    (hcurrent : SuppliesCurrent v) (hsame : s.link = v.link ∧ s.quotes = v.quotes ∧ s.alloc = v.alloc)
    (n sender : Nat) (kind : Option FrameKind)
    (hgone : gone = ((v.alloc.slots.take n).filter Slot.ended).foldl State.exhaust v) :
    ((s.mutedBy n sender kind).flush own).link =
        ((gone.noticed (.muted s.hall.station sender kind)).turnedBack .muted gone.quotes.pendingOrder).link
      ∧ ((s.mutedBy n sender kind).flush own).quotes =
        ((gone.noticed (.muted s.hall.station sender kind)).turnedBack .muted gone.quotes.pendingOrder).quotes := by
  obtain ⟨hsameLink, hsameQuotes, hsameAlloc⟩ := hsame
  have hmutedSlots : s.silenced.alloc.slots = v.alloc.slots.map Slot.muted := by rw [← hsameAlloc]; rfl
  have hsilenced : s.silenced.Turning own := hearlier.congr rfl rfl
  obtain ⟨hturning, hflush⟩ := hsilenced.foldl_reviewSupply (List.range n)
  rw [flush_clear own s.silenced hscratch] at hflush
  obtain ⟨hlink, hquotes, -⟩ := resupplied_foldl_muted (u := s.silenced) hcurrent hsameLink hsameQuotes hmutedSlots n
  rw [← hgone] at hlink hquotes
  have hreviewed : (s.reviewed n).Turning own := hturning.congr rfl rfl
  have hreviewedLink : ((s.reviewed n).flush own).link = gone.link := (congrArg State.link hflush).trans hlink
  have hreviewedQuotes : (s.reviewed n).quotes = gone.quotes := (congrArg State.quotes hflush).trans hquotes
  obtain ⟨-, hrefused⟩ := (hreviewed.notify (.muted s.hall.station sender kind)).foldl_reopen .muted
    (s.reviewed n).quotes.pendingOrder
  have hend : (s.mutedBy n sender kind).flush own =
      (((s.reviewed n).flush own).noticed (.muted s.hall.station sender kind)).turnedBack .muted
        gone.quotes.pendingOrder := by
    rw [← hreviewedQuotes, ← hreviewed.quiet.flush_notify]
    exact hrefused
  rw [hend]
  exact turnedBack_same .muted _ (noticed_same _ hreviewedLink) hreviewedQuotes

/-- Muting leaves no quote COMMITTING (R100). -/
theorem mutedBy_opened (n sender : Nat) (kind : Option FrameKind) {s : State} (h : s.quotes.Sound) :
    (s.mutedBy n sender kind).quotes.pendingOrder = []
      ∧ ∀ q ∈ (s.mutedBy n sender kind).quotes.records, q.state = .opened := by
  have hreviewed : (s.reviewed n).quotes.Sound :=
    (QuotesKept.foldl (QuotesKept.refl s.silenced) (fun _ k hu => hu.reviewSupply k) (List.range n)).table h
  exact refuseMuted_opened (s := (s.reviewed n).notify _) hreviewed

/-- A muted slot, whatever its supply state (R133). -/
theorem muted_slot {x y : Slot} (h : y.unsupplied = x.muted.unsupplied) :
    y.owedHeld = [] ∧ y.owedSpent = [] ∧ y.holdsOwed = false ∧ y.marks = x.marks ∧ y.current = x.current
      ∧ y.reserve = x.reserve ∧ y.cursor = x.cursor ∧ y.claim = x.muted.claim :=
  ⟨(congrArg Slot.owedHeld h :), (congrArg Slot.owedSpent h :), (congrArg Slot.holdsOwed h :), (congrArg Slot.marks h :),
    (congrArg Slot.current h :), (congrArg Slot.reserve h :), (congrArg Slot.cursor h :), (congrArg Slot.claim h :)⟩

/-- The frame of a duplicate station is heard (R168). -/
theorem hear_duplicate {f : Frame} {s : State} (hstate : s.hall.state = .joining ∨ s.hall.state = .joined)
    (hgroup : s.setup.map (·.group) = some f.group) (hstation : f.station = s.hall.station) :
    (s.acknowledge true).hear f = (s.acknowledge true).enterMuted f.station (some f.body.kind) := by
  have hunstarted : ¬ (s.acknowledge true).hall.state = .starting := fun h : s.hall.state = .starting => by
    rcases hstate with hstate | hstate <;> rw [hstate] at h <;> cases h
  have hunmuted : ¬ (s.acknowledge true).hall.state = .muted := fun h : s.hall.state = .muted => by
    rcases hstate with hstate | hstate <;> rw [hstate] at h <;> cases h
  have hsame : ¬ ((s.acknowledge true).setup.map (·.group)) ≠ some f.group := not_not_intro hgroup
  have hown : f.station = (s.acknowledge true).hall.station := hstation
  rw [State.hear, if_neg hunstarted, if_neg hsame, if_pos hown, if_neg hunmuted]

/-- What remains of the part after a duplicate detection: the statement's frame, of the state `m` before
its messages leave (R169). -/
theorem duplicate_frame {s m : State} (hstate : s.hall.state ≠ .muted) (own : Nat)
    (hkept : TurnedOnly ((s.acknowledge true).silenced.onHall fun h => { h with failures := 0, lineFault := false }) m) :
    let t := m.flush own
    t.hall = { s.hall with
        state := .muted, census := none, queue := [], attempt := none, owedJoin := false, silence := 0, failures := 0
        lineFault := false, ackDriven := true }
      ∧ t.tariff = { s.tariff with owedCutover := none }
      ∧ t.bags = { s.bags with rows := s.bags.rows.map fun r => { r with owed := none } }
      ∧ t.quotes.records.map Quote.number = s.quotes.records.map Quote.number
      ∧ (∀ (k : Nat) (x : Slot), s.alloc.slots[k]? = some x → ∃ y, t.alloc.slots[k]? = some y
          ∧ y.unsupplied = x.muted.unsupplied)
      ∧ t.alloc.column = s.alloc.column ∧ t.alloc.log = s.alloc.log
      ∧ t.weighing = s.weighing ∧ t.gauge = s.gauge ∧ t.setup = s.setup
      ∧ t.link.outstanding = s.link.outstanding := by
  have hdriven : (true && decide (s.hall.state ≠ .muted)) = true := by rw [decide_eq_true hstate, Bool.and_self]
  have houtstanding : (m.flush own).link.outstanding = s.link.outstanding :=
    (foldl_accept_outstanding _ _).1.trans hkept.outstanding
  have hparts : m.flush own = { (s.acknowledge true).silenced.onHall fun h => { h with failures := 0, lineFault := false } with
      alloc := { s.alloc with slots := m.alloc.slots }, quotes := m.quotes, link := (m.flush own).link
      scratch := .clear } := by
    rw [State.flush, hkept.parts]
    rfl
  refine ⟨?_, (congrArg State.tariff hparts :), (congrArg State.bags hparts :), hkept.numbers, fun k x hx => ?_,
    (congrArg (·.alloc.column) hparts :), (congrArg (·.alloc.log) hparts :), (congrArg State.weighing hparts :),
    (congrArg State.gauge hparts :), (congrArg State.setup hparts :), houtstanding⟩
  · refine (congrArg State.hall hparts).trans ?_
    exact congrArg (fun driven => { s.hall with
      state := .muted, census := none, queue := [], attempt := none, owedJoin := false, silence := 0, failures := 0
      lineFault := false, ackDriven := driven }) hdriven
  · have hslot := congrArg (fun l : List Slot => l[k]?) hkept.slots
    have hx' : ((s.alloc.slots.map Slot.muted).map Slot.unsupplied)[k]? = some x.muted.unsupplied := by
      rw [List.getElem?_map, List.getElem?_map, hx]
      rfl
    rw [List.getElem?_map] at hslot
    exact Option.map_eq_some_iff.mp (hslot.trans hx')

/-- Settles O49: the frame mutes the station (`hear_duplicate`); what that leaves of the part is `duplicate_frame` and
`mutedBy_opened`, what it tells `told_mutedBy`. -/
theorem duplicateStationIsMuted : Obligations.DuplicateStationIsMuted := by
  intro i f s hframe hclear hsound hstate hgroup hstation ended gone told
  obtain ⟨order, hexec⟩ := exec_heardFrame hframe s
  obtain ⟨n, hn⟩ : ∃ n, n = Config.slots := ⟨_, rfl⟩
  have hunmuted : s.hall.state ≠ .muted := by rcases hstate with h | h <;> rw [h] <;> decide
  have hkept := turnedOnly_mutedBy n f.station (some f.body.kind) (s.acknowledge true)
  have hfinish : hearFrame f order s =
      ((s.acknowledge true).mutedBy n f.station (some f.body.kind)).flush s.link.nextId := by
    rw [hearFrame, hear_duplicate hstate hgroup hstation, enterMuted_eq, ← hn]
    exact finish_quiet _ _ _ (hkept.due.1.trans (congrArg Scratch.offerDue hclear))
      (hkept.due.2.trans (congrArg Scratch.serveDue hclear))
  obtain ⟨hroom, hdistinct, hlow, hhigh, hfresh, honce, hpending, -⟩ := hsound
  obtain ⟨hempty, hopened⟩ := mutedBy_opened n f.station (some f.body.kind) (s := s.acknowledge true)
    ⟨hroom, hdistinct, ⟨hlow, hhigh⟩, hfresh, honce, hpending⟩
  obtain ⟨hhall, htariff, hbags, hnumbers, hslots, hcolumn, hlog, hweighing, hgauge, hsetup, houtstanding⟩ :=
    duplicate_frame hunmuted s.link.nextId hkept
  refine ⟨_, by rw [hexec, hfinish], fun hearlier hcurrent => ?_, hhall, htariff, hbags, hempty, hopened, hnumbers,
    fun k x _ hx => ?_, hcolumn, hlog, hweighing, hgauge, hsetup, houtstanding⟩
  · obtain ⟨-, hearlier⟩ := hearlier
    have hgone : gone = ((s.alloc.slots.take n).filter Slot.ended).foldl State.exhaust s := by
      rw [hn]
      rfl
    exact told_mutedBy (s := s.acknowledge true) hclear ⟨State.quiet_of_clear hclear, hearlier⟩ hcurrent ⟨rfl, rfl, rfl⟩ n
      f.station (some f.body.kind) hgone
  · obtain ⟨y, hy, hmuted⟩ := hslots k x hx
    obtain ⟨hheld, hspent, hholds, hmarks, hcur, hreserve, hcursor, hclaim⟩ := muted_slot hmuted
    refine ⟨y, hy, hheld, hspent, hholds, hmarks, hcur, hreserve, hcursor, hclaim.trans ?_⟩
    unfold Slot.muted
    cases x.claim <;> rfl

end Sys2Proof.Machine
end

section
/-! The rating unit's arithmetic: the band price, the remote line and the rounding of the total (R76, R78, R80). -/

namespace Sys2Proof.Machine

/-- The band price: P0 up to the included weight or without a step weight, and then P1 for every step begun (R76). -/
theorem bandPrice_eq (x : BandRecord) (low wc : Nat) :
    bandPrice x low wc =
      if x.sw = 0 ∨ wc ≤ low + x.i then x.p0 else x.p0 + ((wc - low - x.i + x.sw - 1) / x.sw) * x.p1 := by
  unfold bandPrice
  dsimp only
  split
  · rw [Nat.zero_mul, Nat.add_zero]
  · rfl

/-- A rounded total is a multiple of the rounding unit (R80). -/
theorem nearestMultiple_mod (n unit : Nat) : nearestMultiple n unit % unit = 0 := Nat.mul_mod_left _ _

/-- It is a nearest one, and the upper of two (R80). -/
theorem nearestMultiple_nearest (n : Nat) {unit : Nat} (hunit : 0 < unit) :
    2 * ((nearestMultiple n unit : Int) - n) ≤ unit ∧ -(unit : Int) < 2 * ((nearestMultiple n unit : Int) - n) := by
  obtain ⟨hle, hlt⟩ := mul_roundedQuotient_bounds n unit hunit
  rw [Nat.mul_comm unit] at hle hlt
  unfold nearestMultiple
  omega

/-- Settles O32, by the model's three formulas. -/
theorem priceArithmetic : Obligations.PriceArithmetic :=
  ⟨bandPrice_eq, fun _ _ => rfl, fun n _ hunit => ⟨nearestMultiple_mod n _, nearestMultiple_nearest n hunit⟩⟩

end Sys2Proof.Machine
end

section
/-! The link's field checks: of a RATE, of a number, a route, a letter or a section, and of START (R65, R181, R182). -/

namespace Sys2Proof.Machine

/-! ### The requests after START (R65, R181) -/

/-- The field checks of a RATE (R65). -/
theorem rateFieldsGood_iff (body : RateBody) :
    rateFieldsGood body = true ↔
      body.destination ≤ 999999 ∧ body.declaredValue ≤ 9999999 ∧ body.flags ≤ 3
        ∧ (body.flags.testBit 0 = true → 1 ≤ body.manualWeight ∧ body.manualWeight ≤ 40000)
        ∧ (body.flags.testBit 1 = true → ∀ x ∈ [body.len1, body.len2, body.len3], 1 ≤ x ∧ x ≤ 2000) := by
  simp only [rateFieldsGood, manualWeightFlag, manualDimsFlag, Bool.and_eq_true, Bool.or_eq_true, Bool.not_eq_true',
    List.all_eq_true, decide_eq_true_eq, and_assoc, ← Bool.not_eq_true, ← imp_iff_not_or]
  exact Iff.rfl

/-- A number outside its range fails its check. -/
theorem within_eq_false {lo hi n : Nat} (h : n < lo ∨ hi < n) : within lo hi n = false :=
  decide_eq_false (by omega)

/-- A STATUS with a section that does not exist is refused (R183). -/
theorem takeStatus_outside {sect : Nat} (h : sect = 0 ∨ 9 < sect) (r : RequestRef) (s : State) :
    s.takeStatus r sect = s.refuse r .badRequest := by
  have hnone : s.report sect = none := by
    rw [Option.eq_none_iff_forall_ne_some]
    intro report hreport
    have := (report_isSome_iff sect s).mp ⟨report, hreport⟩
    omega
  simp only [State.takeStatus, hnone]

/-! ### START (R182) -/

/-- A number lies in a range. -/
theorem within_iff {lo hi n : Nat} : within lo hi n = true ↔ lo ≤ n ∧ n ≤ hi := decide_eq_true_iff

/-- A field that may be absent lies in its range when it is absent or does, given that the default does. -/
theorem within_orDefault_iff {lo hi absent default_ n : Nat} (h : lo ≤ default_ ∧ default_ ≤ hi) :
    within lo hi (orDefault absent default_ n) = true ↔ n = absent ∨ (lo ≤ n ∧ n ≤ hi) := by
  rw [within_iff, orDefault]
  split <;> simp_all

/-- The enabled channels are the bits of the cell enable byte (R195). -/
theorem forall_startChannels_iff (b : StartBody) (P : Nat → Prop) :
    (∀ k ∈ startChannels b, P (k - 1)) ↔ ∀ k, k < 4 → b.cellEnable.testBit k = true → P k := by
  simp only [startChannels, List.mem_filter]
  constructor
  · intro h k hk hbit
    exact h (k + 1) ⟨by simp; omega, hbit⟩
  · rintro h k ⟨hk, hbit⟩
    exact h (k - 1) (by simp at hk; omega) hbit

/-- The check of a product record (9.4, R182). -/
theorem productGood_iff (p : ProductRecord) :
    productGood p = true ↔
      p.enabled ≤ 1 ∧ (1 ≤ p.letter ∧ p.letter ≤ 26) ∧ p.first ≤ 9999
        ∧ (1 ≤ p.count ∧ p.count ≤ 1024) ∧ p.first + p.count - 1 ≤ 9999 ∧ p.volumetric ≤ 1
        ∧ (1 ≤ p.maxWeight ∧ p.maxWeight ≤ 40000) ∧ (1 ≤ p.longSide ∧ p.longSide ≤ 10000)
        ∧ (1 ≤ p.girth ∧ p.girth ≤ 10000) ∧ (1 ≤ p.absLength ∧ p.absLength ≤ 10000)
        ∧ (1 ≤ p.absGirth ∧ p.absGirth ≤ 10000) ∧ p.maxValue ≤ 9999999 := by
  unfold productGood Config.maxBlock
  simp only [Bool.and_eq_true, within_iff, decide_eq_true_eq]
  omega

/-- The station, rating, number, bag and quote fields of START (9.4, R182). -/
theorem startStationGood_iff (b : StartBody) :
    startStationGood b = true ↔
      b.office ≤ 9999 ∧ b.group ≤ 15 ∧ (1000 ≤ b.divisor ∧ b.divisor ≤ 10000)
        ∧ (b.ru = 1 ∨ b.ru = 5 ∨ b.ru = 10) ∧ (b.lowWater ≤ 999 ∨ b.lowWater = 65535) ∧ b.strict ≤ 1
        ∧ (1000 ≤ b.weightLimit ∧ b.weightLimit ≤ 30000) ∧ (1 ≤ b.itemLimit ∧ b.itemLimit ≤ 250)
        ∧ (b.quoteLife = 0 ∨ (60 ≤ b.quoteLife ∧ b.quoteLife ≤ 1800)) := by
  have hlow : within 0 999 (orDefault 65535 100 b.lowWater) = true ↔ _ := within_orDefault_iff (by decide)
  have hlife : within 60 1800 (orDefault 0 300 b.quoteLife) = true ↔ _ := within_orDefault_iff (by decide)
  simp only [startStationGood, Bool.and_eq_true, within_iff, decide_eq_true_eq, hlow, hlife, List.mem_cons,
    List.not_mem_nil, or_false]
  omega

/-- The scale fields of START, zeros and factors for the enabled channels alone (9.4, R182). -/
theorem startScaleGood_iff (b : StartBody) :
    startScaleGood b = true ↔
      (b.settleCount = 0 ∨ (2 ≤ b.settleCount ∧ b.settleCount ≤ 8)) ∧ b.settleBand ≤ 4
        ∧ (1 ≤ b.cellEnable ∧ b.cellEnable ≤ 15) ∧ (1000 ≤ b.nominal ∧ b.nominal ≤ 32000)
        ∧ ∀ k, k < 4 → b.cellEnable.testBit k = true →
          (1 ≤ b.factors.getD k 0 ∧ b.factors.getD k 0 ≤ 65535)
            ∧ (-32768 ≤ b.zeros.getD k 0 ∧ b.zeros.getD k 0 ≤ 32767) := by
  have hband : within 1 4 (orDefault 0 1 b.settleBand) = true ↔ b.settleBand ≤ 4 := by
    rw [within_orDefault_iff (by decide)]
    omega
  simp only [startScaleGood, Bool.and_eq_true, within_orDefault_iff (show 2 ≤ 4 ∧ 4 ≤ 8 by decide), hband, within_iff,
    List.all_eq_true, decide_eq_true_eq, and_assoc]
  rw [← forall_startChannels_iff b fun k => 1 ≤ b.factors.getD k 0 ∧ b.factors.getD k 0 ≤ 65535
    ∧ (-32768 ≤ b.zeros.getD k 0 ∧ b.zeros.getD k 0 ≤ 32767)]

/-- The whole check of START: each block's fields, each product record, and no letter twice (R182). -/
theorem startGood_iff (b : StartBody) :
    startGood b = true ↔
      startStationGood b = true ∧ startScaleGood b = true ∧ (∀ p ∈ b.products, productGood p = true)
        ∧ (b.products.map (·.letter)).Nodup := by
  simp only [startGood, Bool.and_eq_true, List.all_eq_true, decide_eq_true_eq, and_assoc]

/-- START refused in its own state of the part (R182). -/
theorem exec_start_refused {tag : Nat} {body : StartBody} {s : State} (hclear : s.scratch = .clear)
    (hsetup : s.setup = none) (hroom : s.link.full 1 = false) (hbad : startGood body = false) :
    exec (.start tag body) s = .next (s.answered tag 1 (.refused .badRequest none)) := by
  have hunstarted : ¬ s.started = true := by simp [State.started, hsetup]
  have howner : (s.taken tag 1).handEarly (s.nextRef tag) (.start body) =
      (s.taken tag 1).reply (s.nextRef tag) (.refused .badRequest none) :=
    if_neg (by rw [hbad]; exact Bool.false_ne_true)
  rw [exec_request rfl, takeWhole_taken tag (.start body) s hroom, if_neg hunstarted]
  exact congrArg _ ((congrArg _ howner).trans (finish_reply_taken tag 1 _ _ _ s hclear))

/-- Two product records with one letter fail START (R182). -/
theorem startGood_sameLetter {b : StartBody} {i j : Nat} {p q : ProductRecord} (hij : i < j) (hp : b.products[i]? = some p)
    (hq : b.products[j]? = some q) (hletter : p.letter = q.letter) : startGood b = false := by
  rw [← Bool.not_eq_true, startGood_iff]
  rintro ⟨-, -, -, hnodup⟩
  obtain ⟨hj, -⟩ := List.getElem?_eq_some_iff.mp hq
  refine List.nodup_iff_getElem?_ne_getElem?.mp hnodup i j hij (by rwa [List.length_map]) ?_
  simp only [List.getElem?_map, hp, hq, Option.map_some, hletter]

/-- Settles O11: the checks after START are the branches of `State.handRequest`, the check of START is `startGood_iff` with the
checks of its parts. -/
theorem linkFieldChecks : Obligations.LinkFieldChecks := by
  refine ⟨fun tag n s hclear hstarted => ?_, fun tag body s hclear hsetup hroom => ?_⟩
  · have hrefused (i : Instr) {kind : Nat} {request : Request} (hi : i.request? = some (tag, request) ∧ request.kind = kind)
        (hroom : s.link.full kind = false) {reason : Reason} :=
      exec_refused i hi ⟨hclear, hstarted, hroom⟩ (reason := reason)
    have houtside {m : Nat} (hm : m = 0 ∨ 65535 < m) : ¬ within 1 Config.max16 m = true := by
      rw [within_iff]
      unfold Config.max16
      omega
    refine ⟨fun body hroom hfield => hrefused (.rate tag body) ⟨rfl, rfl⟩ hroom (if_neg fun hgood => ?_),
      fun hroom hn => hrefused (.commit tag n) ⟨rfl, rfl⟩ hroom (if_neg (houtside hn)),
      fun hroom hn => hrefused (.cancel tag n) ⟨rfl, rfl⟩ hroom (if_neg (houtside hn)),
      fun hroom hn => hrefused (.bagClose tag n) ⟨rfl, rfl⟩ hroom (if_neg (Nat.not_lt.mpr hn)),
      fun startBlock span hroom hn => hrefused (.mapLoad tag n startBlock span) ⟨rfl, rfl⟩ hroom (if_neg fun hletter => ?_),
      fun hroom hn => hrefused (.status tag n) ⟨rfl, rfl⟩ hroom (takeStatus_outside hn _ _),
      fun body hroom => hrefused (.start tag body) ⟨rfl, rfl⟩ hroom rfl⟩
    · obtain ⟨hdestination, hvalue, hflags, hweight, hlengths⟩ := (rateFieldsGood_iff body).mp hgood
      rcases hfield with h | h | h | ⟨hbit, h⟩ | ⟨hbit, x, hx, h⟩
      · omega
      · omega
      · omega
      · have := hweight hbit
        omega
      · have := hlengths hbit x hx
        omega
    · have := within_iff.mp hletter
      omega
  · refine ⟨exec_start_refused hclear hsetup hroom, fun hcells => ?_, fun hfield => ?_, fun p hp hfield => ?_,
      fun i j p q hij hp hq => startGood_sameLetter hij hp hq, ?_⟩
    · rw [← Bool.not_eq_true, startGood_iff, startScaleGood_iff]
      rintro ⟨-, ⟨-, -, hgood, -⟩, -⟩
      omega
    · rw [← Bool.not_eq_true, startGood_iff, startStationGood_iff, startScaleGood_iff]
      rintro ⟨⟨hoffice, hgroup, hdivisor, hru, -, -, hweight, hitems, -⟩, ⟨-, -, -, hnominal, -⟩, -⟩
      omega
    · rw [← Bool.not_eq_true, startGood_iff]
      rintro ⟨-, -, hproducts, -⟩
      have := (productGood_iff p).mp (hproducts p hp)
      omega
    · rw [startGood_iff, startStationGood_iff, startScaleGood_iff]
      simp only [productGood_iff, and_assoc]

end Sys2Proof.Machine
end

section
/-! What a computation reads (R66), and the dimensions it makes of it (4.5). -/

namespace Sys2Proof.Machine

/-! ### Sorted dimensions (4.5) -/

section

variable (x y z : Nat) (source : DimSource) (edge irregular long : Bool)

/-- The sorted dimensions are the three lengths in one of their six orders, descending. -/
theorem sortDims_order :
    let d := sortDims x y z source edge irregular long
    (d.b ≤ d.a ∧ d.c ≤ d.b)
      ∧ ((d.a = x ∧ d.b = y ∧ d.c = z) ∨ (d.a = x ∧ d.b = z ∧ d.c = y) ∨ (d.a = y ∧ d.b = x ∧ d.c = z)
        ∨ (d.a = y ∧ d.b = z ∧ d.c = x) ∨ (d.a = z ∧ d.b = x ∧ d.c = y) ∨ (d.a = z ∧ d.b = y ∧ d.c = x)) := by
  dsimp only [sortDims]
  omega

/-- Sorting neither adds nor loses a length. -/
theorem sortDims_perm :
    let d := sortDims x y z source edge irregular long
    [d.a, d.b, d.c].Perm [x, y, z] := by
  obtain ⟨-, horder⟩ := sortDims_order x y z source edge irregular long
  refine List.perm_iff_count.mpr fun n => ?_
  rcases horder with ⟨ha, hb, hc⟩ | ⟨ha, hb, hc⟩ | ⟨ha, hb, hc⟩ | ⟨ha, hb, hc⟩ | ⟨ha, hb, hc⟩ | ⟨ha, hb, hc⟩ <;>
    simp only [ha, hb, hc, List.count_cons, List.count_nil] <;> omega

/-- The volume is that of the three lengths, in whatever order they come. -/
theorem sortDims_volume :
    let d := sortDims x y z source edge irregular long
    d.a * d.b * d.c = x * y * z := by
  have hprod := (sortDims_perm x y z source edge irregular long).prod_eq
  simpa only [List.prod_cons, List.prod_nil, Nat.mul_one, Nat.mul_assoc] using hprod

/-- The girth measure, by the longest side and the sum of the three (4.5). -/
theorem sortDims_girth :
    let d := sortDims x y z source edge irregular long
    d.girth = d.a + 2 * (x + y + z - d.a) := by
  dsimp only [sortDims, Dims.girth]
  omega

end

/-! ### What is read of the RATE and of the parcel record (R66) -/

/-- The parcel record that a RATE is computed from: none with manual weight. -/
def parcelRead (parcel : Option Parcel) (body : RateBody) : Option Parcel := if body.flags.testBit 0 then none else parcel

/-- The actual weight. -/
def weightRead (parcel : Option Parcel) (body : RateBody) : Nat :=
  if body.flags.testBit 0 then body.manualWeight else ((parcelRead parcel body).map (·.weight)).getD 0

/-- The measurement record that the dimensions come from: none with manual dimensions. -/
def measurementRead (parcel : Option Parcel) (body : RateBody) : Option Measurement :=
  if body.flags.testBit 1 then none else (parcelRead parcel body).bind (·.dims)

/-- The three lengths, unsorted. -/
def sidesRead (parcel : Option Parcel) (body : RateBody) : Option (Nat × Nat × Nat) :=
  if body.flags.testBit 1 then some (body.len1, body.len2, body.len3)
  else (measurementRead parcel body).map fun g => (g.length, g.width, g.height)

/-- The dimensions, sorted, with their source and flags. -/
def dimsRead (parcel : Option Parcel) (body : RateBody) : Option Dims :=
  if body.flags.testBit 1 then some (sortDims body.len1 body.len2 body.len3 .manual false false false)
  else (measurementRead parcel body).map Measurement.dims

/-- What a computation reads, given manual weight or a parcel record. -/
theorem rateInputs_eq {parcel : Option Parcel} {body : RateBody} (h : body.flags.testBit 0 = true ∨ parcel ≠ none) :
    rateInputs parcel body =
      some ((parcelRead parcel body).map (·.settleNumber), weightRead parcel body, dimsRead parcel body) := by
  unfold rateInputs weightRead dimsRead measurementRead parcelRead manualWeightFlag manualDimsFlag
  by_cases hweight : body.flags.testBit 0 = true
  · by_cases hdims : body.flags.testBit 1 = true <;> simp [hweight, hdims]
  · obtain ⟨q, rfl⟩ := Option.ne_none_iff_exists'.mp (h.resolve_left hweight)
    by_cases hdims : body.flags.testBit 1 = true <;> simp [hweight, hdims]

/-- Without either there is nothing to read. -/
theorem rateInputs_none {body : RateBody} (h : ¬ body.flags.testBit 0 = true) : rateInputs none body = none :=
  if_neg h

/-- The three ways in which a computation comes by its dimensions, if by any: from the RATE or from a measurement record. -/
inductive DimsFrom : Option (Nat × Nat × Nat) → Option Measurement → Option Dims → Prop where
  | absent : DimsFrom none none none
  | manual (x y z : Nat) : DimsFrom (some (x, y, z)) none (some (sortDims x y z .manual false false false))
  | gauge (g : Measurement) : DimsFrom (some (g.length, g.width, g.height)) (some g) (some g.dims)

/-- What is read comes in one of the three ways. -/
theorem dimsFrom_read (parcel : Option Parcel) (body : RateBody) :
    DimsFrom (sidesRead parcel body) (measurementRead parcel body) (dimsRead parcel body) := by
  unfold sidesRead dimsRead
  by_cases hdims : body.flags.testBit 1 = true
  · rw [if_pos hdims, if_pos hdims, measurementRead, if_pos hdims]
    exact .manual _ _ _
  · rw [if_neg hdims, if_neg hdims]
    cases measurementRead parcel body with
    | none => exact .absent
    | some g => exact .gauge g

/-! ### The stages that look at the dimensions (R71 to R73, R77) -/

/-- The longest side is beyond one limit, or the girth measure beyond another. -/
def beyond (sides : Option (Nat × Nat × Nat)) (side girth : Nat) : Bool :=
  sides.any fun x =>
    let a := max x.1 (max x.2.1 x.2.2)
    decide (side < a) || decide (girth < a + 2 * (x.1 + x.2.1 + x.2.2 - a))

/-- The test of three lengths is that of the sorted dimensions. -/
theorem beyond_sortDims (x y z : Nat) (source : DimSource) (edge irregular long : Bool) (side girth : Nat) :
    let d := sortDims x y z source edge irregular long
    decide (d.a > side ∨ d.girth > girth) = beyond (some (x, y, z)) side girth := by
  intro d
  have hgirth : d.girth = d.a + 2 * (x + y + z - d.a) := sortDims_girth x y z source edge irregular long
  rw [hgirth]
  exact Bool.decide_or _ _

/-- The volumetric weight of a product that has one, 0 without dimensions (R73). -/
def volumeWeight (sides : Option (Nat × Nat × Nat)) (divisor : Nat) : Nat :=
  (sides.map fun x => (x.1 * x.2.1 * x.2.2 + divisor - 1) / divisor).getD 0

section

variable {sides : Option (Nat × Nat × Nat)} {measured : Option Measurement} {dims : Option Dims}
  (h : DimsFrom sides measured dims) (p : Product)
include h

/-- Stage 5, the refusal (R72). -/
theorem DimsFrom.oversizeRefusal_eq : oversizeRefusal p dims = beyond sides p.absLength p.absGirth := by
  cases h with
  | absent => rfl
  | manual x y z => exact beyond_sortDims x y z _ _ _ _ _ _
  | gauge g => exact beyond_sortDims g.length g.width g.height _ _ _ _ _ _

/-- Stage 5, the finding (R72). -/
theorem DimsFrom.largeFinding_eq : largeFinding p dims = beyond sides p.longSide p.girth := by
  cases h with
  | absent => rfl
  | manual x y z => exact beyond_sortDims x y z _ _ _ _ _ _
  | gauge g => exact beyond_sortDims g.length g.width g.height _ _ _ _ _ _

/-- Stage 4 (R71). -/
theorem DimsFrom.dimsRefusal_eq :
    dimsRefusal p dims =
      if p.volumetric = true ∧ sides = none then some .noDims
      else if p.volumetric = true ∧ measured.any (·.edge) = true then some .dimsUnsure
      else none := by
  unfold dimsRefusal
  cases h with
  | absent => cases p.volumetric <;> rfl
  | manual x y z => cases p.volumetric <;> simp [sortDims]
  | gauge g => cases p.volumetric <;> simp [Measurement.dims, sortDims]

/-- Stage 6 (R73). -/
theorem DimsFrom.volumetricWeight_eq (divisor : Nat) :
    (volumetricWeight p divisor dims).getD 0 = if p.volumetric then volumeWeight sides divisor else 0 := by
  unfold volumetricWeight volumeWeight
  cases p.volumetric with
  | false => rfl
  | true =>
    cases h with
    | absent => rfl
    | manual x y z => simp only [sortDims_volume]; rfl
    | gauge g => simp only [Measurement.dims, sortDims_volume]; rfl

/-- The gauge's IRREGULAR finding (R77). -/
theorem DimsFrom.irregularFinding_eq : irregularFinding dims = measured.any (·.irregular) := by
  cases h with
  | absent => rfl
  | manual x y z => rfl
  | gauge g => rfl

end

end Sys2Proof.Machine
end

section
/-! The stages of a computation one after another (R67 to R81), and the result that it hands over. -/

namespace Sys2Proof.Machine

/-! ### Insurance, total and result (R76 to R81) -/

/-- Stage 11 (R79). -/
theorem insuranceLine_eq (p : Product) (z : ZoneAnswer) (surcharge : Option Surcharge) (v : Nat) :
    insuranceLine p z surcharge v =
      if p.maxValue < v ∧ 0 < v then .error .valueLimit
      else if 0 < v ∧ (z.noInsurance = true ∨ surcharge = none) then .error .noInsurance
      else .ok (if v = 0 then 0 else
        (surcharge.map fun x => (v + x.insuranceUnit - 1) / x.insuranceUnit * x.insurancePrice).getD 0) := by
  unfold insuranceLine
  by_cases hv : v = 0
  · simp [hv]
  · have hpos : 0 < v := Nat.pos_of_ne_zero hv
    by_cases hmax : p.maxValue < v
    · simp [hv, hmax, hpos]
    · cases hno : z.noInsurance <;> cases surcharge <;> simp [hv, hmax, hpos, ceilDiv]

/-- What an insurance line says of a declared value (R79). -/
theorem insuranceLine_ok {p : Product} {z : ZoneAnswer} {surcharge : Option Surcharge} {v insurance : Nat}
    (h : insuranceLine p z surcharge v = .ok insurance) :
    (v = 0 → insurance = 0)
      ∧ (0 < v → v ≤ p.maxValue ∧ z.noInsurance = false ∧ ∃ x, surcharge = some x
          ∧ insurance = (v + x.insuranceUnit - 1) / x.insuranceUnit * x.insurancePrice) := by
  rw [insuranceLine_eq] at h
  split_ifs at h with hmax hno hv <;> cases h
  · exact ⟨fun _ => rfl, fun hpos => absurd hv hpos.ne'⟩
  · refine ⟨fun hzero => absurd hzero hv, fun hpos => ?_⟩
    obtain ⟨hinsured, hsurcharge⟩ := not_or.mp fun hor => hno ⟨hpos, hor⟩
    obtain ⟨x, rfl⟩ := Option.ne_none_iff_exists'.mp hsurcharge
    exact ⟨Nat.not_lt.mp fun hlt => hmax ⟨hlt, hpos⟩, Bool.not_eq_true _ ▸ hinsured, x, rfl, rfl⟩

/-- The remote line, without a surcharge record 0 (R78). -/
theorem remoteLine_getD (price : Nat) (surcharge : Option Surcharge) :
    (surcharge.map fun x => remoteLine price x.remoteRate).getD 0 =
      (price * (surcharge.map (·.remoteRate)).getD 0 + 500) / 1000 := by
  cases surcharge with
  | none => simp
  | some x => rfl

/-- The sum of the five price lines (R80). -/
def subtotalOf (p : Product) (z : ZoneAnswer) (wc : Nat) (dims : Option Dims) (band : BandRecord) (low : Nat)
    (surcharge : Option Surcharge) (insurance : Nat) : Nat :=
  bandPrice band low wc + (if largeFinding p dims then (surcharge.map (·.oversize)).getD 0 else 0)
    + (if irregularFinding dims then (surcharge.map (·.irregular)).getD 0 else 0)
    + (if z.remote then (surcharge.map fun x => remoteLine (bandPrice band low wc) x.remoteRate).getD 0 else 0) + insurance

section

variable {cfg : Setup} {p : Product} {id : BankId} {version : Nat} {body : RateBody} {z : ZoneAnswer}
  {settleNumber : Option Nat} {wa wc : Nat} {wv : Option Nat} {dims : Option Dims} {band : BandRecord} {low : Nat}
  {surcharge : Option Surcharge}

/-- A refusal of stage 11 is that of the computation (R79). -/
theorem priceResult_uninsured {reason : Reason} (h : insuranceLine p z surcharge body.declaredValue = .error reason) :
    priceResult cfg p id version body z settleNumber wa wc wv dims band low surcharge = .error reason := by
  simp only [priceResult, h]

/-- With an insurance line the total decides (R80, R81). -/
theorem priceResult_insured {insurance : Nat} (h : insuranceLine p z surcharge body.declaredValue = .ok insurance) :
    let price := bandPrice band low wc
    let subtotal := subtotalOf p z wc dims band low surcharge insurance
    let total := nearestMultiple subtotal cfg.roundingUnit
    priceResult cfg p id version body z settleNumber wa wc wv dims band low surcharge =
      if 999999 < total then .error .priceLimit
      else .ok
        { letter := body.letter, destination := body.destination, zone := z.zone, route := z.route, bank := id
          version := version, settleNumber := settleNumber, wa := wa, wc := wc, wv := wv, dims := dims
          declared := if body.declaredValue = 0 then none else some body.declaredValue
          price :=
          { band := price
            oversize := if largeFinding p dims then (surcharge.map (·.oversize)).getD 0 else 0
            irregular := if irregularFinding dims then (surcharge.map (·.irregular)).getD 0 else 0
            remote := if z.remote then (surcharge.map fun x => remoteLine price x.remoteRate).getD 0 else 0
            insurance := insurance, rounding := (total : Int) - subtotal, total := total }
          flags :=
          { manualWeight := body.flags.testBit 0, manualDims := body.flags.testBit 1, byVolume := decide (wv.getD 0 > wa)
            large := largeFinding p dims, irregular := irregularFinding dims, remote := z.remote
            insured := decide (body.declaredValue > 0) } } := by
  simp only [priceResult, h]
  rfl

end

/-! ### Zone, cell, dimensions, weight and band (R67 to R75) -/

section

variable {cfg : Setup} {p : Product} {slot : Nat} {id : BankId} {bank : Bank} {body : RateBody} {settleNumber : Option Nat}
  {wa : Nat} {dims : Option Dims}

/-- Stage 2 (R69). -/
theorem rateProduct_unroutable (hzone : bank.lookupZone body.destination = none) :
    rateProduct cfg p slot id bank body settleNumber wa dims = .error .unroutable := by
  simp only [rateProduct, hzone]

/-- Stage 3 (R70). -/
theorem rateProduct_notServed {z : ZoneAnswer} (hzone : bank.lookupZone body.destination = some z)
    (hcell : bank.lookupCell slot z.zone = none) :
    rateProduct cfg p slot id bank body settleNumber wa dims = .error .notServed := by
  simp only [rateProduct, hzone, hcell]

/-- Stages 4 to 8, each with its refusal (R71 to R75). -/
theorem rateProduct_served {z : ZoneAnswer} {cell : TariffCell} (hzone : bank.lookupZone body.destination = some z)
    (hcell : bank.lookupCell slot z.zone = some cell) {sides : Option (Nat × Nat × Nat)} {measured : Option Measurement}
    (hdims : DimsFrom sides measured dims) :
    let wc := max wa (if p.volumetric then volumeWeight sides cfg.divisor else 0)
    rateProduct cfg p slot id bank body settleNumber wa dims =
      if p.volumetric = true ∧ sides = none then .error .noDims
      else if p.volumetric = true ∧ measured.any (·.edge) = true then .error .dimsUnsure
      else if beyond sides p.absLength p.absGirth = true then .error .oversize
      else if p.maxWeight < wc then .error .overweight
      else (bank.lookupBand cell wc).elim (.error .overweight) fun x =>
        priceResult cfg p id bank.version body z settleNumber wa wc (volumetricWeight p cfg.divisor dims) dims x.1 x.2
          (bank.lookupSurcharge slot) := by
  simp only [rateProduct, hzone, hcell, hdims.dimsRefusal_eq, hdims.oversizeRefusal_eq, hdims.volumetricWeight_eq]
  by_cases hnone : p.volumetric = true ∧ sides = none
  · rw [if_pos hnone, if_pos hnone]
  · rw [if_neg hnone, if_neg hnone]
    by_cases hedge : p.volumetric = true ∧ measured.any (·.edge) = true
    · rw [if_pos hedge, if_pos hedge]
    · rw [if_neg hedge, if_neg hedge]
      cases bank.lookupBand cell (max wa (if p.volumetric then volumeWeight sides cfg.divisor else 0)) <;> rfl

/-- The stages that a result has passed (R69 to R75). -/
theorem rateProduct_ok {r : RateResult} (h : rateProduct cfg p slot id bank body settleNumber wa dims = .ok r) :
    let wv := volumetricWeight p cfg.divisor dims
    let wc := max wa (wv.getD 0)
    ∃ z cell band low, bank.lookupZone body.destination = some z ∧ bank.lookupCell slot z.zone = some cell
      ∧ dimsRefusal p dims = none ∧ oversizeRefusal p dims = false ∧ wc ≤ p.maxWeight
      ∧ bank.lookupBand cell wc = some (band, low)
      ∧ priceResult cfg p id bank.version body z settleNumber wa wc wv dims band low (bank.lookupSurcharge slot) = .ok r := by
  intro wv wc
  unfold rateProduct at h
  split at h
  · cases h
  · rename_i z hzone
    split at h
    · cases h
    · rename_i cell hcell
      split at h
      · cases h
      · rename_i hdims
        obtain ⟨_, h⟩ | ⟨hsize, h⟩ := ite_eq_iff.mp h
        · cases h
        · obtain ⟨_, h⟩ | ⟨hweight, h⟩ := ite_eq_iff.mp h
          · cases h
          · split at h
            · cases h
            · rename_i band low hband
              exact ⟨z, cell, band, low, hzone, hcell, hdims, Bool.eq_false_of_not_eq_true hsize, Nat.not_lt.mp hweight,
                hband, h⟩

end

/-! ### The computation as a whole (R67, R68) -/

section

variable {s : State} {cfg : Setup} {body : RateBody} (hsetup : s.setup = some cfg)
include hsetup

section

variable {id : BankId} (hactive : s.activeBank = some id)
  (hread : body.flags.testBit 0 = true ∨ s.weighing.parcel ≠ none)
include hactive hread

/-- Stage 1 passed: the product's stages, on what is read (R66, R68). -/
theorem compute_product {slot : Nat} {p : Product} (hslot : s.productIndex body.letter = some slot)
    (hp : s.products[slot]? = some p) (henabled : p.enabled = true) :
    s.compute body =
      rateProduct cfg p slot id (s.bank id) body ((parcelRead s.weighing.parcel body).map (·.settleNumber))
        (weightRead s.weighing.parcel body) (dimsRead s.weighing.parcel body) := by
  simp only [State.compute, hactive, hsetup, hslot, rateInputs_eq hread, hp, henabled, if_true]

/-- Stage 1 failed (R68). -/
theorem compute_unknownProduct
    (hnone : ∀ slot p, s.productIndex body.letter = some slot → s.products[slot]? = some p → p.enabled = false) :
    s.compute body = .error .unknownProduct := by
  simp only [State.compute, hactive, hsetup, rateInputs_eq hread]
  cases hslot : s.productIndex body.letter with
  | none => rfl
  | some slot =>
    cases hp : s.products[slot]? with
    | none => simp only [hp]
    | some p => simp only [hp, hnone slot p hslot hp, Bool.false_eq_true, if_false]

end

/-- What a result was computed from (R66 to R68). -/
theorem compute_ok {r : RateResult} (h : s.compute body = .ok r) :
    ∃ id slot p, s.activeBank = some id ∧ s.productIndex body.letter = some slot ∧ s.products[slot]? = some p
      ∧ p.enabled = true ∧ (body.flags.testBit 0 = true ∨ s.weighing.parcel ≠ none)
      ∧ rateProduct cfg p slot id (s.bank id) body ((parcelRead s.weighing.parcel body).map (·.settleNumber))
          (weightRead s.weighing.parcel body) (dimsRead s.weighing.parcel body) = .ok r := by
  cases hactive : s.activeBank with
  | none => simp [State.compute, hactive] at h
  | some id =>
    by_cases hread : body.flags.testBit 0 = true ∨ s.weighing.parcel ≠ none
    · by_cases hproduct : ∃ slot p, s.productIndex body.letter = some slot ∧ s.products[slot]? = some p ∧ p.enabled = true
      · obtain ⟨slot, p, hslot, hp, henabled⟩ := hproduct
        exact ⟨id, slot, p, rfl, hslot, hp, henabled, hread,
          (compute_product hsetup hactive hread hslot hp henabled).symm.trans h⟩
      · rw [compute_unknownProduct hsetup hactive hread fun slot p hslot hp =>
          Bool.eq_false_of_not_eq_true fun henabled => hproduct ⟨slot, p, hslot, hp, henabled⟩] at h
        cases h
    · obtain ⟨hmeasured, hparcel⟩ := not_or.mp hread
      simp only [State.compute, hactive, hsetup, not_not.mp hparcel, rateInputs_none hmeasured] at h
      split at h <;> simp_all

end

end Sys2Proof.Machine
end

section
/-! A result of the rating unit, line by line (R66 to R81). -/

namespace Sys2Proof.Machine

/-! ### What the stages say of the dimensions they passed (R71 to R73, R77) -/

section

variable {p : Product} {dims : Option Dims}

/-- Within both absolute limits (R72). -/
theorem within_of_oversizeRefusal (h : oversizeRefusal p dims = false) {d : Dims} (hd : dims = some d) :
    d.a ≤ p.absLength ∧ d.girth ≤ p.absGirth := by
  subst hd
  obtain ⟨ha, hgirth⟩ := not_or.mp (of_decide_eq_false h)
  exact ⟨Nat.not_lt.mp ha, Nat.not_lt.mp hgirth⟩

/-- A volumetric product has dimensions, and the gauge's are not EDGE (R71). -/
theorem trusted_of_dimsRefusal (h : dimsRefusal p dims = none) (hvolumetric : p.volumetric = true) :
    ∃ d, dims = some d ∧ (d.source = .gauge → d.edge = false) := by
  unfold dimsRefusal at h
  rw [if_pos hvolumetric] at h
  cases dims with
  | none => cases h
  | some d =>
    obtain ⟨_, h⟩ | ⟨hunsure, _⟩ := ite_eq_iff.mp h
    · cases h
    · exact ⟨d, rfl, fun hgauge => Bool.eq_false_of_not_eq_true fun hedge => hunsure ⟨hgauge, hedge⟩⟩

/-- A large parcel (R72). -/
theorem largeFinding_iff : largeFinding p dims = true ↔ ∃ d, dims = some d ∧ (p.longSide < d.a ∨ p.girth < d.girth) := by
  cases dims with
  | none => simp [largeFinding]
  | some d => simp [largeFinding]

/-- An irregular parcel (R77). -/
theorem irregularFinding_iff :
    irregularFinding dims = true ↔ ∃ d, dims = some d ∧ d.source = .gauge ∧ d.irregular = true := by
  cases dims with
  | none => simp [irregularFinding]
  | some d => simp [irregularFinding]

/-- The volumetric weight is present with the product's flag (R73). -/
theorem volumetricWeight_isSome (divisor : Nat) : (volumetricWeight p divisor dims).isSome ↔ p.volumetric = true := by
  unfold volumetricWeight
  split <;> simp_all

/-- The volumetric weight of dimensions (R73). -/
theorem volumetricWeight_some (divisor : Nat) (hvolumetric : p.volumetric = true) (d : Dims) :
    volumetricWeight p divisor (some d) = some ((d.a * d.b * d.c + divisor - 1) / divisor) :=
  if_pos hvolumetric

end

/-! ### What was read (R66) -/

/-- Dimensions are sorted (4.5). -/
theorem DimsFrom.sorted {sides : Option (Nat × Nat × Nat)} {measured : Option Measurement} {dims : Option Dims}
    (h : DimsFrom sides measured dims) {d : Dims} (hd : dims = some d) : d.b ≤ d.a ∧ d.c ≤ d.b := by
  cases h with
  | absent => cases hd
  | manual x y z =>
    cases hd
    exact (sortDims_order x y z _ _ _ _).1
  | gauge g =>
    cases hd
    exact (sortDims_order g.length g.width g.height _ _ _ _).1

section

variable {parcel : Option Parcel} {body : RateBody}

/-- Dimensions from the RATE (R66). -/
theorem dimsRead_manual (hdims : body.flags.testBit 1 = true) :
    ∃ d, dimsRead parcel body = some d ∧ [d.a, d.b, d.c].Perm [body.len1, body.len2, body.len3] ∧ d.source = .manual
      ∧ d.edge = false ∧ d.irregular = false ∧ d.long = false :=
  ⟨_, if_pos hdims, sortDims_perm _ _ _ _ _ _ _, rfl, rfl, rfl, rfl⟩

/-- Dimensions from the parcel record, if it has any (R66). -/
theorem dimsRead_measured (hdims : body.flags.testBit 1 = false) (hweight : body.flags.testBit 0 = false) :
    dimsRead parcel body = (parcel.bind (·.dims)).map Measurement.dims := by
  simp [dimsRead, measurementRead, parcelRead, hdims, hweight]

/-- Manual weight alone leaves no dimensions (R66). -/
theorem dimsRead_absent (hdims : body.flags.testBit 1 = false) (hweight : body.flags.testBit 0 = true) :
    dimsRead parcel body = none := by
  simp [dimsRead, measurementRead, parcelRead, hdims, hweight]

end

/-- Settles O33: what the result was computed from is `compute_ok`, the stages it passed are `rateProduct_ok`, and its fields
`priceResult_insured`. -/
theorem quotedResultHoldsTogether : Obligations.QuotedResultHoldsTogether := by
  intro s cfg body r hsetup _ hcompute
  obtain ⟨id, slot, p, hactive, hslot, hp, henabled, hread, hstages⟩ := compute_ok hsetup hcompute
  obtain ⟨z, cell, band, low, hzone, hcell, hdims, hsize, hweight, hband, hresult⟩ := rateProduct_ok hstages
  obtain ⟨insurance, hinsurance⟩ : ∃ insurance, insuranceLine p z ((s.bank id).lookupSurcharge slot) body.declaredValue =
      .ok insurance := by
    cases h : insuranceLine p z ((s.bank id).lookupSurcharge slot) body.declaredValue with
    | error reason =>
      rw [priceResult_uninsured h] at hresult
      cases hresult
    | ok insurance => exact ⟨insurance, rfl⟩
  obtain ⟨hnovalue, hvalue⟩ := insuranceLine_ok hinsurance
  rw [priceResult_insured hinsurance] at hresult
  obtain ⟨_, hresult⟩ | ⟨htotal, hresult⟩ := ite_eq_iff.mp hresult <;> cases hresult
  refine ⟨id, slot, p, z, cell, band, low, hactive, rfl, rfl, hslot, hp, henabled, hzone, rfl, rfl, rfl, rfl, rfl, hweight,
    volumetricWeight_isSome _, fun d => within_of_oversizeRefusal hsize, fun d hd hvolumetric => ?_, fun hvolumetric => ?_,
    Nat.not_lt.mp htotal, nearestMultiple_mod _ _, ⟨rfl, rfl⟩, decide_eq_true_iff, rfl, rfl, rfl,
    fun hzero => ⟨if_pos hzero, hnovalue hzero, decide_eq_false (by omega)⟩, fun hpos => ?_, hcell, hband,
    bandPrice_eq _ _ _, largeFinding_iff, irregularFinding_iff, ⟨rfl, rfl, ?_, fun hpos => (hvalue hpos).2.2⟩,
    fun hmanual => ?_, fun hmeasured => ?_, fun d => (dimsFrom_read _ _).sorted, dimsRead_manual,
    fun hmeasured hmanual => dimsRead_absent hmeasured hmanual, fun hunsized hmeasured => ?_⟩
  · obtain ⟨d', hd', hedge⟩ := trusted_of_dimsRefusal hdims hvolumetric
    cases hd.symm.trans hd'
    exact ⟨hedge, (congrArg _ hd).trans (volumetricWeight_some _ hvolumetric d)⟩
  · obtain ⟨d, hd, -⟩ := trusted_of_dimsRefusal hdims hvolumetric
    exact fun hnone => Option.some_ne_none d (hd.symm.trans hnone)
  · obtain ⟨hmax, hinsured, -⟩ := hvalue hpos
    exact ⟨if_neg (by omega), decide_eq_true hpos, hmax, hinsured⟩
  · exact congrArg (fun line => if z.remote then line else 0) (remoteLine_getD _ _)
  · exact ⟨if_pos hmanual, by simp [parcelRead, hmanual]⟩
  · obtain ⟨q, hq⟩ := Option.ne_none_iff_exists'.mp (hread.resolve_left (by simp [hmeasured]))
    exact ⟨q, hq, by simp [weightRead, parcelRead, hmeasured, hq], by simp [parcelRead, hmeasured, hq]⟩
  · dsimp only
    rw [dimsRead_measured hunsized hmeasured]
    split
    · rename_i hnone
      rw [hnone]
      rfl
    · rename_i g hg
      exact ⟨g.dims, by rw [hg]; rfl, sortDims_perm _ _ _ _ _ _ _, rfl, rfl, rfl, rfl⟩

end Sys2Proof.Machine
end

section
/-! RATE at the quote table (R85, R86, R89), the number of the next quote (R90), and the stages of a computation in their
order (R67 to R82). -/

namespace Sys2Proof.Machine

/-! ### The number of the next quote (R90) -/

/-- The skipping goes on through held numbers alone. -/
theorem skipHeld_iterate (held : List Nat) (fuel n : Nat) :
    ∃ j, skipHeld held fuel n = nextQuoteNumber^[j] n ∧ ∀ i < j, nextQuoteNumber^[i] n ∈ held := by
  induction fuel generalizing n with
  | zero => exact ⟨0, rfl, by simp⟩
  | succ fuel ih =>
    rw [skipHeld]
    split
    · rename_i hn
      obtain ⟨j, hj, hbefore⟩ := ih (nextQuoteNumber n)
      refine ⟨j + 1, hj, fun i hi => ?_⟩
      cases i with
      | zero => exact List.contains_iff_mem.mp hn
      | succ i => exact hbefore i (by omega)
    · exact ⟨0, rfl, by simp⟩

/-- The counter moves on to the first number that no quote holds (R90). -/
theorem advanceCounter_first {held : List Nat} {n : Nat} (hheld : held.length ≤ 4) (hn : 1 ≤ n ∧ n ≤ 65535) :
    ∃ j, 1 ≤ j ∧ advanceCounter held n = nextQuoteNumber^[j] n ∧ nextQuoteNumber^[j] n ∉ held
      ∧ ∀ i, 1 ≤ i → i < j → nextQuoteNumber^[i] n ∈ held := by
  obtain ⟨-, -, hfree⟩ := advanceCounter_spec (held := held) (by omega) hn
  obtain ⟨j, hj, hbefore⟩ := skipHeld_iterate held held.length (nextQuoteNumber n)
  have hlast : advanceCounter held n = nextQuoteNumber^[j + 1] n := hj
  refine ⟨j + 1, by omega, hlast, hlast ▸ hfree, fun i hpos hi => ?_⟩
  obtain ⟨i, rfl⟩ := Nat.exists_eq_add_of_le' hpos
  exact hbefore i (by omega)

/-! ### RATE at the quote table (R85, R86, R89) -/

/-- The scale states that refuse a RATE of the parcel on the scale, with their reasons (R85). -/
def rateRefusals : List (ScaleState × Reason) :=
  [(.noZero, .noZero), (.range, .overload), (.sensor, .sensor), (.empty, .noParcel)]

section

variable {s : State} {body : RateBody} (r : RequestRef)

/-- Without an ACTIVE bank (R85). -/
theorem takeRate_noTariff (hactive : s.activeBank = none) : s.takeRate r body = s.refuse r .noTariff := if_pos hactive

variable (hactive : s.activeBank ≠ none)
include hactive

/-- With manual weight, or while SETTLED, the computation is made at once (R85). -/
theorem takeRate_computed (hnow : body.flags.testBit 0 = true ∨ s.weighing.scale = .settled) :
    s.takeRate r body = s.storeOutcome r (s.compute body) := by
  rw [State.takeRate, if_neg hactive]
  by_cases hmanual : manualWeightFlag body = true
  · rw [if_pos hmanual]
  · rw [if_neg hmanual, hnow.resolve_left hmanual]

variable (hmeasured : body.flags.testBit 0 = false)
include hmeasured

/-- In any of those it is refused so (R85). -/
theorem takeRate_refused {scale : ScaleState} {reason : Reason} (hscale : s.weighing.scale = scale)
    (hrow : (scale, reason) ∈ rateRefusals) : s.takeRate r body = s.refuse r reason := by
  have hmanual : ¬ manualWeightFlag body = true := by rw [manualWeightFlag, hmeasured]; exact Bool.false_ne_true
  rw [State.takeRate, if_neg hactive, if_neg hmanual, hscale]
  simp only [rateRefusals, List.mem_cons, Prod.mk.injEq, List.not_mem_nil, or_false] at hrow
  obtain ⟨rfl, rfl⟩ | ⟨rfl, rfl⟩ | ⟨rfl, rfl⟩ | ⟨rfl, rfl⟩ := hrow <;> rfl

/-- In MOVING a RATE waits, one at a time (R86). -/
theorem takeRate_moving (hscale : s.weighing.scale = .moving) :
    s.takeRate r body =
      if s.quotes.waiting = none then
        { s with quotes := { s.quotes with waiting := some { ref := r, body := body, timer := 0 } } }
      else s.refuse r .busy := by
  have hmanual : ¬ manualWeightFlag body = true := by rw [manualWeightFlag, hmeasured]; exact Bool.false_ne_true
  rw [State.takeRate, if_neg hactive, if_neg hmanual, hscale]
  cases s.quotes.waiting <;> simp

end

/-- A RATE with good fields goes to the quote table (R65, R181). -/
theorem handRequest_rate {body : RateBody} (hfields : rateFieldsGood body = true) (r : RequestRef) (s : State) :
    s.handRequest r (.rate body) = s.takeRate r body :=
  if_pos hfields

/-- A quote is stored where the table has a place, and its bank takes a reference (R54, R84, R89). -/
theorem storeOutcome_stored {s : State} (hroom : ¬ 4 ≤ s.quotes.records.length) (r : RequestRef) (result : RateResult) :
    let n := s.quotes.nextNumber
    let records := s.quotes.records ++ [{ number := n, state := .opened, ageMs := 0, result := result }]
    s.storeOutcome r (.ok result) =
      (State.setBank result.bank { s.bank result.bank with refs := (s.bank result.bank).refs + 1 }
        { s with quotes := { s.quotes with
            records := records, nextNumber := advanceCounter (records.map Quote.number) n } }).reply r
        (.quote n s.hall.station result) := by
  refine (if_neg hroom).trans ?_
  cases result.bank <;> rfl

section

variable {tag : Nat} {body : RateBody} {s : State} (haccepts : Accepts 14 s) (hfields : rateFieldsGood body = true)
include haccepts hfields

/-- A RATE that the quote table refuses. -/
theorem exec_rate_refused {reason : Reason}
    (howner : (s.taken tag 14).takeRate (s.nextRef tag) body = (s.taken tag 14).refuse (s.nextRef tag) reason) :
    exec (.rate tag body) s = .next (s.answered tag 14 (.refused reason none)) :=
  exec_refused (.rate tag body) ⟨rfl, rfl⟩ haccepts ((handRequest_rate hfields _ _).trans howner)

/-- A RATE that is computed at once: refused with its computation or for want of a place, or answered with its quote (R82, R84,
R89). -/
theorem exec_rate_computed (hactive : s.activeBank ≠ none)
    (hnow : body.flags.testBit 0 = true ∨ s.weighing.scale = .settled) :
    (∀ reason, s.compute body = .error reason →
      exec (.rate tag body) s = .next (s.answered tag 14 (.refused reason none)))
    ∧ ∀ r, s.compute body = .ok r →
      (4 ≤ s.quotes.records.length → exec (.rate tag body) s = .next (s.answered tag 14 (.refused .quotesFull none)))
      ∧ (¬ 4 ≤ s.quotes.records.length →
        let n := s.quotes.nextNumber
        let records := s.quotes.records ++ [{ number := n, state := .opened, ageMs := 0, result := r }]
        exec (.rate tag body) s = .next
          ((State.setBank r.bank { s.bank r.bank with refs := (s.bank r.bank).refs + 1 }
            { s with quotes := { s.quotes with
                records := records, nextNumber := advanceCounter (records.map Quote.number) n } }).answered tag 14
            (.quote n s.hall.station r))) := by
  have howner : (s.taken tag 14).takeRate (s.nextRef tag) body =
      (s.taken tag 14).storeOutcome (s.nextRef tag) (s.compute body) :=
    takeRate_computed (s := s.taken tag 14) _ hactive hnow
  refine ⟨fun reason houtcome => ?_, fun r houtcome => ⟨fun hfull => ?_, fun hroom => ?_⟩⟩ <;> rw [houtcome] at howner
  · exact exec_rate_refused haccepts hfields howner
  · exact exec_rate_refused haccepts hfields (howner.trans (if_pos hfull))
  · refine exec_answered (.rate tag body) ⟨rfl, rfl⟩ haccepts (by simp) (by simp) ?_
    refine ((handRequest_rate hfields _ _).trans howner).trans ?_
    refine (storeOutcome_stored (s := s.taken tag 14) hroom _ r).trans ?_
    cases r.bank <;> rfl

/-- A RATE that waits in MOVING, or finds another waiting (R86). -/
theorem exec_rate_moving (hactive : s.activeBank ≠ none) (hmeasured : body.flags.testBit 0 = false)
    (hscale : s.weighing.scale = .moving) :
    exec (.rate tag body) s = .next
      (if s.quotes.waiting = none then
        { s.taken tag 14 with
          quotes := { s.quotes with waiting := some { ref := s.nextRef tag, body := body, timer := 0 } } }
      else s.answered tag 14 (.refused .busy none)) := by
  have howner := takeRate_moving (s := s.taken tag 14) (s.nextRef tag) hactive hmeasured hscale
  split
  · rename_i hwaiting
    rw [exec_accepted (kind := 14) (.rate tag body) ⟨rfl, rfl⟩ haccepts,
      (handRequest_rate hfields _ _).trans (howner.trans (if_pos hwaiting))]
    exact congrArg _ (finish_clear _ _ _ haccepts.1)
  · rename_i hwaiting
    exact exec_rate_refused haccepts hfields (howner.trans (if_neg hwaiting))

end

/-! ### The stages in their order (R67 to R82) -/

/-- One stage: where its condition holds the computation ends with its refusal, and otherwise goes on. -/
theorem stage_of_eq_ite {α : Type} {x refused rest : α} {c Q : Prop} [Decidable c] (h : x = if c then refused else rest)
    (hrest : x = rest → Q) : if c then x = refused else Q := by
  split
  · rename_i hc
    exact h.trans (if_pos hc)
  · rename_i hc
    exact hrest (h.trans (if_neg hc))

/-- Stages 9 to 14, as R76 to R81 write their figures out. -/
theorem priceResult_stages {sides : Option (Nat × Nat × Nat)} {measured : Option Measurement} {dims : Option Dims}
    (h : DimsFrom sides measured dims) (cfg : Setup) (p : Product) (id : BankId) (version : Nat) (body : RateBody)
    (z : ZoneAnswer) (settleNumber : Option Nat) (wa wc : Nat) (wv : Option Nat) (band : BandRecord) (low : Nat)
    (surcharge : Option Surcharge) :
    let result := priceResult cfg p id version body z settleNumber wa wc wv dims band low surcharge
    if p.maxValue < body.declaredValue ∧ 0 < body.declaredValue then result = .error .valueLimit
    else if 0 < body.declaredValue ∧ (z.noInsurance = true ∨ surcharge = none) then result = .error .noInsurance
    else
      let price := if band.sw = 0 ∨ wc ≤ low + band.i then band.p0
        else band.p0 + ((wc - low - band.i + band.sw - 1) / band.sw) * band.p1
      let sum := price + (if beyond sides p.longSide p.girth then (surcharge.map (·.oversize)).getD 0 else 0)
        + (if measured.any (·.irregular) then (surcharge.map (·.irregular)).getD 0 else 0)
        + (if z.remote then (price * (surcharge.map (·.remoteRate)).getD 0 + 500) / 1000 else 0)
        + (if body.declaredValue = 0 then 0 else (surcharge.map fun x =>
            (body.declaredValue + x.insuranceUnit - 1) / x.insuranceUnit * x.insurancePrice).getD 0)
      if 999999 < (2 * sum + cfg.roundingUnit) / (2 * cfg.roundingUnit) * cfg.roundingUnit then result = .error .priceLimit
      else ∃ r, result = .ok r := by
  intro result
  have hinsurance := insuranceLine_eq p z surcharge body.declaredValue
  split
  · rename_i hvalue
    exact priceResult_uninsured (hinsurance.trans (if_pos hvalue))
  · rename_i hvalue
    replace hinsurance := hinsurance.trans (if_neg hvalue)
    split
    · rename_i hno
      exact priceResult_uninsured (hinsurance.trans (if_pos hno))
    · rename_i hno
      have hpriced := priceResult_insured (cfg := cfg) (id := id) (version := version) (settleNumber := settleNumber)
        (wa := wa) (wc := wc) (wv := wv) (dims := dims) (band := band) (low := low) (hinsurance.trans (if_neg hno))
      simp only [subtotalOf, bandPrice_eq, h.largeFinding_eq, h.irregularFinding_eq, remoteLine_getD] at hpriced
      exact stage_of_eq_ite hpriced fun hok => ⟨_, hok⟩

/-- Settles O34: the rows of R85 by `exec_rate_refused`, `exec_rate_computed` and `exec_rate_moving`, the counter by
`advanceCounter_first`, and the stages of the computation one after another, each by its own condition. -/
theorem rateIsPricedWaitsOrIsRefused : Obligations.RateIsPricedWaitsOrIsRefused := by
  refine ⟨fun tag body s haccepts hfields => ?_, fun held n hheld hlow hhigh => ?_, fun s cfg id body hsetup hactive hread => ?_⟩
  · refine ⟨fun hnone => exec_rate_refused haccepts hfields (takeRate_noTariff _ hnone), fun hactive hnow => ?_,
      fun hactive hmeasured => ?_⟩
    · obtain ⟨herror, hok⟩ := exec_rate_computed (tag := tag) haccepts hfields hactive hnow
      split
      · rename_i reason houtcome
        exact herror reason houtcome
      · rename_i r houtcome
        obtain ⟨hfull, hroom⟩ := hok r houtcome
        split
        · rename_i h
          exact hfull h
        · rename_i h
          exact hroom h
    · have hrefused {scale : ScaleState} {reason : Reason} (hrow : (scale, reason) ∈ rateRefusals)
          (hscale : s.weighing.scale = scale) :=
        exec_rate_refused haccepts hfields
          (takeRate_refused (s := s.taken tag 14) (s.nextRef tag) hactive hmeasured (reason := reason) hscale hrow)
      exact ⟨hrefused (by decide), hrefused (by decide), hrefused (by decide), hrefused (by decide),
        exec_rate_moving haccepts hfields hactive hmeasured⟩
  · intro step
    have hstep : ∀ j, nextQuoteNumber^[j] n = step j := iterate_nextQuoteNumber ⟨hlow, hhigh⟩
    simpa only [hstep] using advanceCounter_first hheld ⟨hlow, hhigh⟩
  · refine ⟨compute_unknownProduct hsetup hactive hread, fun slot p hslot hp henabled => ?_⟩
    intro read wa measured sides bank surcharge wv wc beyondLimits
    have hcompute := compute_product hsetup hactive hread hslot hp henabled
    have hdims : DimsFrom sides measured (dimsRead s.weighing.parcel body) := dimsFrom_read _ _
    split
    · rename_i hzone
      exact hcompute.trans (rateProduct_unroutable hzone)
    · rename_i z hzone
      split
      · rename_i hcell
        exact hcompute.trans (rateProduct_notServed hzone hcell)
      · rename_i cell hcell
        refine stage_of_eq_ite (hcompute.trans (rateProduct_served hzone hcell hdims)) fun hcompute => ?_
        refine stage_of_eq_ite hcompute fun hcompute => ?_
        refine stage_of_eq_ite hcompute fun hcompute => ?_
        refine stage_of_eq_ite hcompute fun hcompute => ?_
        split
        · rename_i hband
          exact hcompute.trans (congrArg (fun found => Option.elim found _ _) hband)
        · rename_i band low hband
          rw [hcompute.trans (congrArg (fun found => Option.elim found _ _) hband)]
          exact priceResult_stages hdims cfg p id _ body z _ _ wc _ band low surcharge

end Sys2Proof.Machine
end

section
/-! What an event produced, carried over into the output queue in the order of production: under `State.carried` the operations of
the quote table, the allocator and the hall line are the words of the statements, whatever the event did before. -/

namespace Sys2Proof.Machine

/-- What the event has produced so far has entered the output queue in the order of production. -/
def State.carried (s : State) : State :=
  { s with link := s.scratch.produced.foldl Link.accept s.link, scratch := .clear }

/-- Messages none of which answers the event's own request enter in the order of production (R179). -/
theorem flush_eq_carried {own : Nat} {s : State} (h : ∀ m ∈ s.scratch.produced, m.answers own = false) :
    s.flush own = s.carried := by
  rw [State.flush, State.carried, ownFirst_foreign own _ h]

/-- Nothing produced: nothing to carry. -/
theorem carried_of_clear {s : State} (h : s.scratch = .clear) : s.carried = s :=
  (flush_eq_carried (own := 0) (by simp [h, Scratch.clear])).symm.trans (flush_clear 0 s h)

section

variable (s : State)

@[simp] theorem carried_setup : s.carried.setup = s.setup := rfl
@[simp] theorem carried_quotes : s.carried.quotes = s.quotes := rfl
@[simp] theorem carried_alloc : s.carried.alloc = s.alloc := rfl
@[simp] theorem carried_hall : s.carried.hall = s.hall := rfl
@[simp] theorem carried_scratch : s.carried.scratch = .clear := rfl
@[simp] theorem carried_noticeSeq : s.carried.link.noticeSeq = s.link.noticeSeq :=
  (foldl_accept_outstanding s.scratch.produced s.link).2.2.1
@[simp] theorem carried_nextId : s.carried.link.nextId = s.link.nextId :=
  (foldl_accept_outstanding s.scratch.produced s.link).2.2.2

/-- What is carried over is not carried over again. -/
@[simp] theorem carried_carried : s.carried.carried = s.carried := carried_of_clear rfl

/-! ### Messages and refused COMMITs -/

theorem carried_notify (n : Notice) : (s.notify n).carried = s.carried.noticed n := by
  have hlink : (s.notify n).carried.link = (s.carried.noticed n).link := by
    show (s.scratch.produced ++ [_]).foldl Link.accept { s.link with noticeSeq := _ } = _
    rw [foldl_accept_noticeSeq, List.foldl_concat, ← carried_noticeSeq]
    rfl
  exact congrArg (fun l => { s.carried with link := l }) hlink

theorem carried_reply (r : RequestRef) (b : Reply) : (s.reply r b).carried = s.carried.replied r b := by
  have hlink : (s.reply r b).carried.link = (s.carried.replied r b).link := by
    show (s.scratch.produced ++ [_]).foldl Link.accept s.link = _
    rw [List.foldl_concat]
    rfl
  exact congrArg (fun l => { s.carried with link := l }) hlink

/-- The COMMIT of a quote is turned back (R99, R100). -/
theorem carried_reopen (reason : Reason) (n : Nat) : (s.reopen reason n).carried = s.carried.turnedBack reason [n] := by
  rcases committing_or n s with hnone | ⟨q, ref, hq, hstate⟩
  · rw [reopen_notCommitting reason hnone, turnedBack_notCommitting reason (s := s.carried) hnone]
  · rw [reopen_committing reason hq hstate, turnedBack_committing reason (s := s.carried) hq hstate]
    exact carried_reply _ _ _

theorem carried_foldl_reopen (reason : Reason) (ns : List Nat) :
    (ns.foldl (State.reopen reason) s).carried = s.carried.turnedBack reason ns := by
  induction ns generalizing s with
  | nil => rfl
  | cons n ns ih => rw [List.foldl_cons, ih, carried_reopen, ← turnedBack_cons]

/-! ### Supply and need -/

/-- No such slot: nothing to re-evaluate. -/
theorem resupplied_none {k : Nat} {s : State} (h : s.alloc.slots[k]? = none) : s.resupplied k = s := by
  simp only [State.resupplied, h]

theorem carried_reviewSupply (k : Nat) : (s.reviewSupply k).carried = s.carried.resupplied k := by
  cases hx : s.alloc.slots[k]? with
  | none =>
    rw [resupplied_none (s := s.carried) hx]
    simp only [State.reviewSupply, hx]
  | some x =>
    by_cases hexhausted : x.supplyOf = .exhausted ∧ x.supply ≠ .exhausted
    · rw [reviewSupply_exhausted hx hexhausted, resupplied_exhausted (s := s.carried) hx hexhausted, State.refuseNoNumbers,
        carried_foldl_reopen, carried_notify]
      rfl
    · by_cases hlast : x.current = none ∨ ¬ (x.supplyOf = .last ∧ x.supply ≠ .last)
      · rw [reviewSupply_quiet hx hexhausted hlast, resupplied_quiet (s := s.carried) hx hexhausted hlast]
        rfl
      · obtain ⟨hcurrent, hlast⟩ := not_or.mp hlast
        obtain ⟨c, hcurrent⟩ := Option.ne_none_iff_exists'.mp hcurrent
        rw [reviewSupply_last hx hcurrent (not_not.mp hlast),
          resupplied_last (s := s.carried) hx hcurrent (not_not.mp hlast), carried_notify]
        rfl

/-- The need of a claim, as R112 puts it. -/
theorem needsClaim_iff (x : Slot) (lowWater : Nat) :
    x.needsClaim lowWater = true ↔ x.enabled = true ∧ x.reserve = none ∧ x.claim = .none
      ∧ (x.current.all fun c => decide (1000 - c.next ≤ lowWater)) = true := by
  unfold Slot.needsClaim
  cases x.current <;> simp [CurrentBlock.left, Config.blockSize, and_assoc]

section

variable {k : Nat} {x : Slot} {s : State} (hx : s.alloc.slots[k]? = some x)
include hx

/-- No claim is needed, or the station makes none (R112). -/
theorem testNeed_unneeded (h : ¬ (s.hall.state = .joined ∧ x.needsClaim s.lowWater = true)) : s.testNeed k = s := by
  simp only [State.testNeed, hx]
  exact if_neg h

/-- A claim is needed and no mark is free (R113). -/
theorem testNeed_full (h : s.hall.state = .joined ∧ x.needsClaim s.lowWater = true) (hsearch : x.search = none) :
    s.testNeed k = s.reviewSupply k := by
  simp only [State.testNeed, hx, hsearch]
  exact if_pos h

/-- A claim is needed and made (R112, R113). -/
theorem testNeed_chosen {b : Nat} (h : s.hall.state = .joined ∧ x.needsClaim s.lowWater = true) (hsearch : x.search = some b) :
    s.testNeed k = ((s.modifySlot k fun y => { y.setMark b with claim := .owed b }).dueOffer).reviewSupply k := by
  simp only [State.testNeed, hx, hsearch]
  exact if_pos h

/-- The statements' word where no claim is needed. -/
theorem needTested_unneeded (h : ¬ (s.hall.state = .joined ∧ x.needsClaim s.lowWater = true)) : s.needTested k = s := by
  rw [needsClaim_iff] at h
  simp only [State.needTested, State.sought, hx]
  split
  · rename_i hjoined
    exact if_neg fun hneed => h ⟨hjoined, hneed⟩
  · rfl

/-- The statements' word where no mark is free. -/
theorem needTested_full (h : s.hall.state = .joined ∧ x.needsClaim s.lowWater = true) (hsearch : x.search = none) :
    s.needTested k = s.resupplied k := by
  rw [needsClaim_iff] at h
  simp only [State.needTested, State.sought, hx, hsearch]
  rw [if_pos h.1]
  exact if_pos h.2

/-- The statements' word where a claim is made. -/
theorem needTested_chosen {b : Nat} (h : s.hall.state = .joined ∧ x.needsClaim s.lowWater = true)
    (hsearch : x.search = some b) :
    s.needTested k = (s.modifySlot k fun y => { y.setMark b with claim := .owed b }).resupplied k := by
  rw [needsClaim_iff] at h
  simp only [State.needTested, State.sought, hx, hsearch]
  rw [if_pos h.1]
  exact if_pos h.2

end

/-- No such slot: no need to test. -/
theorem needTested_none {k : Nat} {s : State} (h : s.alloc.slots[k]? = none) : s.needTested k = s := by
  simp only [State.needTested, State.sought, h, ite_self]

theorem carried_testNeed (k : Nat) : (s.testNeed k).carried = s.carried.needTested k := by
  cases hx : s.alloc.slots[k]? with
  | none =>
    rw [needTested_none (s := s.carried) hx]
    simp only [State.testNeed, hx]
  | some x =>
    by_cases h : s.hall.state = .joined ∧ x.needsClaim s.lowWater = true
    · cases hsearch : x.search with
      | none => rw [testNeed_full hx h hsearch, needTested_full (s := s.carried) hx h hsearch, carried_reviewSupply]
      | some b =>
        rw [testNeed_chosen hx h hsearch, needTested_chosen (s := s.carried) hx h hsearch, carried_reviewSupply]
        rfl
    · rw [testNeed_unneeded hx h, needTested_unneeded (s := s.carried) hx h]

/-! ### Claims, answers and the conflict log -/

/-- The model's test of a frame to withdraw, as the statements put it (R158). -/
theorem withdrawable_eq (body : FrameBody) (s : State) :
    s.withdrawable body = fun q => decide (q.frame.body = body ∧ s.hall.attempt ≠ some q.frame) :=
  funext fun _ => (Bool.decide_and _ _).symm

/-- A withdrawal without a frame to withdraw. -/
theorem withdrew_of_not_any {body : FrameBody} {s : State} (h : ¬ s.hall.queue.any (s.withdrawable body) = true) :
    s.withdrew body = s := by
  have hqueue : s.hall.queue.eraseP (s.withdrawable body) = s.hall.queue :=
    List.eraseP_of_forall_not fun _ hq hw => h (List.any_eq_true.mpr ⟨_, hq, hw⟩)
  rw [withdrawable_eq] at hqueue
  simp only [State.withdrew, State.onHall, hqueue]

theorem carried_withdraw (body : FrameBody) : (s.withdraw body).carried = s.carried.withdrew body := by
  unfold State.withdraw
  split
  · simp only [withdrawable_eq]
    rfl
  · rename_i h
    rw [withdrew_of_not_any (s := s.carried) h]

theorem carried_loseClaim (k b : Nat) : (s.loseClaim k b).carried = s.carried.claimLost k b := by
  unfold State.loseClaim State.claimLost
  rw [carried_alloc]
  cases s.alloc.slots[k]? with
  | none => rfl
  | some x =>
    dsimp only
    rw [carried_testNeed, carried_reviewSupply]
    have hleft : ∀ f, ((((if x.claim = .queued b then s.withdraw (.claim x.letter b) else s).withdraw
        (.held x.letter b))).modifySlot k f).carried =
          ((if x.claim = .queued b then s.carried.withdrew (.claim x.letter b) else s.carried).withdrew
            (.held x.letter b)).modifySlot k f := fun f => by
      split
      · rw [← carried_withdraw, ← carried_withdraw]
        rfl
      · rw [← carried_withdraw]
        rfl
    rw [hleft]
    rfl

/-- A HELD comes to be owed, or nothing happens (R121, R133). -/
theorem oweHeld_eq {k : Nat} {x : Slot} {s : State} (hx : s.alloc.slots[k]? = some x) (b : Nat) :
    s.oweHeld k b =
      if s.mayOweHeld x b then (s.modifySlot k fun y => { y with owedHeld := y.owedHeld ++ [b] }).dueOffer else s := by
  have hiff : (s.mayOwe = true ∧ x.owedHeld.contains b = false ∧ s.isQueued (.held x.letter b) = false
      ∧ x.owedHeld.length < Config.maxOwedHeld) ↔ s.mayOweHeld x b = true := by
    simp [State.mayOwe, State.mayOweHeld, State.isQueued, Config.maxOwedHeld, and_comm]
  simp only [State.oweHeld, hx, hiff]

theorem carried_logConflict (r : ConflictRecord) : (s.logConflict r).carried = s.carried.logged r := by
  let u : State := { s with alloc := { s.alloc with log := s.alloc.log ++ [r] } }
  have hmodel : s.logConflict r = if s.alloc.log.length < 8
      then (if s.alloc.log = [] then u.notify (.conflict r.kind r.letter r.block) else u)
      else { s with alloc := { s.alloc with overflow := min (s.alloc.overflow + 1) 255 } } := rfl
  rw [hmodel, apply_ite State.carried, apply_ite State.carried, carried_notify]
  rfl

theorem carried_markHeard (k : Nat) (kind : FrameKind) (station : Nat) (serial : Option Nat) (b : Nat) :
    (s.markHeard k kind station serial b).carried = s.carried.peerNamed k kind station serial b := by
  unfold State.markHeard State.peerNamed
  rw [carried_alloc, carried_setup]
  cases s.alloc.slots[k]? with
  | none => rfl
  | some x =>
    have hmarked : (if x.marked b = true then s else (s.modifySlot k (Slot.setMark b)).notify (.excluded x.letter b kind station)).carried =
        if x.marks.getD (b - x.first) false then s.carried
        else (s.carried.modifySlot k (Slot.setMark b)).noticed (.excluded x.letter b kind station) := by
      rw [apply_ite State.carried, carried_notify]
      rfl
    by_cases hin : x.first ≤ b ∧ b < x.first + x.count
    · have hin' : x.inWindow b = true := decide_eq_true hin
      dsimp only
      rw [if_pos hin, if_pos hin', hmarked]
      rfl
    · have hin' : ¬ x.inWindow b = true := fun h => hin (of_decide_eq_true h)
      dsimp only
      rw [if_neg hin, if_neg hin', apply_ite State.carried, carried_logConflict]

theorem carried_marksHeard (k : Nat) (kind : FrameKind) (station : Nat) (serial : Option Nat) (blocks : List Nat) :
    (s.marksHeard k kind station serial blocks).carried =
      (blocks.foldl (fun u b => u.peerNamed k kind station serial b) s.carried).resupplied k := by
  unfold State.marksHeard
  rw [carried_reviewSupply]
  congr 1
  induction blocks generalizing s with
  | nil => rfl
  | cons b bs ih => rw [List.foldl_cons, ih, carried_markHeard, List.foldl_cons]

/-! ### Owed items and references -/

theorem carried_offerItem (i : OwedItem) : (s.offerItem i).carried = s.carried.offerItem i := by
  unfold State.offerItem
  rw [carried_hall]
  split
  · cases i <;> rfl
  · rfl

theorem carried_foldl_offerItem (items : List OwedItem) :
    (items.foldl State.offerItem s).carried = items.foldl State.offerItem s.carried := by
  induction items generalizing s with
  | nil => rfl
  | cons i items ih => rw [List.foldl_cons, ih, carried_offerItem, List.foldl_cons]

theorem carried_offerOwed : s.offerOwed.carried = s.carried.offered := by
  show _ = s.carried.offerOwed
  unfold State.offerOwed
  rw [show s.carried.sends = s.sends from rfl, show s.carried.owedItems = s.owedItems from rfl]
  split
  · exact carried_foldl_offerItem s _
  · rfl

theorem carried_offerSlot (k : Nat) : (s.offerSlot k).carried = s.carried.offerSlot k := by
  unfold State.offerSlot
  rw [carried_alloc]
  split
  · rfl
  · exact carried_foldl_offerItem s _

theorem carried_dropRef (id : BankId) : (s.dropRef id).carried = s.carried.dropRef id := by
  rw [dropRef_eq, dropRef_eq]
  cases id <;> rfl

end

end Sys2Proof.Machine
end

section
/-! What an event makes due, and whose messages it produces, operation by operation; so its end is `State.roomTaken` of what it
carried over. -/

namespace Sys2Proof.Machine

/-! ### Messages for earlier requests alone -/

/-- No message of the event answers the request it could have taken, nor will the serving of a COMMIT or its refusal: when any can
be `pending`, each was taken before (R94, R177; log 7). -/
structure State.Telling (pending : Prop) (s : State) : Prop where
  foreign : ∀ m ∈ s.scratch.produced, m.answers s.link.nextId = false
  earlier : pending → ∀ q ∈ s.quotes.records, ∀ ref, q.state = .committing ref → ref.id < s.link.nextId
  idle : ¬ pending → s.quotes.pendingOrder = []

namespace State.Telling

variable {P : Prop} {s : State}

/-- Between two events. -/
theorem of_clear (hclear : s.scratch = .clear) (h : RequestsEarlier s ∨ s.quotes.pendingOrder = []) : ∃ pending, s.Telling pending := by
  have hforeign : ∀ m ∈ s.scratch.produced, m.answers s.link.nextId = false := by simp [hclear, Scratch.clear]
  rcases h with h | h
  · exact ⟨True, hforeign, fun _ => h.2, fun hnot => absurd trivial hnot⟩
  · exact ⟨False, hforeign, False.elim, fun _ => h⟩

/-- An operation that neither produces a message nor touches the quotes. -/
theorem congr {t : State} (h : s.Telling P) (hproduced : t.scratch.produced = s.scratch.produced)
    (hnext : t.link.nextId = s.link.nextId) (hquotes : t.quotes = s.quotes) : t.Telling P :=
  ⟨by rw [hproduced, hnext]; exact h.foreign, by rw [hquotes, hnext]; exact h.earlier, by rw [hquotes]; exact h.idle⟩

/-- The flush is what has been carried over. -/
theorem flush (h : s.Telling P) : s.flush s.link.nextId = s.carried := flush_eq_carried h.foreign

theorem carried (h : s.Telling P) : s.carried.Telling P :=
  ⟨fun m hm => absurd hm List.not_mem_nil, by rw [carried_nextId]; exact h.earlier, h.idle⟩

theorem notify (h : s.Telling P) (n : Notice) : (s.notify n).Telling P := by
  refine ⟨fun m hm => ?_, h.earlier, h.idle⟩
  rcases List.mem_append.mp hm with hm | hm
  · exact h.foreign m hm
  · obtain rfl := List.mem_singleton.mp hm
    rfl

theorem reply (h : s.Telling P) {r : RequestRef} (hr : r.id < s.link.nextId) (b : Reply) : (s.reply r b).Telling P := by
  refine ⟨fun m hm => ?_, h.earlier, h.idle⟩
  rcases List.mem_append.mp hm with hm | hm
  · exact h.foreign m hm
  · obtain rfl := List.mem_singleton.mp hm
    simp [OutMsg.answers, Nat.ne_of_lt hr]

/-- A quote that becomes OPEN leaves no other COMMIT to be answered. -/
theorem reopened (h : s.Telling P) (n : Nat) : (s.reopened n).Telling P := by
  refine ⟨h.foreign, fun hpending q hq ref hstate => ?_, fun hnot => ?_⟩
  · obtain ⟨p, hp, rfl⟩ := List.mem_map.mp hq
    by_cases hn : p.number = n
    · rw [if_pos hn] at hstate
      cases hstate
    · rw [if_neg hn] at hstate
      exact h.earlier hpending p hp ref hstate
  · show s.quotes.pendingOrder.erase n = []
    rw [h.idle hnot, List.erase_nil]

/-- The COMMITs of a product are turned back (R99). -/
theorem refuseNoNumbers (h : s.Telling P) (letter : Nat) : (s.refuseNoNumbers letter).Telling P := by
  have hfold : ∀ (ns : List Nat) {u : State}, u.Telling P → (ns ≠ [] → P) →
      (ns.foldl (State.reopen .noNumbers) u).Telling P := by
    intro ns
    induction ns with
    | nil => exact fun hu _ => hu
    | cons n ns ih =>
      intro u hu hpending
      refine ih ?_ fun _ => hpending (List.cons_ne_nil _ _)
      rcases committing_or n u with hnone | ⟨q, ref, hq, hstate⟩
      · rwa [reopen_notCommitting _ hnone]
      · rw [reopen_committing _ hq hstate]
        exact (hu.reopened n).reply (hu.earlier (hpending (List.cons_ne_nil _ _)) q (quote?_spec hq).1 ref hstate) _
  refine hfold _ h fun hsome => by_contra fun hnot => hsome ?_
  rw [h.idle hnot, List.filter_nil]

theorem reviewSupply (h : s.Telling P) (k : Nat) : (s.reviewSupply k).Telling P := by
  have hslot : ∀ f, (s.modifySlot k f).Telling P := fun f => h.congr rfl rfl rfl
  unfold State.reviewSupply
  split
  · exact h
  · dsimp only
    split_ifs
    · split
      · exact hslot _
      · exact (hslot _).notify _
    · exact ((hslot _).notify _).refuseNoNumbers _
    · exact hslot _

theorem testNeed (h : s.Telling P) (k : Nat) : (s.testNeed k).Telling P := by
  unfold State.testNeed
  split
  · exact h
  · split
    · split
      · exact h.reviewSupply k
      · exact (h.congr rfl rfl rfl : (State.dueOffer (s.modifySlot k _)).Telling P).reviewSupply k
    · exact h

theorem withdraw (h : s.Telling P) (body : FrameBody) : (s.withdraw body).Telling P := by
  unfold State.withdraw
  split
  · exact h.congr rfl rfl rfl
  · exact h

theorem loseClaim (h : s.Telling P) (k b : Nat) : (s.loseClaim k b).Telling P := by
  unfold State.loseClaim
  split
  · exact h
  · rename_i x _
    have hleft : (if x.claim = .queued b then s.withdraw (.claim x.letter b) else s).Telling P := by
      split
      · exact h.withdraw _
      · exact h
    exact (((hleft.withdraw _).congr rfl rfl rfl : (State.modifySlot k _ _).Telling P).reviewSupply k).testNeed k

theorem oweHeld (h : s.Telling P) (k b : Nat) : (s.oweHeld k b).Telling P := by
  unfold State.oweHeld
  split
  · exact h
  · split
    · exact h.congr rfl rfl rfl
    · exact h

theorem logConflict (h : s.Telling P) (r : ConflictRecord) : (s.logConflict r).Telling P := by
  unfold State.logConflict
  dsimp only
  split_ifs
  · exact State.Telling.notify (s := { s with alloc := { s.alloc with log := s.alloc.log ++ [r] } }) (h.congr rfl rfl rfl) _
  · exact h.congr rfl rfl rfl
  · exact h.congr rfl rfl rfl

theorem markHeard (h : s.Telling P) (k : Nat) (kind : FrameKind) (station : Nat) (serial : Option Nat) (b : Nat) :
    (s.markHeard k kind station serial b).Telling P := by
  unfold State.markHeard
  split
  · exact h
  · split_ifs
    · exact h
    · exact (h.congr rfl rfl rfl : (s.modifySlot k _).Telling P).notify _
    · exact h.logConflict _
    · exact h

theorem marksHeard (h : s.Telling P) (k : Nat) (kind : FrameKind) (station : Nat) (serial : Option Nat) (blocks : List Nat) :
    (s.marksHeard k kind station serial blocks).Telling P := by
  have hfold : (blocks.foldl (State.markHeard k kind station serial) s).Telling P := by
    induction blocks generalizing s with
    | nil => exact h
    | cons b bs ih => exact ih (h.markHeard k kind station serial b)
  exact hfold.reviewSupply k

theorem withdrawBlock (h : s.Telling P) (k b : Nat) : (s.withdrawBlock k b).Telling P := by
  unfold State.withdrawBlock
  split
  · exact h
  · have hmoved : ∀ u : State, u.Telling P → (((u.oweHeld k b).reviewSupply k).testNeed k).Telling P :=
      fun u hu => ((hu.oweHeld k b).reviewSupply k).testNeed k
    refine hmoved _ ?_
    split_ifs <;> exact h.congr rfl rfl rfl

theorem winClaim (h : s.Telling P) (k b : Nat) : (s.winClaim k b).Telling P := by
  unfold State.winClaim
  split
  · exact h
  · rename_i x _
    have hwon : ∀ f n, ((((s.modifySlot k f).notify n).reviewSupply k).testNeed k).Telling P := fun f n =>
      (((h.congr rfl rfl rfl : (s.modifySlot k f).Telling P).notify n).reviewSupply k).testNeed k
    dsimp only
    split
    · exact (hwon _ _).congr rfl rfl rfl
    · exact hwon _ _

theorem issueSerial (h : s.Telling P) (k : Nat) (c : CurrentBlock) : (s.issueSerial k c).Telling P := by
  unfold State.issueSerial
  split
  · exact ((h.congr rfl rfl rfl : (s.modifySlot k _).Telling P).testNeed k).reviewSupply k
  · exact ((h.congr rfl rfl rfl : (s.modifySlot k _).dueOffer.Telling P).testNeed k).reviewSupply k

theorem offerItem (h : s.Telling P) (i : OwedItem) : (s.offerItem i).Telling P := by
  unfold State.offerItem
  split
  · cases i <;> exact h.congr rfl rfl rfl
  · exact h

theorem foldl_offerItem (h : s.Telling P) (items : List OwedItem) : (items.foldl State.offerItem s).Telling P := by
  induction items generalizing s with
  | nil => exact h
  | cons i items ih => exact ih (h.offerItem i)

theorem offerOwed (h : s.Telling P) : s.offerOwed.Telling P := by
  unfold State.offerOwed
  split
  · exact h.foldl_offerItem _
  · exact h

theorem offerSlot (h : s.Telling P) (k : Nat) : (s.offerSlot k).Telling P := by
  unfold State.offerSlot
  split
  · exact h
  · exact h.foldl_offerItem _

end State.Telling

/-! ### What stays of the link and of what is due -/

/-- The request numbers and what is due are the same in both states. -/
@[reducible] def SameDue (t s : State) : Prop :=
  t.link.nextId = s.link.nextId ∧ t.scratch.offerDue = s.scratch.offerDue ∧ t.scratch.serveDue = s.scratch.serveDue

theorem reopen_sameDue (reason : Reason) (s : State) (n : Nat) : SameDue (s.reopen reason n) s := by
  unfold State.reopen
  split
  · exact ⟨rfl, rfl, rfl⟩
  · split <;> exact ⟨rfl, rfl, rfl⟩

theorem refuseNoNumbers_sameDue (letter : Nat) (s : State) : SameDue (s.refuseNoNumbers letter) s := by
  unfold State.refuseNoNumbers
  generalize s.quotes.pendingOrder.filter (s.quoteHasLetter letter) = ns
  induction ns generalizing s with
  | nil => exact ⟨rfl, rfl, rfl⟩
  | cons n ns ih =>
    obtain ⟨hnext, hoffer, hserve⟩ := ih (s.reopen .noNumbers n)
    obtain ⟨hnext', hoffer', hserve'⟩ := reopen_sameDue .noNumbers s n
    exact ⟨hnext.trans hnext', hoffer.trans hoffer', hserve.trans hserve'⟩

@[simp] theorem reviewSupply_sameDue (k : Nat) (s : State) : SameDue (s.reviewSupply k) s := by
  unfold State.reviewSupply
  split
  · exact ⟨rfl, rfl, rfl⟩
  · dsimp only
    split_ifs
    · split <;> exact ⟨rfl, rfl, rfl⟩
    · exact refuseNoNumbers_sameDue _ _
    · exact ⟨rfl, rfl, rfl⟩

@[simp] theorem logConflict_sameDue (r : ConflictRecord) (s : State) : SameDue (s.logConflict r) s := by
  unfold State.logConflict
  dsimp only
  split_ifs <;> exact ⟨rfl, rfl, rfl⟩

@[simp] theorem markHeard_sameDue (k : Nat) (kind : FrameKind) (station : Nat) (serial : Option Nat) (s : State) (b : Nat) :
    SameDue (s.markHeard k kind station serial b) s := by
  unfold State.markHeard
  split
  · exact ⟨rfl, rfl, rfl⟩
  · split_ifs
    case pos | neg => exact ⟨rfl, rfl, rfl⟩
    case pos => exact logConflict_sameDue _ _
    all_goals exact ⟨rfl, rfl, rfl⟩

@[simp] theorem marksHeard_sameDue (k : Nat) (kind : FrameKind) (station : Nat) (serial : Option Nat) (blocks : List Nat)
    (s : State) : SameDue (s.marksHeard k kind station serial blocks) s := by
  have hfold : SameDue (blocks.foldl (State.markHeard k kind station serial) s) s := by
    induction blocks generalizing s with
    | nil => exact ⟨rfl, rfl, rfl⟩
    | cons b bs ih =>
      have hfirst := markHeard_sameDue k kind station serial s b
      obtain ⟨hnext, hoffer, hserve⟩ := ih (s.markHeard k kind station serial b)
      exact ⟨hnext.trans hfirst.1, hoffer.trans hfirst.2.1, hserve.trans hfirst.2.2⟩
  obtain ⟨hnext, hoffer, hserve⟩ := reviewSupply_sameDue k (blocks.foldl (State.markHeard k kind station serial) s)
  exact ⟨hnext.trans hfold.1, hoffer.trans hfold.2.1, hserve.trans hfold.2.2⟩

/-- A test of the need makes a claim at this slot (R112, R113). -/
def State.chooses (k : Nat) (s : State) : Bool :=
  (s.alloc.slots[k]?).any fun x =>
    decide (s.hall.state = .joined) && x.needsClaim s.lowWater && x.search.isSome

/-- A claim made is to be offered (R113, R157). -/
theorem testNeed_due (k : Nat) (s : State) :
    (s.testNeed k).link.nextId = s.link.nextId
      ∧ (s.testNeed k).scratch.offerDue = (s.scratch.offerDue || s.chooses k)
      ∧ (s.testNeed k).scratch.serveDue = s.scratch.serveDue := by
  cases hx : s.alloc.slots[k]? with
  | none => simp [State.testNeed, State.chooses, hx]
  | some x =>
    by_cases h : s.hall.state = .joined ∧ x.needsClaim s.lowWater = true
    · cases hsearch : x.search with
      | none =>
        rw [testNeed_full hx h hsearch]
        simp [State.chooses, hx, hsearch]
      | some b =>
        rw [testNeed_chosen hx h hsearch]
        simp [State.chooses, hx, hsearch, h]
    · rw [testNeed_unneeded hx h]
      rw [← Bool.and_eq_true_iff.trans (and_congr_left' decide_eq_true_iff), Bool.not_eq_true] at h
      simp [State.chooses, hx, h]

end Sys2Proof.Machine
end

section
/-! The completion of a quote, the serving of the pending order and the end of an event, carried over (R95 to R97, R157, R158). -/

namespace Sys2Proof.Machine

/-! ### The completion of a quote -/

/-- The quote has left the table and the pending order; its bank's reference stands (log 10). -/
def State.leaving (q : Quote) (s : State) : State :=
  { s with
    quotes := { s.quotes with
      records := s.quotes.records.eraseP fun x : Quote => x.number == q.number
      pendingOrder := s.quotes.pendingOrder.erase q.number } }

/-- A slot whose current block has issued its next serial; the last one spends the block (R124, R125). -/
def Slot.issued (c : CurrentBlock) (x : Slot) : Slot :=
  if c.next + 1 < 1000 then { x with current := some { c with next := c.next + 1 } } else x.promote.oweSpent c.block

/-- The serial has been drawn: the slot has issued it, its need has been tested and its supply state re-evaluated (R97, R124). -/
def State.serialDrawn (k : Nat) (c : CurrentBlock) (s : State) : State :=
  ((s.modifySlot k (Slot.issued c)).needTested k).resupplied k

/-- The drawing of the serial makes an item owed: a SPENT or a CLAIM (R97). -/
def State.drawOwes (k : Nat) (c : CurrentBlock) (s : State) : Bool :=
  decide (¬ c.next + 1 < 1000) || (s.modifySlot k (Slot.issued c)).chooses k

/-- The parcel has its bag and its POSTED is in the queue, and what the drawing made owed has been offered (R97). -/
def State.parcelPosted (q : Quote) (k : Nat) (c : CurrentBlock) (offer : Bool) (s : State) : State :=
  let u := s.assignBag q.result.route q.result.wa
  let v := u.enqueue (.posted q.result.letter c.serial q.result.route (u.row q.result.route).seq q.result.wa)
  if offer then v.offerSlot k else v

/-- The LABEL record of a completion in which the parcel has its bag (R191). -/
def State.labelOf (q : Quote) (c : CurrentBlock) (s : State) : LabelRecord :=
  s.labelRecord q c.serial (s.row q.result.route).seq

/-- An item that enters changes no bag sequence. -/
theorem row_seq_offerItem (i : OwedItem) (route : Nat) (s : State) : ((s.offerItem i).row route).seq = (s.row route).seq := by
  unfold State.offerItem
  split
  · cases i with
    | bagnext r b =>
      show (((s.bags.rows.modify r _)[route]?).getD .reset).seq = ((s.bags.rows[route]?).getD .reset).seq
      rw [List.getElem?_modify]
      cases s.bags.rows[route]? with
      | none => rfl
      | some x =>
        simp only [Option.map_eq_map, Option.map_some, Option.getD_some]
        split <;> rfl
    | held k b | claim k b | join | holds k | spent k b | cutover v => rfl
  · rfl

theorem issueSerial_eq (k : Nat) (c : CurrentBlock) (s : State) :
    s.issueSerial k c =
      (((if c.next + 1 < 1000 then s.modifySlot k (Slot.issued c) else (s.modifySlot k (Slot.issued c)).dueOffer).testNeed
        k).reviewSupply k) := by
  have hblock : Config.blockSize = 1000 := rfl
  by_cases h : c.next + 1 < 1000
  · have hissued : Slot.issued c = fun x => { x with current := some { c with next := c.next + 1 } } :=
      funext fun _ => if_pos h
    rw [State.issueSerial, hblock, if_pos h, if_pos h, hissued]
  · have hissued : Slot.issued c = fun x => x.promote.oweSpent c.block := funext fun _ => if_neg h
    rw [State.issueSerial, hblock, if_neg h, if_neg h, hissued]

theorem carried_issueSerial (k : Nat) (c : CurrentBlock) (s : State) :
    (s.issueSerial k c).carried = s.carried.serialDrawn k c := by
  rw [issueSerial_eq, carried_reviewSupply, carried_testNeed]
  split <;> rfl

theorem issueSerial_due (k : Nat) (c : CurrentBlock) (s : State) :
    (s.issueSerial k c).link.nextId = s.link.nextId
      ∧ (s.issueSerial k c).scratch.offerDue = (s.scratch.offerDue || s.drawOwes k c)
      ∧ (s.issueSerial k c).scratch.serveDue = s.scratch.serveDue := by
  rw [issueSerial_eq]
  obtain ⟨hnext, hoffer, hserve⟩ := testNeed_due k
    (if c.next + 1 < 1000 then s.modifySlot k (Slot.issued c) else (s.modifySlot k (Slot.issued c)).dueOffer)
  obtain ⟨hnext', hoffer', hserve'⟩ := reviewSupply_sameDue k (State.testNeed k
    (if c.next + 1 < 1000 then s.modifySlot k (Slot.issued c) else (s.modifySlot k (Slot.issued c)).dueOffer))
  rw [hnext', hoffer', hserve', hnext, hoffer, hserve]
  unfold State.drawOwes
  by_cases h : c.next + 1 < 1000
  · simp [h]
  · simp [h]

/-- A completion, its serial drawn in a scratch of its own. -/
theorem drawSerial_spec (k : Nat) (c : CurrentBlock) (s : State) :
    (s.drawSerial k c).1.carried = s.carried.serialDrawn k c ∧ (s.drawSerial k c).2 = s.drawOwes k c
      ∧ SameDue (s.drawSerial k c).1 s := by
  obtain ⟨hnext, hoffer, hserve⟩ := issueSerial_due k c { s with scratch := { s.scratch with offerDue := false } }
  refine ⟨?_, hoffer, hnext, rfl, hserve⟩
  exact carried_issueSerial k c { s with scratch := { s.scratch with offerDue := false } }

/-- The model's completion up to its LABEL (R97). -/
def State.parcelled (q : Quote) (k : Nat) (c : CurrentBlock) (s : State) : State :=
  ((s.leaving q).drawSerial k c).1.parcelPosted q k c ((s.leaving q).drawOwes k c)

/-- A completion up to its LABEL, the LABEL, and the reference (R97). -/
theorem complete_eq (q : Quote) (commit : RequestRef) (k : Nat) (c : CurrentBlock) (s : State) :
    s.complete q commit k c =
      ((s.parcelled q k c).reply commit (.label ((s.parcelled q k c).labelOf q c))).dropRef q.result.bank := by
  have hdrawn := (drawSerial_spec k c (s.leaving q)).2.1
  have hrow : ∀ (items : List OwedItem) (v : State),
      ((items.foldl State.offerItem v).row q.result.route).seq = (v.row q.result.route).seq := by
    intro items
    induction items with
    | nil => exact fun _ => rfl
    | cons i items ih => exact fun v => (ih _).trans (row_seq_offerItem _ _ _)
  have hslot : ∀ v : State, ((v.offerSlot k).row q.result.route).seq = (v.row q.result.route).seq := fun v => by
    unfold State.offerSlot
    split
    · rfl
    · exact hrow _ v
  have hlabel : ∀ (v : State) (offer : Bool),
      ((v.parcelPosted q k c offer).row q.result.route).seq = ((v.assignBag q.result.route q.result.wa).row q.result.route).seq :=
    fun v offer => by
      unfold State.parcelPosted
      cases offer
      · rfl
      · exact hslot _
  simp only [State.parcelled, State.labelOf, hlabel, ← hdrawn]
  rfl

theorem carried_parcelPosted (q : Quote) (k : Nat) (c : CurrentBlock) (offer : Bool) (s : State) :
    (s.parcelPosted q k c offer).carried = s.carried.parcelPosted q k c offer := by
  unfold State.parcelPosted
  cases offer
  · rfl
  · exact carried_offerSlot _ k

/-- A quote has completed: in the words of the statements (R97). -/
def State.completed (q : Quote) (commit : RequestRef) (k : Nat) (c : CurrentBlock) (s : State) : State :=
  let u := ((s.leaving q).serialDrawn k c).parcelPosted q k c ((s.leaving q).drawOwes k c)
  (u.replied commit (.label (u.labelOf q c))).dropRef q.result.bank

theorem carried_complete (q : Quote) (commit : RequestRef) (k : Nat) (c : CurrentBlock) (s : State) :
    (s.complete q commit k c).carried = s.carried.completed q commit k c := by
  have hdrawn := (drawSerial_spec k c (s.leaving q)).1
  rw [complete_eq, carried_dropRef, carried_reply]
  unfold State.completed
  have hposted : (s.parcelled q k c).carried =
      ((s.carried.leaving q).serialDrawn k c).parcelPosted q k c ((s.carried.leaving q).drawOwes k c) := by
    rw [State.parcelled, carried_parcelPosted, hdrawn]
    rfl
  have hlabel : ∀ v : State, v.labelOf q c = v.carried.labelOf q c := fun _ => rfl
  rw [hlabel, hposted]

/-! ### What a completion keeps -/

theorem dropRef_sameDue (id : BankId) (s : State) : SameDue (s.dropRef id) s := by
  rw [dropRef_eq]
  simp [SameDue]

theorem offerItem_sameDue (s : State) (i : OwedItem) : SameDue (s.offerItem i) s := by
  unfold State.offerItem
  split
  · cases i <;> exact ⟨rfl, rfl, rfl⟩
  · exact ⟨rfl, rfl, rfl⟩

theorem foldl_offerItem_sameDue (items : List OwedItem) (s : State) : SameDue (items.foldl State.offerItem s) s := by
  induction items generalizing s with
  | nil => exact ⟨rfl, rfl, rfl⟩
  | cons i items ih =>
    have hfirst := offerItem_sameDue s i
    obtain ⟨hnext, hoffer, hserve⟩ := ih (s.offerItem i)
    exact ⟨hnext.trans hfirst.1, hoffer.trans hfirst.2.1, hserve.trans hfirst.2.2⟩

theorem offerOwed_sameDue (s : State) : SameDue s.offerOwed s := by
  unfold State.offerOwed
  split
  · exact foldl_offerItem_sameDue _ _
  · exact ⟨rfl, rfl, rfl⟩

theorem parcelPosted_sameDue (q : Quote) (k : Nat) (c : CurrentBlock) (offer : Bool) (s : State) :
    SameDue (s.parcelPosted q k c offer) s := by
  unfold State.parcelPosted State.offerSlot
  cases offer
  · exact ⟨rfl, rfl, rfl⟩
  · dsimp only
    rw [if_pos rfl]
    split
    · exact ⟨rfl, rfl, rfl⟩
    · exact foldl_offerItem_sameDue _ _

theorem parcelled_sameDue (q : Quote) (k : Nat) (c : CurrentBlock) (s : State) : SameDue (s.parcelled q k c) s := by
  obtain ⟨hnext, hoffer, hserve⟩ :=
    parcelPosted_sameDue q k c ((s.leaving q).drawOwes k c) ((s.leaving q).drawSerial k c).1
  obtain ⟨hnext', hoffer', hserve'⟩ := (drawSerial_spec k c (s.leaving q)).2.2
  exact ⟨hnext.trans hnext', hoffer.trans hoffer', hserve.trans hserve'⟩

theorem complete_sameDue (q : Quote) (commit : RequestRef) (k : Nat) (c : CurrentBlock) (s : State) :
    SameDue (s.complete q commit k c) s := by
  obtain ⟨hnext, hoffer, hserve⟩ := parcelled_sameDue q k c s
  obtain ⟨hnext', hoffer', hserve'⟩ := dropRef_sameDue q.result.bank
    ((s.parcelled q k c).reply commit (.label ((s.parcelled q k c).labelOf q c)))
  rw [complete_eq]
  exact ⟨hnext'.trans hnext, hoffer'.trans hoffer, hserve'.trans hserve⟩

namespace State.Telling

variable {P : Prop} {s : State}

/-- A quote that leaves leaves no other COMMIT to be answered. -/
theorem leaving (h : s.Telling P) (q : Quote) : (s.leaving q).Telling P := by
  refine ⟨h.foreign, fun hpending p hp => h.earlier hpending p (List.mem_of_mem_eraseP hp), fun hnot => ?_⟩
  show s.quotes.pendingOrder.erase q.number = []
  rw [h.idle hnot, List.erase_nil]

/-- A completion whose COMMIT was taken before. -/
theorem complete {q : Quote} (h : (s.leaving q).Telling P) {commit : RequestRef} (hcommit : commit.id < s.link.nextId) (k : Nat)
    (c : CurrentBlock) : (s.complete q commit k c).Telling P := by
  have hcleared : ({ s.leaving q with scratch := { s.scratch with offerDue := false } } : State).Telling P :=
    h.congr rfl rfl rfl
  have hdrawn : ((s.leaving q).drawSerial k c).1.Telling P := (hcleared.issueSerial k c).congr rfl rfl rfl
  have hposted : (s.parcelled q k c).Telling P := by
    have hbagged : ∀ f b, ((State.modifyRow q.result.route f ((s.leaving q).drawSerial k c).1).enqueue b).Telling P :=
      fun _ _ => hdrawn.congr rfl rfl rfl
    unfold State.parcelled State.parcelPosted
    dsimp only
    split
    · exact (hbagged _ _).offerSlot k
    · exact hbagged _ _
  rw [complete_eq, dropRef_eq]
  refine (hposted.reply (r := commit) ?_ (.label ((s.parcelled q k c).labelOf q c))).congr (by simp) (by simp) (by simp)
  rw [(parcelled_sameDue q k c s).1]
  exact hcommit

end State.Telling

/-! ### The judgement of an entry -/

/-- An entry that cannot complete. -/
theorem judgeEntry_not {s : State} {n : Nat} (h : ∀ q ref, s.quote? n = some q → q.state = .committing ref → s.completable q = none) :
    s.judgeEntry n = s := by
  unfold State.judgeEntry
  split
  · rfl
  · rename_i q hq
    split
    · rfl
    · rename_i ref hstate
      rw [h q ref hq hstate]

/-- An entry that can. -/
theorem judgeEntry_complete {s : State} {n : Nat} {q : Quote} {ref : RequestRef} {k : Nat} {c : CurrentBlock}
    (hq : s.quote? n = some q) (hstate : q.state = .committing ref) (hcan : s.completable q = some (k, c)) :
    s.judgeEntry n = s.complete q ref k c := by
  simp only [State.judgeEntry, hq, hstate, hcan]

/-- An entry is judged in one of these two ways (R96). -/
theorem judgeEntry_cases (s : State) (n : Nat) :
    (∀ q ref, s.quote? n = some q → q.state = .committing ref → s.completable q = none)
      ∨ ∃ q ref k c, s.quote? n = some q ∧ q.state = .committing ref ∧ s.completable q = some (k, c) := by
  rcases committing_or n s with hnone | ⟨q, ref, hq, hstate⟩
  · exact .inl fun q ref hq hstate => by rw [hnone q hq] at hstate; cases hstate
  · cases hcan : s.completable q with
    | none => exact .inl fun p ref hp _ => by rw [hq] at hp; cases hp; exact hcan
    | some kc => exact .inr ⟨q, ref, kc.1, kc.2, hq, hstate, hcan⟩

/-- What an entry's judgement carries over turns on what was carried over before. -/
theorem carried_judgeEntry (s : State) (n : Nat) : (s.judgeEntry n).carried = (s.carried.judgeEntry n).carried := by
  rcases judgeEntry_cases s n with hnot | ⟨q, ref, k, c, hq, hstate, hcan⟩
  · rw [judgeEntry_not hnot, judgeEntry_not (s := s.carried) hnot, carried_carried]
  · rw [judgeEntry_complete hq hstate hcan, judgeEntry_complete (s := s.carried) hq hstate hcan, carried_complete,
      carried_complete, carried_carried]

theorem judgeEntry_sameDue (s : State) (n : Nat) : SameDue (s.judgeEntry n) s := by
  rcases judgeEntry_cases s n with hnot | ⟨q, ref, k, c, hq, hstate, hcan⟩
  · rw [judgeEntry_not hnot]
    exact ⟨rfl, rfl, rfl⟩
  · rw [judgeEntry_complete hq hstate hcan]
    exact complete_sameDue q ref k c s

/-- The judgement of an entry in a state between two events is COMMIT_COMPLETION (R96). -/
theorem did_commitCompletion {P : Prop} {s : State} (hclear : s.scratch = .clear) {n : Nat} (h : (s.judgeEntry n).Telling P) :
    s.did (.commitCompletion n) = (s.judgeEntry n).carried := by
  obtain ⟨hnext, hoffer, hserve⟩ := judgeEntry_sameDue s n
  show (s.judgeEntry n).finish s.link.nextId .owedFirst = _
  rw [← hnext, finish_quiet _ _ _ (by rw [hoffer, hclear]; rfl) (by rw [hserve, hclear]; rfl), h.flush]

/-! ### Serving and the end of an event -/

namespace State.Telling

variable {P : Prop} {s : State}

/-- The judgement of an entry while COMMITs are pending. -/
theorem judgeEntry (h : s.Telling P) (hpending : P) (n : Nat) : (s.judgeEntry n).Telling P := by
  rcases judgeEntry_cases s n with hnot | ⟨q, ref, k, c, hq, hstate, hcan⟩
  · rwa [judgeEntry_not hnot]
  · rw [judgeEntry_complete hq hstate hcan]
    exact (h.leaving q).complete (h.earlier hpending q (quote?_spec hq).1 ref hstate) k c

/-- Entries judged one after another are COMMIT_COMPLETIONs one after another (R96). -/
theorem foldl_judgeEntry (h : s.Telling P) (hpending : P) (ns : List Nat) :
    (ns.foldl State.judgeEntry s).Telling P
      ∧ (ns.foldl State.judgeEntry s).carried = ns.foldl (fun u n => u.did (.commitCompletion n)) s.carried
      ∧ SameDue (ns.foldl State.judgeEntry s) s := by
  induction ns generalizing s with
  | nil => exact ⟨h, rfl, rfl, rfl, rfl⟩
  | cons n ns ih =>
    have hfirst := h.judgeEntry hpending n
    obtain ⟨hnext, hoffer, hserve⟩ := judgeEntry_sameDue s n
    obtain ⟨htelling, hcarried, hnext', hoffer', hserve'⟩ := ih hfirst
    have hdid : s.carried.did (.commitCompletion n) = (s.judgeEntry n).carried := by
      rw [did_commitCompletion (carried_scratch s) (h.carried.judgeEntry hpending n), ← carried_judgeEntry]
    refine ⟨htelling, ?_, hnext'.trans hnext, hoffer'.trans hoffer, hserve'.trans hserve⟩
    rw [List.foldl_cons, hcarried, List.foldl_cons, hdid]

/-- The serving of the pending order (R95, R96). -/
theorem serve (h : s.Telling P) : s.serve.Telling P ∧ s.serve.carried = s.carried.served ∧ SameDue s.serve s := by
  by_cases hpending : P
  · exact h.foldl_judgeEntry hpending _
  · have hnil := h.idle hpending
    have hserve : s.serve = s := by rw [State.serve, hnil, List.foldl_nil]
    rw [hserve, served_of_nil (s := s.carried) hnil]
    exact ⟨h, rfl, rfl, rfl, rfl⟩

/-- The serving, if the event made it due. -/
theorem serveIfDue (h : s.Telling P) :
    s.serveIfDue.Telling P ∧ s.serveIfDue.carried = (if s.scratch.serveDue then s.carried.served else s.carried)
      ∧ SameDue s.serveIfDue s := by
  unfold State.serveIfDue
  split
  · exact h.serve
  · exact ⟨h, rfl, rfl, rfl, rfl⟩

/-- The offering, if the event made it due. -/
theorem offerIfDue (h : s.Telling P) :
    s.offerIfDue.Telling P ∧ s.offerIfDue.carried = (if s.scratch.offerDue then s.carried.offered else s.carried)
      ∧ SameDue s.offerIfDue s := by
  unfold State.offerIfDue
  split
  · exact ⟨h.offerOwed, carried_offerOwed s, offerOwed_sameDue s⟩
  · exact ⟨h, rfl, rfl, rfl, rfl⟩

/-- The end of an event: the room goes to its two claimants, each if the event made it due (R95, R96, R157, R158). -/
theorem finish (h : s.Telling P) (order : RoomOrder) :
    s.finish s.link.nextId order = s.carried.roomTaken order s.scratch.serveDue s.scratch.offerDue := by
  unfold State.finish State.roomTaken
  cases order with
  | servingFirst =>
    obtain ⟨hserved, hcarried, hnext, hoffer, -⟩ := h.serveIfDue
    obtain ⟨hoffered, hcarried', hnext', -, -⟩ := hserved.offerIfDue
    rw [State.settleRoom, ← hnext, ← hnext', hoffered.flush, hcarried', hcarried, hoffer]
  | owedFirst =>
    obtain ⟨hoffered, hcarried, hnext, -, hserve⟩ := h.offerIfDue
    obtain ⟨hserved, hcarried', hnext', -, -⟩ := hoffered.serveIfDue
    rw [State.settleRoom, ← hnext, ← hnext', hserved.flush, hcarried', hcarried, hserve]

end State.Telling

end Sys2Proof.Machine
end

section
/-! The ends of a waiting RATE (R87 to R89). -/

namespace Sys2Proof.Machine

/-- A released RATE, at the end of the event: its outcome is stored and told to its own tag (R87, R89). -/
theorem finish_releaseWaiting {s : State} {w : WaitingRate} (hclear : s.scratch = .clear) (hw : s.quotes.waiting = some w)
    (own : Nat) (order : RoomOrder) :
    s.releaseWaiting.finish own order = s.clearWaiting.outcomeStored w.ref (s.compute w.body) := by
  have hrelease : s.releaseWaiting = s.clearWaiting.storeOutcome w.ref (s.compute w.body) := by
    simp only [State.releaseWaiting, hw]
    rfl
  have hreply : ∀ (t : State) (body : Reply), t.scratch = .clear →
      (t.reply w.ref body).finish own order = t.replied w.ref body := fun t _ ht => finish_produce own order _ t ht
  rw [hrelease]
  unfold State.storeOutcome State.outcomeStored
  cases s.compute w.body with
  | error reason => exact hreply _ _ hclear
  | ok result =>
    dsimp only
    rw [apply_ite (State.finish own order)]
    refine if_congr Iff.rfl (hreply _ _ hclear) (hreply _ _ ?_)
    rw [State.takeRef, State.setBank_scratch]
    exact hclear

/-- A refused RATE, at the end of the event (R88). -/
theorem finish_refuseWaiting {s : State} {w : WaitingRate} (hclear : s.scratch = .clear) (hw : s.quotes.waiting = some w)
    {reason : Reason} (hreason : scaleRefusal s.weighing.scale = some reason) :
    exec .waitingRateScaleRefusal s = .next (s.clearWaiting.replied w.ref (.refused reason none)) := by
  have hrefuse : s.refuseWaiting s.weighing.scale = s.clearWaiting.refuse w.ref reason := by
    simp only [State.refuseWaiting, hw, hreason]
  simp only [exec, execWaitingRateScaleRefusal, hreason, Option.isSome_some, if_true, hrefuse]
  exact congrArg _ (finish_produce _ _ _ s.clearWaiting hclear)

/-- Settles O35: the release by `finish_releaseWaiting`, the refusals by `finish_refuseWaiting`, the timer's as one reply. -/
theorem waitingRateEnds : Obligations.WaitingRateEnds := by
  intro w s hclear hw
  have hrefusal := fun {reason : Reason} => finish_refuseWaiting (reason := reason) hclear hw
  refine ⟨fun hscale => ?_, fun hscale => hrefusal (hscale ▸ rfl), fun hscale => hrefusal (hscale ▸ rfl),
    fun hscale => hrefusal (hscale ▸ rfl), ?_⟩
  · simp only [exec, execWaitingRateRelease, hscale, if_true, finish_releaseWaiting hclear hw]
    unfold State.outcomeStored
    cases s.compute w.body <;> rfl
  · simp only [exec, execSettleWaitTimerExpiry, hw]
    exact congrArg _ (finish_produce _ _ _ (s.elapse (3000 - w.timer)).clearWaiting hclear)

end Sys2Proof.Machine
end

section
/-! TRANSMIT_COMPLETION (R163). -/

namespace Sys2Proof.Machine

/-- What the completion tells the frame's owner, as the statement puts it (R115, R154). -/
theorem frameSent_eq (f : Frame) (s : State) :
    s.frameSent f =
      match f.body with
      | .claim letter b =>
        match s.slotOf letter with
        | none => s
        | some k => s.modifySlot k fun x => if x.claim = .queued b then { x with claim := .holdoff b 250 } else x
      | .join _ => if s.hall.state = .joining then s.onHall fun h => { h with census := some 0 } else s
      | _ => s := by
  unfold State.frameSent
  cases f.body with
  | join office =>
    dsimp only
    split
    · simp only [State.onHall, if_pos ‹s.hall.state = .joining›]
    · simp only [State.onHall, if_neg ‹¬ s.hall.state = .joining›]
  | claim letter b => rfl
  | holds _ _ | alive | held _ _ | spent _ _ | posted _ _ _ _ _ | bagnext _ _ | cutover _ => rfl

/-- A claim that goes from QUEUED into HOLDOFF owed no CLAIM before and owes none after (R114, R115). -/
theorem owedItems_claimSent (letter b : Nat) (s : State) : (s.claimSent letter b).owedItems = s.owedItems := by
  have hclaim : ∀ (j : Nat) (x : Slot),
      claimOf j (if x.claim = .queued b then { x with claim := .holdoff b Config.holdoffMs } else x : Slot) = claimOf j x :=
    fun j x => by
      split
      · rename_i hqueued
        simp only [claimOf, Slot.owedClaim, hqueued]
      · rfl
  unfold State.claimSent
  split
  · rfl
  · have hsame : ∀ x : Slot, ((if x.claim = .queued b then { x with claim := .holdoff b Config.holdoffMs } else x : Slot).owedHeld
        = x.owedHeld) ∧ (if x.claim = .queued b then { x with claim := .holdoff b Config.holdoffMs } else x : Slot).holdsOwed
        = x.holdsOwed ∧ (if x.claim = .queued b then { x with claim := .holdoff b Config.holdoffMs } else x : Slot).owedSpent
        = x.owedSpent := fun x => by split <;> exact ⟨rfl, rfl, rfl⟩
    rw [owedItems_eq, owedItems_eq, itemsOwed, itemsOwed]
    simp only [State.modifySlot, perIndex_modify_same claimOf hclaim, held_modify _ _ fun x => (hsame x).1,
      holds_modify _ _ fun x => (hsame x).2.1, spent_modify _ _ fun x => (hsame x).2.2]

/-- The word to the owner touches neither quotes, link nor scratch, and no item comes to be owed by it. -/
theorem frameSent_kept (f : Frame) (s : State) :
    (s.frameSent f).quotes = s.quotes ∧ (s.frameSent f).link = s.link ∧ (s.frameSent f).scratch = s.scratch
      ∧ (s.frameSent f).owedItems = s.owedItems := by
  unfold State.frameSent
  split
  · refine ⟨?_, ?_, ?_, owedItems_claimSent _ _ s⟩ <;> (unfold State.claimSent; split <;> rfl)
  · refine ⟨rfl, rfl, rfl, ?_⟩
    rw [owedItems_eq, owedItems_eq]
    simp only [State.onHall]
    split <;> rfl
  all_goals exact ⟨rfl, rfl, rfl, rfl⟩

/-- Nothing owed: an offering changes nothing. -/
theorem offered_of_nil {s : State} (h : s.owedItems = []) : s.offered = s := by
  show s.offerOwed = s
  rw [State.offerOwed, h, List.foldl_nil, ite_self]

/-- Settles O51: the frame's end makes an offering and a serving due, and the event ends by `State.Telling.finish`. -/
theorem transmitCompletionEndsTheFrame : Obligations.TransmitCompletionEndsTheFrame := by
  intro f acknowledged order s hclear hattempt u v
  have hv : u.frameSent f = v := frameSent_eq f u
  obtain ⟨hquotes, hlink, hscratch, howed⟩ := frameSent_kept f u
  rw [hv] at hquotes hlink hscratch howed
  have hvclear : v.scratch = .clear := hscratch.trans hclear
  have hdue : v.dueOffer.dueServe.scratch = { produced := [], offerDue := true, serveDue := true } := by
    rw [State.dueServe_scratch, State.dueOffer_scratch, hvclear]
    rfl
  have hexec : (RequestsEarlier s ∨ s.quotes.pendingOrder = []) →
      exec (.transmitCompletion acknowledged order) s = .next (v.roomTaken order true true) := fun hearlier => by
    have hvearlier : RequestsEarlier v ∨ v.quotes.pendingOrder = [] := by
      unfold RequestsEarlier
      rw [hquotes, hlink]
      exact hearlier
    obtain ⟨_, htelling⟩ := State.Telling.of_clear hvclear hvearlier
    have hdueTelling : v.dueOffer.dueServe.Telling _ := htelling.congr rfl rfl rfl
    have hfinish := hdueTelling.finish order
    have hcarried : v.dueOffer.dueServe.carried = v := carried_of_clear hvclear
    rw [hdue, hcarried] at hfinish
    have htransmitted : s.transmitted f acknowledged = v.dueOffer.dueServe :=
      congrArg (fun w : State => w.dueOffer.dueServe) hv
    have hnext : v.dueOffer.dueServe.link.nextId = s.link.nextId := congrArg Link.nextId hlink
    rw [← hfinish, hnext, ← htransmitted]
    simp only [exec, execTransmitCompletion, hattempt]
  refine ⟨fun hearlier => ?_, fun hitems hnone => ?_⟩
  · rw [hexec (.inl hearlier)]
    cases order <;> rfl
  · have hoffered : v.offered = v := offered_of_nil (howed.trans hitems)
    have hserved : v.served = v := served_of_nil (by rw [hquotes]; exact hnone)
    rw [hexec (.inr hnone)]
    cases order <;> simp only [State.roomTaken, if_true, hserved, hoffered]

end Sys2Proof.Machine
end

section
/-! What the re-evaluation of a supply state and the test of the need make of the slot they are about (R111 to R113). -/

namespace Sys2Proof.Machine

/-- A change of one entry is decided by what it makes of the entry there. -/
theorem modify_congr_at {α : Type} {l : List α} {k : Nat} {x : α} (hx : l[k]? = some x) {f g : α → α} (h : f x = g x) :
    l.modify k f = l.modify k g := by
  refine List.ext_getElem? fun j => ?_
  rw [List.getElem?_modify, List.getElem?_modify]
  by_cases hj : k = j
  · rw [← hj, hx]
    simp [h]
  · simp [hj]

/-- A slot changed twice is changed by both. -/
theorem modify_modify_slot (k : Nat) (f g : Slot → Slot) (s : State) :
    (s.modifySlot k f).modifySlot k g = s.modifySlot k fun x => g (f x) := by
  simp only [State.modifySlot, List.modify_modify_eq]
  rfl

/-- A slot changed to what it becomes. -/
theorem modifySlot_congr {k : Nat} {x : Slot} {s : State} (hx : s.alloc.slots[k]? = some x) {f g : Slot → Slot} (h : f x = g x) :
    s.modifySlot k f = s.modifySlot k g := by
  simp only [State.modifySlot, modify_congr_at hx h]

/-- The slot just changed. -/
theorem slot_modifySlot {k : Nat} {x : Slot} {s : State} (hx : s.alloc.slots[k]? = some x) (f : Slot → Slot) :
    (s.modifySlot k f).alloc.slots[k]? = some (f x) := by
  rw [slots_modifySlot, if_pos rfl, hx, Option.map_some]

/-! ### The re-evaluation -/

/-- A slot with the supply state of R111. -/
def Slot.resupply (x : Slot) : Slot := { x with supply := x.supplyOf }

/-- Of the allocator, a re-evaluation touches the slot's supply state alone (R111). -/
theorem alloc_resupplied (k : Nat) (s : State) :
    (s.resupplied k).alloc = (s.modifySlot k Slot.resupply).alloc := by
  cases hx : s.alloc.slots[k]? with
  | none =>
    rw [resupplied_none hx, State.modifySlot_alloc, List.modify_eq_self (List.getElem?_eq_none_iff.mp hx)]
  | some x =>
    have hslot : s.modifySlot k Slot.resupply = s.modifySlot k fun y => { y with supply := x.supplyOf } :=
      modifySlot_congr hx rfl
    rw [hslot]
    by_cases hexhausted : x.supplyOf = .exhausted ∧ x.supply ≠ .exhausted
    · rw [resupplied_exhausted hx hexhausted, turnedBack_frame]
      rfl
    · by_cases hlast : x.current = none ∨ ¬ (x.supplyOf = .last ∧ x.supply ≠ .last)
      · rw [resupplied_quiet hx hexhausted hlast]
      · obtain ⟨hcurrent, hlast⟩ := not_or.mp hlast
        obtain ⟨c, hcurrent⟩ := Option.ne_none_iff_exists'.mp hcurrent
        rw [resupplied_last hx hcurrent (not_not.mp hlast)]
        rfl

/-- The slot after a re-evaluation. -/
theorem slot_resupplied {k : Nat} {x : Slot} {s : State} (hx : s.alloc.slots[k]? = some x) :
    (s.resupplied k).alloc.slots[k]? = some x.resupply := by
  rw [alloc_resupplied, slot_modifySlot hx]

/-- The other slots stand. -/
theorem slot_resupplied_other {k j : Nat} (s : State) (h : k ≠ j) :
    (s.resupplied k).alloc.slots[j]? = s.alloc.slots[j]? := by
  rw [alloc_resupplied, slots_modifySlot, if_neg h]

/-! ### The test of the need -/

/-- A slot for which a claim has been made where it is needed and a mark is free, in a JOINED station (R112, R113). -/
def Slot.sought (lowWater : Nat) (x : Slot) : Slot :=
  if x.needsClaim lowWater then
    match x.search with
    | none => x
    | some b => { x.setMark b with claim := .owed b }
  else x

/-- The slot after a test of the need in a JOINED station, but for its supply state. -/
theorem slot_needTested {k : Nat} {x : Slot} {s : State} (hx : s.alloc.slots[k]? = some x) (hjoined : s.hall.state = .joined) :
    ∃ v, (s.needTested k).alloc.slots[k]? = some { x.sought s.lowWater with supply := v } := by
  unfold Slot.sought
  split
  · rename_i hneed
    split
    · rename_i hsearch
      rw [needTested_full hx ⟨hjoined, hneed⟩ hsearch]
      exact ⟨_, slot_resupplied hx⟩
    · rename_i b hsearch
      rw [needTested_chosen hx ⟨hjoined, hneed⟩ hsearch]
      exact ⟨_, slot_resupplied (slot_modifySlot hx _)⟩
  · rename_i hneed
    rw [needTested_unneeded hx fun h => hneed h.2]
    exact ⟨x.supply, hx⟩

/-- A station that is not JOINED makes no claim (R112). -/
theorem needTested_of_not_joined {s : State} (h : s.hall.state ≠ .joined) (k : Nat) : s.needTested k = s := by
  rw [State.needTested, if_neg h]

/-- The other slots stand. -/
theorem slot_needTested_other {k j : Nat} (s : State) (h : k ≠ j) :
    (s.needTested k).alloc.slots[j]? = s.alloc.slots[j]? := by
  cases hx : s.alloc.slots[k]? with
  | none => rw [needTested_none hx]
  | some x =>
    by_cases hneed : s.hall.state = .joined ∧ x.needsClaim s.lowWater = true
    · cases hsearch : x.search with
      | none => rw [needTested_full hx hneed hsearch, slot_resupplied_other s h]
      | some b => rw [needTested_chosen hx hneed hsearch, slot_resupplied_other _ h, slots_modifySlot, if_neg h]
    · rw [needTested_unneeded hx hneed]

/-- Of the allocator, a test of the need touches the slots alone. -/
theorem alloc_needTested (k : Nat) (s : State) :
    (s.needTested k).alloc = { s.alloc with slots := (s.needTested k).alloc.slots } := by
  conv_lhs => rw [needTested_frame]

/-- A claim that is made was not there before, and its block was free (R112, R113). -/
theorem chooses_spec {k : Nat} {s : State} (h : s.chooses k = true) :
    ∃ x b, s.alloc.slots[k]? = some x ∧ s.hall.state = .joined ∧ x.needsClaim s.lowWater = true ∧ x.search = some b
      ∧ x.claim = .none := by
  obtain ⟨x, hx, hchosen⟩ := (Option.any_eq_true _ _).mp h
  simp only [Bool.and_eq_true, decide_eq_true_eq] at hchosen
  obtain ⟨⟨hjoined, hneed⟩, hsearch⟩ := hchosen
  obtain ⟨b, hsearch⟩ := Option.isSome_iff_exists.mp hsearch
  obtain ⟨-, -, hclaim, -⟩ := (needsClaim_iff x _).mp hneed
  exact ⟨x, b, hx, hjoined, hneed, hsearch, hclaim⟩

/-- The claim of a slot for which one is made (R113). -/
theorem claim_needTested_chosen {k : Nat} {s : State} (h : s.chooses k = true) :
    ∃ b, ((s.needTested k).alloc.slots[k]?).map Slot.claim = some (.owed b) := by
  obtain ⟨x, b, hx, hjoined, hneed, hsearch, -⟩ := chooses_spec h
  rw [needTested_chosen hx ⟨hjoined, hneed⟩ hsearch, slot_resupplied (slot_modifySlot hx _)]
  exact ⟨b, rfl⟩

/-- Where none is made the claim stands. -/
theorem claim_needTested_not {k : Nat} {s : State} (h : s.chooses k = false) :
    ((s.needTested k).alloc.slots[k]?).map Slot.claim = (s.alloc.slots[k]?).map Slot.claim := by
  cases hx : s.alloc.slots[k]? with
  | none => rw [needTested_none hx, hx]
  | some x =>
    by_cases hneed : s.hall.state = .joined ∧ x.needsClaim s.lowWater = true
    · cases hsearch : x.search with
      | none =>
        rw [needTested_full hx hneed hsearch, slot_resupplied hx]
        rfl
      | some b => simp [State.chooses, hx, hneed, hsearch] at h
    · rw [needTested_unneeded hx hneed, hx]

end Sys2Proof.Machine
end

section
/-! The search for a free block (R113). -/

namespace Sys2Proof.Machine

/-- In a list in the order of an asymmetric relation, the first entry that meets a condition is the one before which none does. -/
theorem find?_eq_some_iff_first {α : Type} {p : α → Bool} {r : α → α → Prop} (hasymm : ∀ x y, r x y → ¬ r y x) {l : List α}
    (h : l.Pairwise r) (a : α) : l.find? p = some a ↔ a ∈ l ∧ p a = true ∧ ∀ x ∈ l, r x a → p x = false := by
  induction l with
  | nil => simp
  | cons y l ih =>
    obtain ⟨hfirst, hrest⟩ := List.pairwise_cons.mp h
    cases hy : p y with
    | true =>
      rw [List.find?_cons_of_pos hy, Option.some_inj]
      constructor
      · rintro rfl
        refine ⟨List.mem_cons_self, hy, fun x hx hr => ?_⟩
        rcases List.mem_cons.mp hx with rfl | hx
        · exact absurd hr (hasymm _ _ hr)
        · exact absurd hr (hasymm _ _ (hfirst x hx))
      · rintro ⟨ha, -, hnone⟩
        rcases List.mem_cons.mp ha with rfl | ha
        · rfl
        · rw [hnone y List.mem_cons_self (hfirst a ha)] at hy
          cases hy
    | false =>
      rw [List.find?_cons_of_neg (by simp [hy]), ih hrest]
      constructor
      · rintro ⟨ha, hp, hnone⟩
        refine ⟨List.mem_cons_of_mem y ha, hp, fun x hx hr => ?_⟩
        rcases List.mem_cons.mp hx with rfl | hx
        · exact hy
        · exact hnone x hx hr
      · rintro ⟨ha, hp, hnone⟩
        refine ⟨(List.mem_cons.mp ha).resolve_left fun h => ?_, hp, fun x hx => hnone x (List.mem_cons_of_mem y hx)⟩
        rw [← h, hp] at hy
        cases hy

/-- The places of a window of `count` blocks in the order of a search that begins at place `d` (R113). -/
def searchOrder (count d : Nat) : List Nat := (List.range count).drop d ++ (List.range count).take d

/-- Of two places the search comes to the first sooner. -/
def searchedSooner (d m n : Nat) : Prop := (d ≤ m ∧ (m < n ∨ n < d)) ∨ (m < n ∧ n < d)

/-- The search comes to each place of the window. -/
theorem mem_searchOrder (count d n : Nat) : n ∈ searchOrder count d ↔ n < count := by
  rw [searchOrder, List.mem_append, or_comm, ← List.mem_append, List.take_append_drop, List.mem_range]

/-- The places of the part that the search takes first lie at or after its beginning. -/
theorem mem_drop_range {count d n : Nat} (h : n ∈ (List.range count).drop d) : d ≤ n := by
  obtain ⟨i, hi, rfl⟩ := List.mem_drop_iff_getElem.mp h
  simp

/-- The places of the other part lie before it. -/
theorem mem_take_range {count d n : Nat} (h : n ∈ (List.range count).take d) : n < d := by
  obtain ⟨i, hi, rfl⟩ := List.mem_take_iff_getElem.mp h
  simp only [List.getElem_range]
  omega

/-- The search takes the places in its order. -/
theorem pairwise_searchOrder (count d : Nat) : (searchOrder count d).Pairwise (searchedSooner d) := by
  have hrange : (List.range count).Pairwise (· < ·) := List.pairwise_lt_range
  refine List.pairwise_append.mpr ⟨?_, ?_, fun m hm n hn => .inl ⟨mem_drop_range hm, .inr (mem_take_range hn)⟩⟩
  · exact (hrange.sublist (List.drop_sublist _ _)).imp_of_mem fun hm _ hlt => .inl ⟨mem_drop_range hm, .inl hlt⟩
  · exact (hrange.sublist (List.take_sublist _ _)).imp_of_mem fun _ hn hlt => .inr ⟨hlt, mem_take_range hn⟩

/-- The search of a slot goes through the places of its window (R113). -/
theorem search_eq (sl : Slot) :
    sl.search = ((searchOrder sl.count (sl.cursor - sl.first)).find? fun n => !sl.marks.getD n true).map (sl.first + ·) := rfl

/-- The mark at a place of the window. -/
theorem marked_place {sl : Slot} (hlength : sl.marks.length = sl.count) {n : Nat} (hn : n < sl.count) :
    sl.marks.getD n true = sl.marked (sl.first + n) := by
  have hn' : n < sl.marks.length := hlength ▸ hn
  simp [Slot.marked, List.getD, hn']

/-- The search finds the first free block of the window in its order (R113). -/
theorem search_eq_some_iff {sl : Slot} (hlength : sl.marks.length = sl.count) (b : Nat) :
    sl.search = some b ↔ (sl.first ≤ b ∧ b < sl.first + sl.count) ∧ sl.marked b = false
      ∧ ∀ x, sl.first ≤ x ∧ x < sl.first + sl.count →
          (sl.cursor ≤ x ∧ (x < b ∨ b < sl.cursor)) ∨ (x < b ∧ b < sl.cursor) → sl.marked x = true := by
  have hasymm : ∀ x y, searchedSooner (sl.cursor - sl.first) x y → ¬ searchedSooner (sl.cursor - sl.first) y x := by
    unfold searchedSooner
    omega
  rw [search_eq, Option.map_eq_some_iff]
  simp only [find?_eq_some_iff_first hasymm (pairwise_searchOrder _ _), mem_searchOrder]
  constructor
  · rintro ⟨n, ⟨hn, hfree, hsooner⟩, rfl⟩
    rw [marked_place hlength hn, Bool.not_eq_true'] at hfree
    refine ⟨⟨by omega, by omega⟩, hfree, fun x hx hbefore => ?_⟩
    have hplace := hsooner (x - sl.first) (by omega) (by unfold searchedSooner; omega)
    rw [marked_place hlength (by omega), show sl.first + (x - sl.first) = x by omega] at hplace
    simpa using hplace
  · rintro ⟨hb, hfree, hsooner⟩
    refine ⟨b - sl.first, ⟨by omega, ?_, fun m hm hbefore => ?_⟩, by omega⟩
    · rw [marked_place hlength (by omega), show sl.first + (b - sl.first) = b by omega, hfree]
      rfl
    · rw [marked_place hlength hm]
      unfold searchedSooner at hbefore
      rw [hsooner (sl.first + m) ⟨by omega, by omega⟩ (by omega)]
      rfl

/-- The search finds none when every mark is set (R113). -/
theorem search_eq_none_iff {sl : Slot} (hlength : sl.marks.length = sl.count) :
    sl.search = none ↔ ∀ b, sl.first ≤ b ∧ b < sl.first + sl.count → sl.marked b = true := by
  rw [search_eq, Option.map_eq_none_iff, List.find?_eq_none]
  simp only [mem_searchOrder, Bool.not_eq_true', Bool.not_eq_false]
  constructor
  · intro h b hb
    have hplace := h (b - sl.first) (by omega)
    rwa [marked_place hlength (by omega), show sl.first + (b - sl.first) = b by omega] at hplace
  · intro h n hn
    rw [marked_place hlength hn]
    exact h _ ⟨by omega, by omega⟩

end Sys2Proof.Machine
end

section
/-! The census, silence and liveness timers (R154, R166, R167). -/

namespace Sys2Proof.Machine

/-! ### Time -/

/-- Time makes no COMMIT and no waiting RATE later than it was (R86, R94). -/
theorem requestsEarlier_elapse {s : State} (h : RequestsEarlier s) (d : Nat) : RequestsEarlier (s.elapse d) := by
  obtain ⟨hwaiting, hcommits⟩ := h
  refine ⟨fun w hw => ?_, fun q hq ref hstate => ?_⟩
  · obtain ⟨w', hw', rfl⟩ := Option.map_eq_some_iff.mp hw
    exact hwaiting w' hw'
  · obtain ⟨p, hp, rfl⟩ := List.mem_map.mp hq
    refine hcommits p hp ref ?_
    rw [← hstate]
    unfold Quote.elapse
    cases hp' : p.state <;> simp [hp']

/-- The same of an event that time begins. -/
theorem telling_elapse {s : State} (hclear : s.scratch = .clear) (h : RequestsEarlier s ∨ s.quotes.pendingOrder = []) (d : Nat) :
    ∃ pending, (s.elapse d).Telling pending :=
  State.Telling.of_clear hclear (h.imp_left fun h => requestsEarlier_elapse h d)

/-! ### The census -/

/-- From `u` to `v` claims have been made, and no other claim has changed; `made` tells whether there are any (R113). -/
structure ClaimsMade (u v : State) (made : Bool) : Prop where
  claims : ∀ j : Nat, (v.alloc.slots[j]?).map Slot.claim = (u.alloc.slots[j]?).map Slot.claim
    ∨ ((u.alloc.slots[j]?).map Slot.claim = some .none ∧ ∃ b, (v.alloc.slots[j]?).map Slot.claim = some (.owed b))
  made_iff : made = true ↔ v.alloc.slots.map Slot.claim ≠ u.alloc.slots.map Slot.claim

/-- A test of the need makes at most a claim. -/
theorem ClaimsMade.needTested {u v : State} {made : Bool} (h : ClaimsMade u v made) (k : Nat) :
    ClaimsMade u (v.needTested k) (made || v.chooses k) := by
  have hother : ∀ j, k ≠ j → ((v.needTested k).alloc.slots[j]?).map Slot.claim = (v.alloc.slots[j]?).map Slot.claim :=
    fun j hj => by rw [slot_needTested_other v hj]
  cases hchosen : v.chooses k with
  | false =>
    have hsame : ∀ j : Nat, ((v.needTested k).alloc.slots[j]?).map Slot.claim = (v.alloc.slots[j]?).map Slot.claim := fun j => by
      by_cases hj : k = j
      · rw [← hj, claim_needTested_not hchosen]
      · exact hother j hj
    have hmap : (v.needTested k).alloc.slots.map Slot.claim = v.alloc.slots.map Slot.claim :=
      List.ext_getElem? fun j => by rw [List.getElem?_map, List.getElem?_map, hsame]
    exact ⟨fun j => by rw [hsame]; exact h.claims j, by rw [hmap, Bool.or_false]; exact h.made_iff⟩
  | true =>
    obtain ⟨x, -, hx, -, -, -, hnone⟩ := chooses_spec hchosen
    obtain ⟨b, hb⟩ := claim_needTested_chosen hchosen
    have hbefore : (u.alloc.slots[k]?).map Slot.claim = some .none := by
      have hv : (v.alloc.slots[k]?).map Slot.claim = some .none := by rw [hx, Option.map_some, hnone]
      rcases h.claims k with hsame | ⟨hu, -⟩
      · rw [← hsame, hv]
      · exact hu
    refine ⟨fun j => ?_, ?_⟩
    · by_cases hj : k = j
      · exact .inr ⟨hj ▸ hbefore, b, hj ▸ hb⟩
      · rw [hother j hj]
        exact h.claims j
    · refine iff_of_true (by simp) fun hsame => ?_
      have hk := congrArg (fun l => l[k]?) hsame
      simp only [List.getElem?_map, hb, hbefore, Option.some_inj] at hk
      cases hk

/-- The needs of a JOINED station's slots tested in turn, carried over: the statements' word, and whether a claim was made. -/
theorem carried_foldl_testNeed (ks : List Nat) {s : State} (hjoined : s.hall.state = .joined) {u : State} {made : Bool}
    (hmade : ClaimsMade u s.carried made) (hdue : s.scratch.offerDue = made) {P : Prop} (htelling : s.Telling P) :
    let t := ks.foldl (fun t k => t.testNeed k) s
    t.Telling P ∧ t.carried = ks.foldl (fun v k => v.sought k) s.carried ∧ t.link.nextId = s.link.nextId
      ∧ ClaimsMade u t.carried t.scratch.offerDue := by
  induction ks generalizing s made with
  | nil => exact ⟨htelling, rfl, rfl, hdue ▸ hmade⟩
  | cons k ks ih =>
    obtain ⟨hnext, hoffer, -⟩ := testNeed_due k s
    have hsought : s.carried.needTested k = s.carried.sought k := if_pos hjoined
    have hcarried := (carried_testNeed s k).trans hsought
    have hstate : (s.testNeed k).hall.state = .joined := by
      have hhall : (s.testNeed k).carried.hall = s.carried.hall := by rw [carried_testNeed, needTested_frame]
      exact (congrArg Hall.state hhall).trans hjoined
    have hchooses : s.carried.chooses k = s.chooses k := rfl
    have hmade' : ClaimsMade u (s.testNeed k).carried (made || s.chooses k) := by
      rw [carried_testNeed, ← hchooses]
      exact hmade.needTested k
    obtain ⟨htelling', hcarried', hnext', hmade''⟩ := ih hstate hmade' (by rw [hoffer, hdue]) (htelling.testNeed k)
    exact ⟨htelling', by rw [List.foldl_cons, hcarried', hcarried, List.foldl_cons], hnext'.trans hnext, hmade''⟩

/-- The needs tested in turn and the serving, at the end of their event: the claims made are offered (R112, R113, R157). -/
theorem finish_foldl_testNeed (ks : List Nat) {e t : State} (hjoined : t.hall.state = .joined)
    (hclaims : t.alloc.slots = e.alloc.slots) (hdue : t.scratch.offerDue = false) {P : Prop} (h : t.Telling P)
    (order : RoomOrder) :
    let v := ks.foldl (fun u k => u.sought k) t.carried
    (ks.foldl (fun u k => u.testNeed k) t).dueServe.finish t.link.nextId order =
      v.roomTaken order true (decide (v.alloc.slots.map Slot.claim ≠ e.alloc.slots.map Slot.claim)) := by
  have hnone : ClaimsMade e t.carried false :=
    ⟨fun _ => .inl (by rw [carried_alloc, hclaims]), iff_of_false (by simp) (not_not_intro (by rw [carried_alloc, hclaims]))⟩
  obtain ⟨htested, hcarried, hnext, -, hmade⟩ := carried_foldl_testNeed ks hjoined hnone hdue h
  intro v
  have hserved : (ks.foldl (fun u k => u.testNeed k) t).dueServe.Telling P := htested.congr rfl rfl rfl
  have hoffer : (ks.foldl (fun u k => u.testNeed k) t).scratch.offerDue =
      decide (v.alloc.slots.map Slot.claim ≠ e.alloc.slots.map Slot.claim) := by
    rw [Bool.eq_iff_iff, decide_eq_true_iff, hmade, hcarried]
  have hdueServe : ∀ u : State, u.dueServe.carried = u.carried ∧ u.dueServe.scratch.serveDue = true
      ∧ u.dueServe.scratch.offerDue = u.scratch.offerDue := fun _ => ⟨rfl, rfl, rfl⟩
  obtain ⟨hsame, hserve, hsameOffer⟩ := hdueServe (ks.foldl (fun u k => u.testNeed k) t)
  have hfinish := hserved.finish order
  rwa [hserve, hsameOffer, hoffer, hsame, hcarried, State.dueServe_link, hnext] at hfinish

/-- The station is JOINED as the census ends (R154). -/
def State.joinedNow (e : State) : State := e.onHall fun h => { h with census := none, state := .joined }

/-- The JOINED notice of that event (R154). -/
def State.joinedNotice (e : State) : Notice := .joined (e.hall.peers.countP fun p => decide (p.liveness = .live))

theorem endCensus_eq (e : State) :
    e.endCensus = ((List.range 8).foldl (fun u k => u.testNeed k) (e.joinedNow.notify e.joinedNotice)).dueServe := by
  have hlive : e.joinedNow.hall.livePeers = e.hall.peers.countP fun p => decide (p.liveness = .live) :=
    List.countP_eq_length_filter.symm
  rw [State.joinedNotice, ← hlive]
  rfl

/-- The end of the census at the end of its event (R154). -/
theorem finish_endCensus {P : Prop} {e : State} (hclear : e.scratch = .clear) (h : e.Telling P) (order : RoomOrder) :
    e.endCensus.finish e.link.nextId order =
      State.roomTaken order true
        (decide (((List.range 8).foldl (fun u k => u.sought k) (e.joinedNow.noticed e.joinedNotice)).alloc.slots.map Slot.claim
          ≠ e.alloc.slots.map Slot.claim))
        ((List.range 8).foldl (fun u k => u.sought k) (e.joinedNow.noticed e.joinedNotice)) := by
  have hbegun : e.joinedNow.Telling P := h.congr rfl rfl rfl
  have hnotified := hbegun.notify e.joinedNotice
  have hjoined : (e.joinedNow.notify e.joinedNotice).carried = e.joinedNow.noticed e.joinedNotice := by
    rw [carried_notify, carried_of_clear (s := e.joinedNow) hclear]
  rw [endCensus_eq, ← hjoined]
  generalize List.range 8 = ks
  exact finish_foldl_testNeed ks (t := e.joinedNow.notify e.joinedNotice) rfl rfl (congrArg Scratch.offerDue hclear) hnotified order

/-- Settles O52: the search by `search_eq_some_iff`, the census by `exec_censusTimerExpiry`, the two other timers by their
definitions. -/
theorem hallTimersExpire : Obligations.HallTimersExpire := by
  refine ⟨fun sl hlength => ⟨search_eq_some_iff hlength, search_eq_none_iff hlength⟩, fun s hclear =>
    ⟨fun n order hearlier hcensus => ?_, fun hsends => ?_, fun station p hp hlive => ?_⟩⟩
  · intro e joined v offer
    obtain ⟨P, htelling⟩ := telling_elapse hclear hearlier (1000 - n)
    have hexec : exec (.censusTimerExpiry order) s =
        .next (v.roomTaken order true (decide (v.alloc.slots.map Slot.claim ≠ e.alloc.slots.map Slot.claim))) := by
      have hv : v = (List.range 8).foldl (fun u k => u.sought k) (e.joinedNow.noticed e.joinedNotice) := rfl
      have hfinish := finish_endCensus (e := e) hclear htelling order
      rw [← hv] at hfinish
      clear_value v
      simp only [exec, execCensusTimerExpiry, hcensus, Config.censusMs]
      exact congrArg Host.Outcome.next hfinish
    clear_value v
    rw [hexec]
    cases order <;> simp only [State.roomTaken, offer, decide_eq_true_eq, ne_eq, ite_not, if_true]
  · intro e
    let s1 : State := e.onHall fun h => { h with silence := 0 }
    have hwaits : (s1.isQueued .alive = false ∧ admits s1.hall.queue .low = true) ↔
        ¬ ((∃ q ∈ s.hall.queue, q.frame.body = .alive) ∨ 8 ≤ s.hall.queue.length) := by
      have hqueue : s1.hall.queue = s.hall.queue := rfl
      simp [State.isQueued, hqueue, admits, FrameClass.level, Config.lowLevel]
    have hexec : exec .silenceTimerExpiry s =
        .next (if s1.isQueued .alive = false ∧ admits s1.hall.queue .low = true then s1.enqueue .alive else s1) := by
      simp only [exec, execSilenceTimerExpiry, hsends, if_true, Config.silenceMs]
      rfl
    rw [hexec]
    by_cases hbusy : (∃ q ∈ s.hall.queue, q.frame.body = .alive) ∨ 8 ≤ s.hall.queue.length
    · rw [if_pos hbusy, if_neg fun h => hwaits.mp h hbusy]
    · rw [if_neg hbusy, if_pos (hwaits.mpr hbusy)]
      rfl
  · simp only [exec, execLivenessSilent, hp, hlive, if_true, Config.silentMs]

end Sys2Proof.Machine
end

section
/-! A holdoff that runs out (R119). -/

namespace Sys2Proof.Machine

/-- A notice and a change of a slot do not meet. -/
theorem modifySlot_noticed (k : Nat) (f : Slot → Slot) (n : Notice) (s : State) :
    (s.noticed n).modifySlot k f = (s.modifySlot k f).noticed n := rfl

/-- The slot that has won its claimed block, but for its supply state (R119). -/
def Slot.won (b : Nat) (x : Slot) : Slot :=
  if x.current.isNone then { x with current := some { block := b, next := 0 }, claim := .none, cursor := x.after b }
  else { x with reserve := some b, claim := .none, cursor := x.after b }

/-- What winning a claim carries over (R119). -/
theorem carried_winClaim {k : Nat} {x : Slot} {s : State} (hx : s.alloc.slots[k]? = some x) (b : Nat) :
    (s.winClaim k b).carried =
      (((s.carried.modifySlot k (Slot.won b)).noticed
        (.blockWon x.letter b (if x.current.isNone then .current else .reserve))).resupplied k).needTested k := by
  have hdue : ∀ t : State, (if x.current.isNone then t.dueServe else t).carried = t.carried := fun t => by
    split <;> rfl
  simp only [State.winClaim, hx]
  rw [hdue, carried_testNeed, carried_reviewSupply, carried_notify]
  rfl

/-- Winning a claim makes a serving due when the block became current, and no offering where no claim is made (R95, R119). -/
theorem winClaim_due {k : Nat} {x : Slot} {s : State} (hx : s.alloc.slots[k]? = some x) (b : Nat)
    (hunneeded : (x.won b).resupply.needsClaim s.lowWater = false) :
    (s.winClaim k b).link.nextId = s.link.nextId ∧ (s.winClaim k b).scratch.offerDue = s.scratch.offerDue
      ∧ (s.winClaim k b).scratch.serveDue = (s.scratch.serveDue || x.current.isNone) := by
  let n : Notice := .blockWon x.letter b (if x.current.isNone then .current else .reserve)
  let u : State := ((s.modifySlot k (Slot.won b)).notify n).reviewSupply k
  have hwon : s.winClaim k b = if x.current.isNone then (u.testNeed k).dueServe else u.testNeed k := by
    simp only [State.winClaim, hx]
    rfl
  obtain ⟨hnext, hoffer, hserve⟩ := testNeed_due k u
  obtain ⟨hnext', hoffer', hserve'⟩ := reviewSupply_sameDue k ((s.modifySlot k (Slot.won b)).notify n)
  have hchooses : u.chooses k = false := by
    have hslot : u.carried.alloc.slots[k]? = some (x.won b).resupply := by
      rw [carried_reviewSupply]
      exact slot_resupplied (slot_modifySlot hx _)
    have hwater : u.carried.lowWater = s.lowWater := by
      rw [carried_reviewSupply, resupplied_frame, carried_notify]
      rfl
    have hsame : u.chooses k = u.carried.chooses k := rfl
    rw [hsame, State.chooses, hslot, Option.any_some, hwater, hunneeded, Bool.and_false, Bool.false_and]
  rw [hchooses, Bool.or_false] at hoffer
  rw [hwon]
  cases x.current.isNone
  · exact ⟨hnext.trans hnext', hoffer.trans hoffer', (hserve.trans hserve').trans (Bool.or_false _).symm⟩
  · exact ⟨hnext.trans hnext', hoffer.trans hoffer', (Bool.or_true _).symm⟩

/-- Settles O41: the claim is won in a state that time has brought to the end of the holdoff; the event ends by
`State.Telling.finish`. -/
theorem holdoffExpiryWinsTheBlock : Obligations.HoldoffExpiryWinsTheBlock := by
  intro k b remaining sl cfg order s hclear hearlier hcfg hwater hsl henabled hclaim hreserve current y won told
  obtain ⟨P, htelling⟩ := telling_elapse hclear hearlier remaining
  let e : State := s.elapse remaining
  let x : Slot := { sl with claim := sl.claim.elapse remaining }
  have hx : e.alloc.slots[k]? = some x := by rw [elapse_slots, hsl]; rfl
  have hlow : e.lowWater = cfg.lowWater := by simp [State.lowWater, e, hcfg]
  have hy : (x.won b).resupply = y := by
    rw [Slot.resupply, supplyOf_table]
    cases hcurrent : sl.current with
    | none => simp [Slot.won, x, y, current, hcurrent, henabled, hreserve, Slot.after]
    | some c => simp [Slot.won, x, y, current, hcurrent, henabled, Slot.after]
  have hunneeded : (x.won b).resupply.needsClaim e.lowWater = false := by
    rw [hy, hlow, Bool.eq_false_iff]
    intro hneed
    obtain ⟨-, hfree, -, hleft⟩ := (needsClaim_iff y _).mp hneed
    cases hcurrent : sl.current with
    | none =>
      simp [y, current, hcurrent] at hleft
      omega
    | some c => simp [y, hcurrent] at hfree
  let u : State := (e.modifySlot k (Slot.won b)).noticed
    (.blockWon sl.letter b (if sl.current.isNone then .current else .reserve))
  have hu : u.alloc.slots[k]? = some (x.won b) := slot_modifySlot hx _
  have hcurrent : (x.won b).current = some current := congrArg Slot.current hy
  have hletter : (x.won b).letter = sl.letter := by
    show (x.won b).resupply.letter = _
    rw [hy]
  have hsupply : (x.won b).supply = sl.supply := by
    unfold Slot.won
    split <;> rfl
  have hsupplyOf : (x.won b).supplyOf = y.supply := congrArg Slot.supply hy
  have hwon : (u.modifySlot k fun z => { z with supply := (x.won b).supplyOf }) = won := by
    rw [modifySlot_noticed, modify_modify_slot]
    exact congrArg (State.noticed _) (modifySlot_congr hx hy)
  have htold : u.resupplied k = told := by
    by_cases hlast : y.supply = .last ∧ sl.supply ≠ .last
    · rw [resupplied_last hu hcurrent (by rw [hsupplyOf, hsupply]; exact hlast), hwon, hletter]
      exact (if_pos hlast).symm
    · have hexhausted : y.supply ≠ .exhausted := by
        simp only [y]
        split <;> exact Supply.noConfusion
      rw [resupplied_quiet hu (by rw [hsupplyOf]; exact fun h => hexhausted h.1) (by rw [hsupplyOf, hsupply]; exact .inr hlast),
        hwon]
      exact (if_neg hlast).symm
  have hcarried : (e.winClaim k b).carried = told := by
    have hslot : (u.resupplied k).alloc.slots[k]? = some (x.won b).resupply := slot_resupplied hu
    have hlowWater : (u.resupplied k).lowWater = e.lowWater := by
      rw [resupplied_frame]
      rfl
    rw [carried_winClaim hx, carried_of_clear (s := e) hclear, ← htold]
    exact needTested_unneeded hslot fun h => by rw [hlowWater, hunneeded] at h; cases h.2
  obtain ⟨hnext, hoffer, hserve⟩ := winClaim_due hx b hunneeded
  have hfinish := (htelling.winClaim k b).finish order
  have hdue : e.scratch.offerDue = false ∧ e.scratch.serveDue = false := by rw [show e.scratch = .clear from hclear]; exact ⟨rfl, rfl⟩
  rw [hcarried, hoffer, hserve, hdue.1, hdue.2, Bool.false_or, hnext] at hfinish
  have hexec : exec (.holdoffExpiry k order) s = .next ((e.winClaim k b).finish e.link.nextId order) := by
    simp only [exec, execHoldoffExpiry, hsl, hclaim]
    rfl
  have hsame : x.current = sl.current := rfl
  rw [hexec, hfinish, hsame]
  clear_value told
  cases sl.current <;> cases order <;> rfl

end Sys2Proof.Machine
end

section
/-! The hearing of a frame from another station, and what the marks of a heard frame leave of the slot they are about (R126). -/

namespace Sys2Proof.Machine

/-! ### The event of a heard frame -/

/-- A heard frame, not a JOIN, ends as `State.roomTaken` of what its owner carried over. -/
theorem hearFrame_fromPeer {station group : Nat} {s : State} (hheard : HeardFromPeer station group s) {body : FrameBody}
    (hbody : body.kind ≠ .join) (order : RoomOrder) {t : State}
    (hhand : (s.heardBy station group).hand { station := station, group := group, body := body } = t)
    {P : Prop} (htelling : t.Telling P) (hnext : t.link.nextId = s.link.nextId) :
    hearFrame { station := station, group := group, body := body } order s =
      t.carried.roomTaken order t.scratch.serveDue t.scratch.offerDue := by
  rw [hearFrame, hear_fromPeer hheard hbody, hhand, ← hnext]
  exact htelling.finish order

/-- The event as the frame reaches its owner. -/
theorem telling_heardBy {station group : Nat} {s : State} (hheard : HeardFromPeer station group s)
    (h : RequestsEarlier s ∨ s.quotes.pendingOrder = []) : ∃ pending, (s.heardBy station group).Telling pending :=
  State.Telling.of_clear (s := s.heardBy station group) hheard.1 h

/-- Nothing is due as the frame reaches its owner. -/
theorem due_heardBy {station group : Nat} {s : State} (hheard : HeardFromPeer station group s) :
    (s.heardBy station group).scratch.offerDue = false ∧ (s.heardBy station group).scratch.serveDue = false := by
  obtain ⟨hclear, -⟩ := hheard
  rw [show (s.heardBy station group).scratch = .clear from hclear]
  exact ⟨rfl, rfl⟩

/-! ### Marks -/

/-- From `x` to `y` marks have been set and the supply state re-evaluated, and nothing else has changed (R108, R111). -/
structure Slot.MarkedOn (x y : Slot) : Prop where
  rest : y = { x with marks := y.marks, supply := y.supply }
  length : y.marks.length = x.marks.length
  kept : ∀ n : Nat, x.marks[n]? = some true → y.marks[n]? = some true

namespace Slot.MarkedOn

theorem refl (x : Slot) : x.MarkedOn x := ⟨rfl, rfl, fun _ => id⟩

theorem trans {x y z : Slot} (h : x.MarkedOn y) (h' : y.MarkedOn z) : x.MarkedOn z :=
  ⟨by rw [h'.rest, h.rest], h'.length.trans h.length, fun n hn => h'.kept n (h.kept n hn)⟩

theorem setMark (b : Nat) (x : Slot) : x.MarkedOn (x.setMark b) := ⟨rfl, by simp [Slot.setMark], fun n => marks_setMark b n x⟩

theorem resupply (x : Slot) : x.MarkedOn x.resupply := ⟨rfl, rfl, fun _ => id⟩

variable {x y : Slot} (h : x.MarkedOn y)
include h

theorem claim : y.claim = x.claim := by rw [h.rest]
theorem current : y.current = x.current := by rw [h.rest]
theorem reserve : y.reserve = x.reserve := by rw [h.rest]
theorem letter : y.letter = x.letter := by rw [h.rest]
theorem enabled : y.enabled = x.enabled := by rw [h.rest]
theorem owedHeld : y.owedHeld = x.owedHeld := by rw [h.rest]
theorem first : y.first = x.first := by rw [h.rest]
theorem count : y.count = x.count := by rw [h.rest]
theorem cursor : y.cursor = x.cursor := by rw [h.rest]

/-- What is held stays held. -/
theorem holds (b : Nat) : y.holds b = x.holds b := by rw [h.rest]; rfl

/-- What is marked stays marked (R108). -/
theorem marked {b : Nat} (hb : x.marked b = true) : y.marked b = true := by
  have hget : ∀ z : Slot, z.marked b = true ↔ z.marks[b - z.first]? = some true := fun z => by
    rw [Slot.marked, List.getD_eq_getElem?_getD]
    cases z.marks[b - z.first]? <;> simp
  rw [hget] at hb ⊢
  rw [h.first]
  exact h.kept _ hb

end Slot.MarkedOn

/-- The logging of a record leaves the slots. -/
theorem slots_logged (r : ConflictRecord) (s : State) : (s.logged r).alloc.slots = s.alloc.slots := by rw [logged_frame]

/-- The naming of a block marks the slot, or leaves it (R126). -/
theorem slot_peerNamed {k : Nat} {x : Slot} {s : State} (hx : s.alloc.slots[k]? = some x) (kind : FrameKind) (station : Nat)
    (serial : Option Nat) (b : Nat) :
    ∃ y, (s.peerNamed k kind station serial b).alloc.slots[k]? = some y ∧ x.MarkedOn y := by
  simp only [State.peerNamed, hx]
  split
  · split
    · exact ⟨x, hx, .refl x⟩
    · exact ⟨x.setMark b, slot_modifySlot hx _, .setMark b x⟩
  · refine ⟨x, ?_, .refl x⟩
    split
    · rw [slots_logged]
      exact hx
    · exact hx

/-- The other slots stand. -/
theorem slot_peerNamed_other {k j : Nat} (hj : k ≠ j) (kind : FrameKind) (station : Nat) (serial : Option Nat) (s : State)
    (b : Nat) : (s.peerNamed k kind station serial b).alloc.slots[j]? = s.alloc.slots[j]? := by
  unfold State.peerNamed
  split
  · rfl
  · split
    · split
      · rfl
      · show (s.modifySlot k _).alloc.slots[j]? = _
        rw [slots_modifySlot, if_neg hj]
    · split
      · rw [slots_logged]
      · rfl

/-- The namings of several blocks in turn, and the re-evaluation that ends them (R126). -/
theorem slot_peersNamed {k : Nat} {x : Slot} {s : State} (hx : s.alloc.slots[k]? = some x) (kind : FrameKind) (station : Nat)
    (serial : Option Nat) (blocks : List Nat) :
    ∃ y, ((blocks.foldl (fun u b => u.peerNamed k kind station serial b) s).resupplied k).alloc.slots[k]? = some y
      ∧ x.MarkedOn y := by
  have hfold : ∃ y, (blocks.foldl (fun u b => u.peerNamed k kind station serial b) s).alloc.slots[k]? = some y
      ∧ x.MarkedOn y := by
    induction blocks generalizing s x with
    | nil => exact ⟨x, hx, .refl x⟩
    | cons b bs ih =>
      obtain ⟨y, hy, hxy⟩ := slot_peerNamed hx kind station serial b
      obtain ⟨z, hz, hyz⟩ := ih hy
      exact ⟨z, hz, hxy.trans hyz⟩
  obtain ⟨y, hy, hxy⟩ := hfold
  exact ⟨y.resupply, slot_resupplied hy, hxy.trans (.resupply y)⟩

/-- The namings touch what each of them touches. -/
theorem peersNamed_frame (k : Nat) (kind : FrameKind) (station : Nat) (serial : Option Nat) (blocks : List Nat) (s : State) :
    let t := blocks.foldl (fun u b => u.peerNamed k kind station serial b) s
    t = { s with
      alloc := { s.alloc with slots := t.alloc.slots, log := t.alloc.log, overflow := t.alloc.overflow }, link := t.link } := by
  induction blocks generalizing s with
  | nil => rfl
  | cons b bs ih =>
    have hfirst := peerNamed_frame k kind station serial s b
    have hrest := ih (s.peerNamed k kind station serial b)
    dsimp only at hrest ⊢
    rw [List.foldl_cons, hrest, hfirst]

/-- The marks of a heard frame, carried over: what the statements say of them, and that nothing has become due (R126). -/
theorem marksHeard_spec {k : Nat} {x : Slot} {s : State} (hx : s.alloc.slots[k]? = some x) (kind : FrameKind) (station : Nat)
    (serial : Option Nat) (blocks : List Nat) :
    (∃ y, (s.marksHeard k kind station serial blocks).alloc.slots[k]? = some y ∧ x.MarkedOn y)
      ∧ (s.marksHeard k kind station serial blocks).hall = s.hall
      ∧ (s.marksHeard k kind station serial blocks).alloc.column = s.alloc.column
      ∧ (s.marksHeard k kind station serial blocks).setup = s.setup := by
  have hcarried := carried_marksHeard s k kind station serial blocks
  obtain ⟨y, hy, hxy⟩ := slot_peersNamed (s := s.carried) hx kind station serial blocks
  have hframe := peersNamed_frame k kind station serial blocks s.carried
  dsimp only at hframe
  have hparts : (s.marksHeard k kind station serial blocks).carried.hall = s.hall
      ∧ (s.marksHeard k kind station serial blocks).carried.alloc.column = s.alloc.column
      ∧ (s.marksHeard k kind station serial blocks).carried.setup = s.setup := by
    rw [hcarried, resupplied_frame, hframe]
    exact ⟨rfl, rfl, rfl⟩
  rw [← hcarried] at hy
  exact ⟨⟨y, hy, hxy⟩, hparts⟩

/-- A frame that does not name the claimed block loses no claim (R116). -/
theorem loseIfClaimed_other {k : Nat} {x : Slot} {s : State} (hx : s.alloc.slots[k]? = some x) {blocks : List Nat}
    (h : ∀ b ∈ blocks, x.claim.block? ≠ some b) : s.loseIfClaimed k blocks = s := by
  simp only [State.loseIfClaimed, hx]
  split
  · rfl
  · rename_i b hb
    refine if_neg fun hmem => h b ?_ hb
    simpa using hmem

/-- A frame that names it does. -/
theorem loseIfClaimed_claimed {k : Nat} {x : Slot} {s : State} (hx : s.alloc.slots[k]? = some x) {blocks : List Nat} {b : Nat}
    (hclaim : x.claim.block? = some b) (hmem : b ∈ blocks) : s.loseIfClaimed k blocks = s.loseClaim k b := by
  simp only [State.loseIfClaimed, hx, hclaim]
  exact if_pos (by simpa using hmem)

/-! ### The peer holdings column (R127) -/

/-- A list without duplicates is what is left of it without them. -/
theorem eraseDups_of_nodup {l : List Nat} (h : l.Nodup) : l.eraseDups = l := by
  induction l with
  | nil => rfl
  | cons a l ih =>
    obtain ⟨ha, hl⟩ := List.nodup_cons.mp h
    have hfilter : l.filter (fun b => !b == a) = l :=
      List.filter_eq_self.mpr fun b hb => by simpa using fun h : b = a => ha (h ▸ hb)
    rw [List.eraseDups_cons, hfilter, ih hl]

/-- The column with the block gone from the lists of the stations below `n` other than the sender (R127). -/
def erasedBelow (station k b n : Nat) (column : List (List (List Nat))) : List (List (List Nat)) :=
  column.mapIdx fun i row => if i ≠ station ∧ i < n then row.modify k fun l => l.erase b else row

theorem erasedBelow_zero (station k b : Nat) (column : List (List (List Nat))) : erasedBelow station k b 0 column = column := by
  refine List.ext_getElem? fun i => ?_
  rw [erasedBelow, List.getElem?_mapIdx]
  cases column[i]? <;> simp

/-- The next station's list loses the block, unless it is the sender's. -/
theorem erasedBelow_succ (station k b n : Nat) (column : List (List (List Nat))) :
    erasedBelow station k b (n + 1) column =
      if n = station then erasedBelow station k b n column
      else (erasedBelow station k b n column).modify n fun row => row.modify k fun l => l.erase b := by
  have hbefore : ∀ i, n ≠ i → ((i ≠ station ∧ i < n + 1) ↔ (i ≠ station ∧ i < n)) := fun i hi => by omega
  refine List.ext_getElem? fun i => ?_
  split
  · rename_i hn
    have hsame : (i ≠ station ∧ i < n + 1) ↔ (i ≠ station ∧ i < n) := by omega
    rw [erasedBelow, erasedBelow, List.getElem?_mapIdx, List.getElem?_mapIdx]
    simp only [hsame]
  · rename_i hn
    rw [List.getElem?_modify, erasedBelow, erasedBelow, List.getElem?_mapIdx, List.getElem?_mapIdx]
    cases column[i]? with
    | none => rfl
    | some row =>
      by_cases hi : n = i
      · subst hi
        simp [hn]
      · simp only [hi, hbefore i hi, if_false, Option.map_some, Option.map_eq_map]

/-- The column after a heard HELD: station by station as the model changes it, and at once as the statements say it (R127). -/
theorem heldListed_eq (station k b : Nat) (s : State) :
    ((List.range Config.stations).foldl
      (fun t n => if n = station then t else t.modifyColumn n k fun l => l.erase b) s).modifyColumn station k (addHeld b) =
      s.heldListed station k b := by
  have hfold : ∀ n, (List.range n).foldl (fun t n => if n = station then t else t.modifyColumn n k fun l => l.erase b) s =
      { s with alloc := { s.alloc with column := erasedBelow station k b n s.alloc.column } } := by
    intro n
    induction n with
    | zero =>
      rw [erasedBelow_zero]
      rfl
    | succ n ih =>
      rw [List.range_succ, List.foldl_concat, ih, erasedBelow_succ]
      split <;> rfl
  have hcolumn : (erasedBelow station k b 32 s.alloc.column).modify station (fun row => row.modify k (addHeld b)) =
      s.alloc.column.mapIdx fun n row => row.modify k fun l =>
        if n = station then addHeld b l else if n < 32 then l.erase b else l := by
    refine List.ext_getElem? fun i => ?_
    rw [List.getElem?_modify, erasedBelow, List.getElem?_mapIdx, List.getElem?_mapIdx]
    cases s.alloc.column[i]? with
    | none => rfl
    | some row =>
      by_cases hi : station = i
      · subst hi
        simp
      · by_cases hlt : i < 32
        · simp [hi, Ne.symm hi, hlt]
        · have hsame : row.modify k (fun l => l) = row := List.modify_id k row
          simp [hi, Ne.symm hi, hlt, hsame]
  rw [hfold]
  exact congrArg (fun column => ({ s with alloc := { s.alloc with column := column } } : State)) hcolumn

end Sys2Proof.Machine
end

section
/-! A heard frame that ends no claim and withdraws no block (R118, R126, R127). -/

namespace Sys2Proof.Machine

/-- An event that has made nothing due ends with what it carried over. -/
theorem hearFrame_quiet {station group : Nat} {s : State} (hheard : HeardFromPeer station group s) {body : FrameBody}
    (hbody : body.kind ≠ .join) (order : RoomOrder) {t : State}
    (hhand : (s.heardBy station group).hand { station := station, group := group, body := body } = t)
    {P : Prop} (htelling : t.Telling P) (hdue : SameDue t (s.heardBy station group)) :
    hearFrame { station := station, group := group, body := body } order s = t.carried := by
  obtain ⟨hoffer, hserve⟩ := due_heardBy hheard
  rw [hearFrame_fromPeer hheard hbody order hhand htelling hdue.1, hdue.2.1, hdue.2.2, hoffer, hserve, roomTaken_neither]

/-- A frame whose letter is of no enabled slot changes no more than the sender's liveness (R126, R163, R165). -/
theorem hearFrame_unhanded {station group : Nat} {s : State} (hheard : HeardFromPeer station group s) {body : FrameBody}
    (hbody : body.kind ≠ .join) (order : RoomOrder)
    (hhand : (s.heardBy station group).hand { station := station, group := group, body := body } = s.heardBy station group) :
    hearFrame { station := station, group := group, body := body } order s = s.heardBy station group := by
  rw [hearFrame, hear_fromPeer hheard hbody, hhand]
  exact finish_clear _ _ (s.heardBy station group) hheard.1

/-- The block a station claims in HOLDOFF, or holds (R118). -/
theorem defended_iff (x : Slot) (b : Nat) :
    (x.holds b = true ∨ x.claim.block? = some b) ↔
      (x.current.map (·.block) = some b ∨ x.reserve = some b ∨ x.claim.block? = some b) := by
  simp [Slot.holds, or_assoc]

section

variable {station group letter k : Nat} {sl : Slot} {s : State} (hheard : HeardFromPeer station group s)
  (hearlier : RequestsEarlier s ∨ s.quotes.pendingOrder = []) (hletter : s.slotOf letter = some k)
  (hsl : s.alloc.slots[k]? = some sl) (order : RoomOrder)
include hheard hearlier hletter hsl

/-- A heard CLAIM that ends no claim here (R118, R121). -/
theorem hearFrame_claim {b : Nat} (howed : sl.claim ≠ .owed b) (hqueued : sl.claim ≠ .queued b) :
    let marked := ((s.heardBy station group).peerNamed k .claim station none b).resupplied k
    hearFrame { station := station, group := group, body := .claim letter b } order s =
      if (sl.current.map (·.block) = some b ∨ sl.reserve = some b ∨ sl.claim.block? = some b) ∧ s.mayOweHeld sl b = true then
        ((marked.modifySlot k fun x => { x with owedHeld := x.owedHeld ++ [b] }).modifyColumn station k (addHeld b)).offered
      else marked.modifyColumn station k (addHeld b) := by
  intro marked
  obtain ⟨P, htelling⟩ := telling_heardBy hheard hearlier
  obtain ⟨hoffer, hserve⟩ := due_heardBy hheard
  have hclear : (s.heardBy station group).scratch = .clear := hheard.1
  let s1 : State := (s.heardBy station group).marksHeard k .claim station none [b]
  obtain ⟨⟨x, hx, hmarked⟩, hhall, -, -⟩ := marksHeard_spec (s := s.heardBy station group) hsl .claim station none [b]
  have hs1 : s1.Telling P := htelling.marksHeard _ _ _ _ _
  obtain ⟨hnext1, hoffer1, hserve1⟩ := marksHeard_sameDue k .claim station none [b] (s.heardBy station group)
  have hcarried : s1.carried = marked := by
    rw [carried_marksHeard, carried_of_clear hclear]
    rfl
  have hmay : s1.mayOweHeld x b = s.mayOweHeld sl b := by
    rw [State.mayOweHeld, State.mayOweHeld, hmarked.owedHeld, hmarked.letter, hhall]
    rfl
  have hdefended : (x.holds b = true ∨ x.claim.block? = some b) ↔
      (sl.current.map (·.block) = some b ∨ sl.reserve = some b ∨ sl.claim.block? = some b) := by
    rw [defended_iff, hmarked.current, hmarked.reserve, hmarked.claim]
  have hhand : (s.heardBy station group).hand { station := station, group := group, body := .claim letter b } =
      State.modifyColumn station k (addHeld b) (if x.holds b = true ∨ x.claim.block? = some b then s1.oweHeld k b else s1) := by
    have hlost : ¬ (x.claim = .owed b ∨ x.claim = .queued b) := by
      rw [hmarked.claim, not_or]
      exact ⟨howed, hqueued⟩
    have hletter' : (s.heardBy station group).slotOf letter = some k := hletter
    simp only [State.hand, State.claimHeard, hletter']
    show State.modifyColumn station k (addHeld b) (match s1.alloc.slots[k]? with | none => _ | some sl => _) = _
    rw [hx]
    dsimp only
    rw [if_neg hlost]
  by_cases hholds : x.holds b = true ∨ x.claim.block? = some b
  · rw [if_pos hholds, oweHeld_eq hx, hmay] at hhand
    by_cases hfree : s.mayOweHeld sl b = true
    · rw [if_pos hfree] at hhand
      rw [if_pos ⟨hdefended.mp hholds, hfree⟩,
        hearFrame_fromPeer hheard FrameKind.noConfusion order hhand (P := P) (hs1.congr rfl rfl rfl) hnext1]
      show State.roomTaken order s1.scratch.serveDue true _ = _
      rw [hserve1, hserve, ← hcarried]
      cases order <;> rfl
    · rw [if_neg hfree] at hhand
      rw [if_neg fun h => hfree h.2, hearFrame_quiet hheard FrameKind.noConfusion order hhand (P := P) (hs1.congr rfl rfl rfl)
        ⟨hnext1, hoffer1, hserve1⟩, ← hcarried]
      rfl
  · rw [if_neg hholds] at hhand
    rw [if_neg fun h => hholds (hdefended.mpr h.1), hearFrame_quiet hheard FrameKind.noConfusion order hhand (P := P)
      (hs1.congr rfl rfl rfl) ⟨hnext1, hoffer1, hserve1⟩, ← hcarried]
    rfl

omit hletter in
/-- The marks of a frame that names no claimed block; then the claim stands (R116, R126). -/
theorem marksHeard_unclaimed (kind : FrameKind) {blocks : List Nat} (hclaim : ∀ b ∈ blocks, sl.claim.block? ≠ some b) :
    ∃ P x, ((s.heardBy station group).marksHeard k kind station none blocks).Telling P
      ∧ ((s.heardBy station group).marksHeard k kind station none blocks).loseIfClaimed k blocks =
        (s.heardBy station group).marksHeard k kind station none blocks
      ∧ SameDue ((s.heardBy station group).marksHeard k kind station none blocks) (s.heardBy station group)
      ∧ ((s.heardBy station group).marksHeard k kind station none blocks).carried =
        (blocks.foldl (fun u b => u.peerNamed k kind station none b) (s.heardBy station group)).resupplied k
      ∧ ((s.heardBy station group).marksHeard k kind station none blocks).alloc.slots[k]? = some x ∧ sl.MarkedOn x := by
  obtain ⟨P, htelling⟩ := telling_heardBy hheard hearlier
  obtain ⟨⟨x, hx, hmarked⟩, -⟩ := marksHeard_spec (s := s.heardBy station group) hsl kind station none blocks
  refine ⟨P, x, htelling.marksHeard _ _ _ _ _, loseIfClaimed_other hx (by rw [hmarked.claim]; exact hclaim),
    marksHeard_sameDue _ _ _ _ _ _, ?_, hx, hmarked⟩
  rw [carried_marksHeard, carried_of_clear (s := s.heardBy station group) hheard.1]

/-- A heard SPENT that ends no claim here. -/
theorem hearFrame_spent {b : Nat} (hclaim : sl.claim.block? ≠ some b) :
    hearFrame { station := station, group := group, body := .spent letter b } order s =
      (((s.heardBy station group).peerNamed k .spent station none b).resupplied k).modifyColumn station k fun l => l.erase b := by
  obtain ⟨P, x, htelling, hlost, hdue, hcarried, -⟩ := marksHeard_unclaimed hheard hearlier hsl .spent (blocks := [b])
    (by simpa using hclaim)
  have hletter' : (s.heardBy station group).slotOf letter = some k := hletter
  rw [hearFrame_quiet hheard FrameKind.noConfusion order
    (t := ((s.heardBy station group).marksHeard k .spent station none [b]).modifyColumn station k fun l => l.erase b)
    (by simp only [State.hand, State.spentHeard, hletter', hlost]) (P := P) (htelling.congr rfl rfl rfl) hdue]
  exact congrArg (State.modifyColumn station k fun l => l.erase b) hcarried

/-- A heard HOLDS that ends no claim here. -/
theorem hearFrame_holds {blocks : List Nat} (hclaim : ∀ b ∈ blocks, sl.claim.block? ≠ some b) :
    hearFrame { station := station, group := group, body := .holds letter blocks } order s =
      ((blocks.foldl (fun u b => u.peerNamed k .holds station none b) (s.heardBy station group)).resupplied k).modifyColumn
        station k fun _ => blocks.eraseDups := by
  obtain ⟨P, x, htelling, hlost, hdue, hcarried, -⟩ := marksHeard_unclaimed hheard hearlier hsl .holds hclaim
  have hletter' : (s.heardBy station group).slotOf letter = some k := hletter
  rw [hearFrame_quiet hheard FrameKind.noConfusion order
    (t := ((s.heardBy station group).marksHeard k .holds station none blocks).modifyColumn station k fun _ => blocks.eraseDups)
    (by simp only [State.hand, State.holdsHeard, hletter', hlost]) (P := P) (htelling.congr rfl rfl rfl) hdue]
  exact congrArg (State.modifyColumn station k fun _ => blocks.eraseDups) hcarried

/-- A heard HELD for a block neither claimed nor held here. -/
theorem hearFrame_held {b : Nat} (hclaim : sl.claim.block? ≠ some b) (hholds : sl.holds b = false) :
    hearFrame { station := station, group := group, body := .held letter b } order s =
      (((s.heardBy station group).peerNamed k .held station none b).resupplied k).heldListed station k b := by
  obtain ⟨P, x, htelling, hlost, hdue, hcarried, hx, hmarked⟩ :=
    marksHeard_unclaimed hheard hearlier hsl .held (blocks := [b]) (by simpa using hclaim)
  have hletter' : (s.heardBy station group).slotOf letter = some k := hletter
  have hhand : (s.heardBy station group).hand { station := station, group := group, body := .held letter b } =
      ((s.heardBy station group).marksHeard k .held station none [b]).heldListed station k b := by
    simp only [State.hand, State.heldHeard, hletter', hlost, hx, hmarked.holds, hholds, Bool.false_eq_true, if_false]
    exact heldListed_eq _ _ _ _
  rw [hearFrame_quiet hheard FrameKind.noConfusion order hhand (P := P) (htelling.congr rfl rfl rfl) hdue]
  exact congrArg (State.heldListed station k b) hcarried

end

/-- Settles O42: a letter of no enabled slot by `hearFrame_unhanded`, each kind of frame by its own lemma. -/
theorem heardBlocksAreMarked : Obligations.HeardBlocksAreMarked := by
  refine ⟨fun b l => ?_, fun station group letter order s hheard hnone => ?_,
    fun station group letter k sl order s hheard hearlier hletter hsl => ?_⟩
  · simp only [addHeld, List.contains_iff_mem]
  · have hnone' : (s.heardBy station group).slotOf letter = none := hnone
    have hunhanded : ∀ {body : FrameBody}, body.kind ≠ .join →
        (s.heardBy station group).hand { station := station, group := group, body := body } = s.heardBy station group →
        (.next (hearFrame { station := station, group := group, body := body } order s) : Host.Outcome State Fault Refusal) =
          .next (s.heardBy station group) :=
      fun hbody hhand => congrArg _ (hearFrame_unhanded hheard hbody order hhand)
    refine ⟨fun b => ⟨hunhanded (body := .claim letter b) FrameKind.noConfusion ?_,
      hunhanded (body := .held letter b) FrameKind.noConfusion ?_,
      hunhanded (body := .spent letter b) FrameKind.noConfusion ?_⟩,
      fun blocks => hunhanded (body := .holds letter blocks) FrameKind.noConfusion ?_⟩
    · simp only [State.hand, State.claimHeard, hnone']
    · simp only [State.hand, State.heldHeard, hnone']
    · simp only [State.hand, State.spentHeard, hnone']
    · simp only [State.hand, State.holdsHeard, hnone']
  · refine ⟨fun b howed hqueued => ?_, fun b hclaim => ?_, fun b hclaim hholds => ?_, fun blocks hclaim hnodup => ?_⟩
    · exact congrArg _ (hearFrame_claim hheard hearlier hletter hsl order howed hqueued)
    · exact congrArg _ (hearFrame_spent hheard hearlier hletter hsl order hclaim)
    · exact congrArg _ (hearFrame_held hheard hearlier hletter hsl order hclaim hholds)
    · have hheardHolds := hearFrame_holds hheard hearlier hletter hsl order hclaim
      rw [eraseDups_of_nodup hnodup] at hheardHolds
      exact congrArg _ hheardHolds

end Sys2Proof.Machine
end

section
/-! A heard POSTED: the bag table, the marks and the check for a STRAY (R126, R129, R140 to R144). -/

namespace Sys2Proof.Machine

/-- Of three moments of an event, where nothing more has become due from one to the next. -/
theorem SameDue.trans {s t u : State} (h : SameDue u t) (h' : SameDue t s) : SameDue u s := by
  obtain ⟨hnext, hoffer, hserve⟩ := h
  obtain ⟨hnext', hoffer', hserve'⟩ := h'
  exact ⟨hnext.trans hnext', hoffer.trans hoffer', hserve.trans hserve'⟩

/-- The bag table's part of a heard POSTED, in the statements' words (R140, R141, R143, R144). -/
theorem postedAtBags_eq (route bag weight : Nat) (s : State) : s.postedAtBags route bag weight = s.bagFollowed route bag weight := by
  have hrange : bagInRange route bag = true ↔ ¬ (31 < route ∨ bag < 1 ∨ 9999 < bag) := by
    refine decide_eq_true_iff.trans ?_
    simp only [Config.routes, Config.maxBag]
    omega
  by_cases hin : 31 < route ∨ bag < 1 ∨ 9999 < bag
  · rw [State.postedAtBags, State.bagFollowed, if_pos hin, if_neg fun h => hrange.mp h hin]
  · rw [State.postedAtBags, State.bagFollowed, if_neg hin, if_pos (hrange.mpr hin)]
    cases (s.row route).follow with
    | fresh => rfl
    | followed =>
      have hdistance : judge bag (s.row route).seq = if (bag + 9999 - (s.row route).seq) % 9999 = 0 then .equal
        else if (bag + 9999 - (s.row route).seq) % 9999 ≤ 4999 then .ahead else .behind := rfl
      by_cases hequal : (bag + 9999 - (s.row route).seq) % 9999 = 0
      · simp only [hdistance, hequal, if_true]
        rfl
      · by_cases hahead : (bag + 9999 - (s.row route).seq) % 9999 ≤ 4999
        · simp only [hdistance, hequal, hahead, if_true, if_false]
          rfl
        · simp only [hdistance, hequal, hahead, if_false]
          rfl

/-- The check of a POSTED for a block neither held here nor believed held by its sender, or believed so (R129). -/
theorem checkPosted_unheld {k : Nat} {x : Slot} {s : State} (hx : s.alloc.slots[k]? = some x) {station letter serial : Nat}
    (hholds : x.holds (serial / 1000) = false) :
    s.checkPosted k station letter serial =
      if serial / 1000 ∈ s.peerBlocks station k then s
      else s.logConflict { kind := .stray, letter := letter, block := serial / 1000, serial := some serial, station := station } := by
  have hholds' : x.holds (serial / Config.blockSize) = false := hholds
  simp only [State.checkPosted, hx, hholds', Bool.false_eq_true, if_false, List.contains_iff_mem]
  rfl

/-- The event after the bag table has had its part. -/
theorem telling_bagFollowed {s : State} {P : Prop} (h : s.Telling P) (route bag weight : Nat) :
    (s.bagFollowed route bag weight).Telling P := by
  rw [bagFollowed_frame]
  exact h.congr rfl rfl rfl

/-- Settles O44: the bag table by `postedAtBags_eq`, the marks by `marksHeard_spec`, the check by `checkPosted_unheld`. -/
theorem heardPostedMovesTheRow : Obligations.HeardPostedMovesTheRow := by
  intro station group letter serial route bag weight order s hheard hearlier _ h after block
  obtain ⟨P, htelling⟩ := telling_heardBy hheard hearlier
  have hafter : after = { h with bags := after.bags } := bagFollowed_frame route bag weight h
  have htold : after.Telling P := telling_bagFollowed htelling route bag weight
  have hclear : after.scratch = .clear := by rw [hafter]; exact hheard.1
  have hdue : SameDue after h := by rw [hafter]; exact ⟨rfl, rfl, rfl⟩
  have hslotOf : after.slotOf letter = s.slotOf letter := by rw [hafter]; rfl
  have hslots : after.alloc = s.alloc := by rw [hafter]; rfl
  have hhand : h.hand { station := station, group := group, body := .posted letter serial route bag weight } =
      after.postedHeard station letter serial := by
    exact congrArg (State.postedHeard station letter serial) (postedAtBags_eq route bag weight h)
  refine ⟨fun hnone => congrArg Host.Outcome.next (a₁ := hearFrame _ order s) ?_, fun k sl hletter hsl hclaim hholds => ?_⟩
  · have hnone' : after.postedHeard station letter serial = after := by
      simp only [State.postedHeard, hslotOf, hnone]
    rw [hearFrame_quiet hheard FrameKind.noConfusion order (hhand.trans hnone') htold hdue, carried_of_clear hclear]
  · refine congrArg Host.Outcome.next (a₁ := hearFrame _ order s) ?_
    let told : State := after.marksHeard k .posted station (some serial) [block]
    have hsl' : after.alloc.slots[k]? = some sl := by rw [hslots]; exact hsl
    obtain ⟨⟨x, hx, hmarked⟩, -, hcolumn, -⟩ := marksHeard_spec hsl' .posted station (some serial) [block]
    have hlost : told.loseIfClaimed k [block] = told :=
      loseIfClaimed_other hx (by rw [hmarked.claim]; simpa using hclaim)
    have hblocks : told.peerBlocks station k = s.peerBlocks station k := by
      rw [State.peerBlocks, State.peerBlocks, hcolumn, hslots]
    have hcheck : after.postedHeard station letter serial = if block ∈ s.peerBlocks station k then told
        else told.logConflict { kind := .stray, letter := letter, block := block, serial := some serial, station := station } := by
      rw [← hblocks, ← checkPosted_unheld hx ((hmarked.holds _).trans hholds)]
      simp only [State.postedHeard, hslotOf, hletter]
      exact congrArg (State.checkPosted k station letter serial) hlost
    have hseen : told.carried = (after.peerNamed k .posted station (some serial) block).resupplied k := by
      rw [carried_marksHeard, carried_of_clear hclear]
      rfl
    have hmarks : told.Telling P := htold.marksHeard _ _ _ _ _
    have hmarksDue : SameDue told after := marksHeard_sameDue _ _ _ _ _ _
    by_cases hknown : block ∈ s.peerBlocks station k
    · rw [if_pos hknown] at hcheck ⊢
      rw [hearFrame_quiet hheard FrameKind.noConfusion order (hhand.trans hcheck) hmarks (hmarksDue.trans hdue), hseen]
    · rw [if_neg hknown] at hcheck ⊢
      rw [hearFrame_quiet hheard FrameKind.noConfusion order (hhand.trans hcheck) (hmarks.logConflict _)
        ((logConflict_sameDue _ _).trans (hmarksDue.trans hdue)), carried_logConflict, hseen]

end Sys2Proof.Machine
end

section
/-! MAPLOAD and LOGTAKE (R109, R131), and requests whose own reply is the first message of their event. -/

namespace Sys2Proof.Machine

/-! ### The own reply first -/

/-- Where the own reply is the first message, all of them keep their order (R179). -/
theorem ownFirst_head (own : Nat) {m : OutMsg} (h : m.answers own = true) (rest : List OutMsg) :
    ownFirst own (m :: rest) = m :: rest := by
  simp [ownFirst, h]

/-- An event that replied to its own request before all else carries its messages over in the order of production. -/
theorem flush_eq_carried_of_head {own : Nat} {s : State} {m : OutMsg} (h : m.answers own = true)
    (hfirst : [m] <+: s.scratch.produced) : s.flush own = s.carried := by
  obtain ⟨rest, hrest⟩ := hfirst
  rw [State.flush, State.carried, ← hrest]
  exact congrArg (fun msgs => { s with link := msgs.foldl Link.accept s.link, scratch := .clear }) (ownFirst_head own h rest)

/-- What was produced before a COMMIT is turned back stays first. -/
theorem produced_reopen (reason : Reason) (s : State) (n : Nat) :
    s.scratch.produced <+: (s.reopen reason n).scratch.produced := by
  rcases committing_or n s with hnone | ⟨q, ref, hq, hstate⟩
  · rw [reopen_notCommitting reason hnone]
  · rw [reopen_committing reason hq hstate]
    exact List.prefix_append _ _

theorem produced_foldl_reopen (reason : Reason) (ns : List Nat) (s : State) :
    s.scratch.produced <+: (ns.foldl (State.reopen reason) s).scratch.produced := by
  induction ns generalizing s with
  | nil => exact List.prefix_rfl
  | cons n ns ih => exact (produced_reopen reason s n).trans (ih _)

/-- What was produced before a supply state is re-evaluated stays first. -/
theorem produced_reviewSupply (k : Nat) (s : State) : s.scratch.produced <+: (s.reviewSupply k).scratch.produced := by
  cases hx : s.alloc.slots[k]? with
  | none => simp only [State.reviewSupply, hx, List.prefix_rfl]
  | some x =>
    by_cases hexhausted : x.supplyOf = .exhausted ∧ x.supply ≠ .exhausted
    · rw [reviewSupply_exhausted hx hexhausted]
      exact (List.prefix_append s.scratch.produced [_]).trans
        (produced_foldl_reopen .noNumbers _ ((s.modifySlot k fun y => { y with supply := x.supplyOf }).notify (.exhausted x.letter)))
    · by_cases hlast : x.current = none ∨ ¬ (x.supplyOf = .last ∧ x.supply ≠ .last)
      · rw [reviewSupply_quiet hx hexhausted hlast]
        exact List.prefix_rfl
      · obtain ⟨hcurrent, hlast⟩ := not_or.mp hlast
        obtain ⟨c, hcurrent⟩ := Option.ne_none_iff_exists'.mp hcurrent
        rw [reviewSupply_last hx hcurrent (not_not.mp hlast)]
        exact List.prefix_append _ _

/-- A request that is answered, and whose answer a re-evaluation follows (R111, R178, R179). -/
theorem finish_done_reviewSupply (tag kind k : Nat) (body : DoneBody) (order : RoomOrder) {t : State} (h : t.scratch = .clear) :
    (((t.taken tag kind).done (t.nextRef tag) body).reviewSupply k).finish t.link.nextId order =
      (t.answered tag kind (.done body)).resupplied k := by
  let v : State := (t.taken tag kind).done (t.nextRef tag) body
  have hscratch : v.scratch = { Scratch.clear with produced := [.reply (some t.link.nextId) tag (.done body)] } := by
    show ({ t.scratch with produced := t.scratch.produced ++ _ } : Scratch) = _
    rw [h]
    rfl
  obtain ⟨-, hoffer, hserve⟩ := reviewSupply_sameDue k v
  have hfirst : [OutMsg.reply (some t.link.nextId) tag (.done body)] <+: (v.reviewSupply k).scratch.produced := by
    have hprefix := produced_reviewSupply k v
    rwa [hscratch] at hprefix
  rw [finish_quiet _ _ _ (by rw [hoffer, hscratch]; rfl) (by rw [hserve, hscratch]; rfl),
    flush_eq_carried_of_head (by simp [OutMsg.answers]) hfirst, carried_reviewSupply]
  exact congrArg (State.resupplied k)
    ((carried_reply _ _ _).trans (congrArg _ (carried_of_clear (s := t.taken tag kind) h)))

/-! ### MAPLOAD -/

/-- The slot of a letter is enabled and has the letter (R126). -/
theorem slotOf_spec {letter k : Nat} {x : Slot} {s : State} (h : s.slotOf letter = some k) (hx : s.alloc.slots[k]? = some x) :
    x.enabled = true ∧ x.letter = letter := by
  obtain ⟨hlt, hfound, -⟩ := List.findIdx?_eq_some_iff_getElem.mp h
  obtain ⟨_, hget⟩ := List.getElem?_eq_some_iff.mp hx
  rw [hget] at hfound
  simpa using hfound

/-- The map of a slot after the marking of blocks in turn (R108). -/
theorem foldl_setMark (blocks : List Nat) (x : Slot) :
    blocks.foldl (fun y b => y.setMark b) x = { x with marks := blocks.foldl (fun m b => m.set (b - x.first) true) x.marks } := by
  induction blocks generalizing x with
  | nil => rfl
  | cons b bs ih =>
    rw [List.foldl_cons, ih]
    rfl

/-- The flags of a MAPLOAD that name a block of the window (R109). -/
def Slot.mapNamed (startBlock : Nat) (span : List Bool) (x : Slot) : List Nat :=
  (List.range span.length).filter fun n =>
    span.getD n false && decide (x.first ≤ startBlock + n ∧ startBlock + n < x.first + x.count)

/-- The slot with the named blocks marked (R109). -/
def Slot.mapped (startBlock : Nat) (span : List Bool) (x : Slot) : Slot :=
  { x with marks := (x.mapNamed startBlock span).foldl (fun m n => m.set (startBlock + n - x.first) true) x.marks }

/-- How many of the named blocks were not marked (R109). -/
def Slot.mapNew (startBlock : Nat) (span : List Bool) (x : Slot) : Nat :=
  ((x.mapNamed startBlock span).filter fun n => !x.marks.getD (startBlock + n - x.first) false).length

/-- A MAPLOAD in JOINING at the allocator, in the statements' words (R109). -/
theorem mapLoad_joining {letter startBlock k : Nat} {x : Slot} {s : State} (hstart : startBlock ≤ 9999)
    (hletter : s.slotOf letter = some k) (hx : s.alloc.slots[k]? = some x) (hstate : s.hall.state = .joining) (r : RequestRef)
    (span : List Bool) :
    s.mapLoad r letter startBlock span =
      ((s.modifySlot k (Slot.mapped startBlock span)).done r (.mapLoad (x.mapNew startBlock span))).reviewSupply k := by
  have hmapped : s.modifySlot k (fun y => (x.mapBlocks startBlock span).foldl (fun z b => z.setMark b) y) =
      s.modifySlot k (Slot.mapped startBlock span) := by
    refine modifySlot_congr hx ?_
    rw [foldl_setMark]
    simp only [Slot.mapBlocks, List.foldl_map]
    rfl
  have hnew : ((x.mapBlocks startBlock span).filter fun b => !x.marked b).length = x.mapNew startBlock span := by
    rw [Slot.mapBlocks, List.filter_map, List.length_map]
    rfl
  have hstart' : ¬ startBlock > Config.maxBlock := Nat.not_lt.mpr hstart
  simp only [State.mapLoad, hletter, hstate, hx]
  rw [if_neg hstart', hmapped, hnew]

/-- The end of a MAPLOAD in JOINING (R99, R109, R111). -/
theorem exec_mapLoad_joining {tag letter startBlock k : Nat} {x : Slot} {s : State} (h : Accepts 5 s) (hlow : 1 ≤ letter)
    (hhigh : letter ≤ 26) (hstart : startBlock ≤ 9999) (hletter : s.slotOf letter = some k) (hx : s.alloc.slots[k]? = some x)
    (hstate : s.hall.state = .joining) (span : List Bool) :
    exec (.mapLoad tag letter startBlock span) s = .next
      (((s.modifySlot k (Slot.mapped startBlock span)).answered tag 5
        (.done (.mapLoad (x.mapNew startBlock span)))).resupplied k) := by
  have howner : (s.taken tag 5).handRequest (s.nextRef tag) (.mapLoad letter startBlock span) =
      (s.taken tag 5).mapLoad (s.nextRef tag) letter startBlock span := if_pos (within_iff.mpr ⟨hlow, hhigh⟩)
  rw [exec_accepted (.mapLoad tag letter startBlock span) (kind := 5) ⟨rfl, rfl⟩ h, howner,
    mapLoad_joining (s := s.taken tag 5) hstart hletter hx hstate]
  exact congrArg Host.Outcome.next
    (finish_done_reviewSupply tag 5 k _ .owedFirst (t := s.modifySlot k (Slot.mapped startBlock span)) h.1)

/-- A re-evaluation of an enabled slot, its supply state written out (R99, R111). -/
theorem resupplied_enabled {k : Nat} {y : Slot} {u : State} (hy : u.alloc.slots[k]? = some y) (henabled : y.enabled = true) :
    let supply : Supply := if y.current.isSome then (if y.marks.count false = 0 then .last else .stocked)
      else if y.claim = .none ∧ y.marks.count false = 0 then .exhausted else .waiting
    let t := u.modifySlot k fun _ => { y with supply := supply }
    u.resupplied k =
      if supply = .exhausted ∧ y.supply ≠ .exhausted then
        (t.noticed (.exhausted y.letter)).turnedBack .noNumbers (u.pendingOf y.letter)
      else match y.current with
        | none => t
        | some c => if supply = .last ∧ y.supply ≠ .last then t.noticed (.lowNumbers y.letter c.block (1000 - c.next)) else t := by
  intro supply t
  have ht : u.modifySlot k (fun z => { z with supply := supply }) = t := modifySlot_congr hy rfl
  have henabled' : ¬ y.enabled = false := by rw [henabled]; exact Bool.noConfusion
  simp only [State.resupplied, hy]
  rw [if_neg henabled', ht] <;> rfl

/-! ### LOGTAKE -/

/-- LOGTAKE at the allocator: the log it leaves, and its reply (R131). -/
theorem exec_logTake (tag : Nat) {s : State} (h : Accepts 6 s) :
    exec (.logTake tag) s = .next (match s.alloc.log with
      | [] => s.answered tag 6 (.done (.logTake none s.alloc.overflow))
      | oldest :: rest =>
        State.answered tag 6 (.done (.logTake (some oldest) s.alloc.overflow))
          { s with alloc := { s.alloc with log := rest, overflow := if rest = [] then 0 else s.alloc.overflow } }) := by
  have howner : (s.taken tag 6).handRequest (s.nextRef tag) .logTake = (s.taken tag 6).logTake (s.nextRef tag) := rfl
  cases hlog : s.alloc.log with
  | nil =>
    refine exec_answered (.logTake tag) ⟨rfl, rfl⟩ h rfl rfl (howner.trans ?_)
    have hlog' : (s.taken tag 6).alloc.log = [] := hlog
    simp only [State.logTake, hlog']
    rfl
  | cons oldest rest =>
    refine exec_answered (.logTake tag) ⟨rfl, rfl⟩ h
      (t := { s with alloc := { s.alloc with log := rest, overflow := if rest = [] then 0 else s.alloc.overflow } })
      rfl rfl (howner.trans ?_)
    have hlog' : (s.taken tag 6).alloc.log = oldest :: rest := hlog
    simp only [State.logTake, hlog']
    rfl

/-- Settles O40: MAPLOAD's refusals in their order, its marking by `exec_mapLoad_joining`, LOGTAKE by `exec_logTake`. -/
theorem mapLoadAndLogTake : Obligations.MapLoadAndLogTake := by
  refine ⟨fun tag letter startBlock span s h hlow hhigh => ?_, fun tag s h => exec_logTake tag h⟩
  have howner : (s.taken tag 5).handRequest (s.nextRef tag) (.mapLoad letter startBlock span) =
      (s.taken tag 5).mapLoad (s.nextRef tag) letter startBlock span := if_pos (within_iff.mpr ⟨hlow, hhigh⟩)
  have hrefused : ∀ reason, (s.taken tag 5).mapLoad (s.nextRef tag) letter startBlock span =
      (s.taken tag 5).refuse (s.nextRef tag) reason →
      exec (.mapLoad tag letter startBlock span) s = .next (s.answered tag 5 (.refused reason none)) := fun reason hmap =>
    exec_refused (.mapLoad tag letter startBlock span) ⟨rfl, rfl⟩ h (howner.trans hmap)
  refine ⟨fun hstart => hrefused .badRequest (if_pos hstart), fun hstart => ?_⟩
  have hstart' : ¬ startBlock > Config.maxBlock := Nat.not_lt.mpr hstart
  refine ⟨fun hnone => hrefused .unknownProduct ?_, fun k sl hletter hsl =>
    ⟨fun hstate => hrefused .already ?_, fun hstate => hrefused .muted ?_, fun hstate => ?_⟩⟩
  · have hnone' : (s.taken tag 5).slotOf letter = none := hnone
    rw [State.mapLoad, if_neg hstart', hnone']
  · have hletter' : (s.taken tag 5).slotOf letter = some k := hletter
    have hstate' : (s.taken tag 5).hall.state = .joined := hstate
    simp only [State.mapLoad, hletter', hstate']
    exact if_neg hstart'
  · have hletter' : (s.taken tag 5).slotOf letter = some k := hletter
    have hstate' : (s.taken tag 5).hall.state = .muted := hstate
    simp only [State.mapLoad, hletter', hstate']
    exact if_neg hstart'
  · intro named marks supply loaded
    obtain ⟨henabled, rfl⟩ := slotOf_spec hletter hsl
    let u : State := (s.modifySlot k (Slot.mapped startBlock span)).answered tag 5 (.done (.mapLoad (sl.mapNew startBlock span)))
    have hslot : u.alloc.slots[k]? = some (sl.mapped startBlock span) := slot_modifySlot hsl _
    have hloaded : u.modifySlot k (fun _ => { sl.mapped startBlock span with supply := supply }) = loaded :=
      congrArg (fun t => State.answered tag 5 (.done (.mapLoad (sl.mapNew startBlock span))) t)
        (modify_modify_slot k (Slot.mapped startBlock span) (fun _ => { sl.mapped startBlock span with supply := supply }) s)
    rw [exec_mapLoad_joining h hlow hhigh hstart hletter hsl hstate, resupplied_enabled hslot henabled]
    exact congrArg Host.Outcome.next (by rw [← hloaded]; rfl)

end Sys2Proof.Machine
end

section
/-! What the taking of the room leaves: the slots are as many as before, and of the entries each frame is of an item that was owed
(R95, R96, R157). -/

namespace Sys2Proof.Machine

/-! ### The number of slots -/

theorem length_modifySlot (k : Nat) (f : Slot → Slot) (s : State) :
    (s.modifySlot k f).alloc.slots.length = s.alloc.slots.length := List.length_modify ..

theorem length_resupplied (k : Nat) (s : State) : (s.resupplied k).alloc.slots.length = s.alloc.slots.length := by
  rw [alloc_resupplied, length_modifySlot]

theorem length_needTested (k : Nat) (s : State) : (s.needTested k).alloc.slots.length = s.alloc.slots.length := by
  cases hx : s.alloc.slots[k]? with
  | none => rw [needTested_none hx]
  | some x =>
    by_cases hneed : s.hall.state = .joined ∧ x.needsClaim s.lowWater = true
    · cases hsearch : x.search with
      | none => rw [needTested_full hx hneed hsearch, length_resupplied]
      | some b => rw [needTested_chosen hx hneed hsearch, length_resupplied, length_modifySlot]
    · rw [needTested_unneeded hx hneed]

theorem length_foldl_offerItem (items : List OwedItem) (s : State) :
    (items.foldl State.offerItem s).alloc.slots.length = s.alloc.slots.length := by
  induction items generalizing s with
  | nil => rfl
  | cons i items ih =>
    have hitem : (s.offerItem i).alloc.slots.length = s.alloc.slots.length := by
      unfold State.offerItem
      split
      · cases i with
        | held | claim | holds | spent => exact length_modifySlot _ _ _
        | join | cutover | bagnext => rfl
      · rfl
    rw [List.foldl_cons, ih, hitem]

theorem length_offerOwed (s : State) : s.offerOwed.alloc.slots.length = s.alloc.slots.length := by
  unfold State.offerOwed
  split
  · exact length_foldl_offerItem _ s
  · rfl

theorem length_completed (q : Quote) (commit : RequestRef) (k : Nat) (c : CurrentBlock) (s : State) :
    (s.completed q commit k c).alloc.slots.length = s.alloc.slots.length := by
  have hdropped : ∀ (id : BankId) (u : State), (u.dropRef id).alloc = u.alloc := fun id u => by
    rw [dropRef_eq]
    cases id <;> rfl
  have hposted : ∀ (offer : Bool) (u : State), (u.parcelPosted q k c offer).alloc.slots.length = u.alloc.slots.length :=
    fun offer u => by
      unfold State.parcelPosted State.offerSlot
      dsimp only
      split
      · split
        · rfl
        · exact length_foldl_offerItem _ _
      · rfl
  have hdrawn : ((s.leaving q).serialDrawn k c).alloc.slots.length = s.alloc.slots.length := by
    rw [State.serialDrawn, length_resupplied, length_needTested, length_modifySlot]
    rfl
  rw [State.completed, hdropped]
  exact (hposted _ _).trans hdrawn

theorem length_judgeEntry (s : State) (n : Nat) : (s.judgeEntry n).alloc.slots.length = s.alloc.slots.length := by
  rcases judgeEntry_cases s n with hnot | ⟨q, ref, k, c, hq, hstate, hcan⟩
  · rw [judgeEntry_not hnot]
  · rw [judgeEntry_complete hq hstate hcan, ← carried_alloc (s.complete q ref k c), carried_complete, length_completed,
      carried_alloc]

theorem length_foldl_judgeEntry (ns : List Nat) (s : State) :
    (ns.foldl State.judgeEntry s).alloc.slots.length = s.alloc.slots.length := by
  induction ns generalizing s with
  | nil => rfl
  | cons n ns ih => rw [List.foldl_cons, ih, length_judgeEntry]

theorem length_finish (own : Nat) (order : RoomOrder) (s : State) :
    (s.finish own order).alloc.slots.length = s.alloc.slots.length := by
  have hserve : ∀ u : State, u.serveIfDue.alloc.slots.length = u.alloc.slots.length := fun u => by
    unfold State.serveIfDue
    split
    · exact length_foldl_judgeEntry _ u
    · rfl
  have hoffer : ∀ u : State, u.offerIfDue.alloc.slots.length = u.alloc.slots.length := fun u => by
    unfold State.offerIfDue
    split
    · exact length_offerOwed u
    · rfl
  cases order with
  | servingFirst => exact (hoffer _).trans (hserve s)
  | owedFirst => exact (hserve _).trans (hoffer s)

theorem length_served (s : State) : s.served.alloc.slots.length = s.alloc.slots.length := by
  unfold State.served
  generalize s.quotes.pendingOrder = ns
  induction ns generalizing s with
  | nil => rfl
  | cons n ns ih =>
    have hdid : (s.did (.commitCompletion n)).alloc.slots.length = s.alloc.slots.length :=
      (length_finish s.link.nextId .owedFirst (s.judgeEntry n)).trans (length_judgeEntry s n)
    rw [List.foldl_cons, ih, hdid]

/-- The taking of the room leaves as many slots. -/
theorem length_roomTaken (order : RoomOrder) (serve offer : Bool) (s : State) :
    (s.roomTaken order serve offer).alloc.slots.length = s.alloc.slots.length := by
  have hoffered : ∀ u : State, u.offered.alloc.slots.length = u.alloc.slots.length := length_offerOwed
  cases order <;> simp only [State.roomTaken] <;> split_ifs <;> simp only [length_served, hoffered]

/-- A slot that is there stays there. -/
theorem exists_slot_roomTaken {k : Nat} {x : Slot} {s : State} (hx : s.alloc.slots[k]? = some x) (order : RoomOrder)
    (serve offer : Bool) : ∃ y, (s.roomTaken order serve offer).alloc.slots[k]? = some y := by
  obtain ⟨hlt, -⟩ := List.getElem?_eq_some_iff.mp hx
  exact ⟨_, List.getElem?_eq_getElem (hlt.trans_eq (length_roomTaken order serve offer s).symm)⟩

/-! ### The room where no COMMIT is pending -/

/-- An offering is the entry of the first of the owed items, as many as are admitted, or of none (R157). -/
theorem offered_entered (s : State) : ∃ entered, Offered s s.offered entered := by
  show ∃ entered, Offered s s.offerOwed entered
  unfold State.offerOwed
  split
  · obtain ⟨entered, h, -⟩ := offered_owedItems s.owedItems (s := s) rfl
    exact ⟨entered, h⟩
  · exact ⟨[], .nil s⟩

/-- With no COMMIT pending the room goes to the owed items alone, and only what was owed enters. -/
theorem roomTaken_entered {s : State} (h : s.quotes.pendingOrder = []) (order : RoomOrder) (serve offer : Bool) :
    ∃ entered, Offered s (s.roomTaken order serve offer) entered := by
  have hserved : ∀ {u : State}, u.quotes.pendingOrder = [] → (if serve then u.served else u) = u := fun hu => by
    split
    · exact served_of_nil hu
    · rfl
  have hoffering : ∃ entered, Offered s (if offer then s.offered else s) entered := by
    split
    · exact offered_entered s
    · exact ⟨[], .nil s⟩
  obtain ⟨entered, hentered⟩ := hoffering
  have hpending : (if offer then s.offered else s).quotes.pendingOrder = [] := by
    rw [hentered.kept.parts]
    exact h
  refine ⟨entered, ?_⟩
  cases order with
  | servingFirst =>
    show Offered s (if offer then (if serve then s.served else s).offered else (if serve then s.served else s)) entered
    rw [hserved h]
    exact hentered
  | owedFirst =>
    show Offered s (if serve then (if offer then s.offered else s).served else (if offer then s.offered else s)) entered
    rw [hserved hpending]
    exact hentered

/-- Frames that enter one after another. -/
theorem mem_foldl_insertFrame {α : Type} (g : α → QueuedFrame) (items : List α) (queue : List QueuedFrame) (f : QueuedFrame) :
    f ∈ items.foldl (fun q i => insertFrame q (g i)) queue ↔ f ∈ queue ∨ ∃ i ∈ items, f = g i := by
  induction items generalizing queue with
  | nil => simp
  | cons i items ih =>
    rw [List.foldl_cons, ih, mem_insertFrame]
    simp only [List.mem_cons, exists_eq_or_imp]
    tauto

namespace Offered

variable {s t : State} {entered : List OwedItem} (h : Offered s t entered)
include h

/-- A frame of the queue was there before, or is of an owed item. -/
theorem mem_queue {f : QueuedFrame} (hf : f ∈ t.hall.queue) : f ∈ s.hall.queue ∨ ∃ i ∈ s.owedItems, f = s.entryOf i := by
  rw [h.queue, mem_foldl_insertFrame] at hf
  rcases hf with hf | ⟨i, hi, hf⟩
  · exact .inl hf
  · exact .inr ⟨i, by rw [h.items]; exact List.mem_append_left _ hi, hf⟩

/-- Nothing comes to be owed. -/
theorem owedHeld_subset {k b : Nat} {x y : Slot} (hx : s.alloc.slots[k]? = some x) (hy : t.alloc.slots[k]? = some y)
    (hb : b ∈ y.owedHeld) : b ∈ x.owedHeld := by
  have hmem : OwedItem.held k b ∈ s.owedItems := by
    rw [h.items]
    exact List.mem_append_right _ ((mem_owedItems t _).mpr (.inl ⟨k, y, hy, b, hb, rfl⟩))
  simp only [mem_owedItems, OwedItem.held.injEq, reduceCtorEq, and_false, exists_false, or_false] at hmem
  obtain ⟨j, x', hx', b', hb', rfl, rfl⟩ := hmem
  rwa [Option.some.inj (hx.symm.trans hx')]

/-- A HELD that is owed stays owed, or its frame is in the queue (R121, R157). -/
theorem held_owed_or_queued {k b : Nat} {x y : Slot} (hx : s.alloc.slots[k]? = some x) (hy : t.alloc.slots[k]? = some y)
    (hb : b ∈ x.owedHeld) : b ∈ y.owedHeld ∨ ∃ f ∈ t.hall.queue, f.frame.body = .held x.letter b := by
  have hmem : OwedItem.held k b ∈ s.owedItems := (mem_owedItems s _).mpr (.inl ⟨k, x, hx, b, hb, rfl⟩)
  rw [h.items] at hmem
  rcases List.mem_append.mp hmem with hmem | hmem
  · refine .inr ⟨s.entryOf (.held k b), ?_, ?_⟩
    · rw [h.queue, mem_foldl_insertFrame]
      exact .inr ⟨_, hmem, rfl⟩
    · show FrameBody.held (s.letterOf k) b = _
      rw [State.letterOf, hx]
      rfl
  · simp only [mem_owedItems, OwedItem.held.injEq, reduceCtorEq, and_false, exists_false, or_false] at hmem
    obtain ⟨j, y', hy', b', hb', rfl, rfl⟩ := hmem
    rw [Option.some.inj (hy.symm.trans hy')]
    exact .inl hb'

end Offered

end Sys2Proof.Machine
end

section
/-! What a re-evaluation and a test of the need leave of the slot, of the quote table and of the output queue, in the words of the
statements (R111 to R113, R178, R179). -/

namespace Sys2Proof.Machine

/-! ### The slot after a test of its need -/

/-- From `x` to `z` a claim may have been made for a free block, which is then marked, and the supply state may have been
re-evaluated (R111 to R113). -/
structure Slot.Sought (x z : Slot) : Prop where
  rest : z = { x with marks := z.marks, claim := z.claim, supply := z.supply }
  marked : ∀ b, x.marked b = true → z.marked b = true
  claim : z.claim = x.claim ∨ x.claim = .none ∧ ∃ b, z.claim = .owed b ∧ x.marked b = false

namespace Slot.Sought

theorem refl (x : Slot) : x.Sought x := ⟨rfl, fun _ => id, .inl rfl⟩

/-- The supply state has no part in it. -/
theorem resupply {x z : Slot} (h : x.Sought z) (v : Supply) : x.Sought { z with supply := v } :=
  ⟨by rw [h.rest], h.marked, h.claim⟩

/-- A claim is made for a free block, which is marked. -/
theorem chosen {x : Slot} {b : Nat} (hclaim : x.claim = .none) (hsearch : x.search = some b) :
    x.Sought { x.setMark b with claim := .owed b } := by
  obtain ⟨n, rfl, -, hfree⟩ := search_spec x b hsearch
  refine ⟨rfl, fun c hc => (Slot.MarkedOn.setMark (x.first + n) x).marked hc, .inr ⟨hclaim, _, rfl, ?_⟩⟩
  rw [List.getD_eq_getElem?_getD] at hfree
  rw [Slot.marked, Nat.add_sub_cancel_left, List.getD_eq_getElem?_getD]
  cases hget : x.marks[n]? with
  | none => rw [hget] at hfree; cases hfree
  | some m => rwa [hget] at hfree

variable {x z : Slot} (h : x.Sought z)
include h

theorem current : z.current = x.current := by rw [h.rest]
theorem reserve : z.reserve = x.reserve := by rw [h.rest]
theorem owedHeld : z.owedHeld = x.owedHeld := by rw [h.rest]
theorem cursor : z.cursor = x.cursor := by rw [h.rest]
theorem letter : z.letter = x.letter := by rw [h.rest]
theorem holds (b : Nat) : z.holds b = x.holds b := by rw [h.rest]; rfl

/-- A block that is marked and not claimed is not claimed afterwards. -/
theorem not_claimed {b : Nat} (hclaim : x.claim.block? ≠ some b) (hmarked : x.marked b = true) : z.claim.block? ≠ some b := by
  rcases h.claim with hsame | ⟨-, c, howed, hfree⟩
  · rwa [hsame]
  · rw [howed]
    intro hcb
    obtain rfl : c = b := Option.some.inj hcb
    rw [hfree] at hmarked
    cases hmarked

end Slot.Sought

/-- The slot with the need tested that a station in JOINED has for it (R112, R113). -/
def Slot.tested (lowWater : Nat) (x : Slot) : Slot :=
  if x.needsClaim lowWater then (x.sought lowWater).resupply else x

/-- The slots after a re-evaluation (R111). -/
theorem slots_resupplied (k : Nat) (s : State) : (s.resupplied k).alloc.slots = s.alloc.slots.modify k Slot.resupply := by
  rw [alloc_resupplied]
  rfl

/-- The slots after a test of the need (R112, R113). -/
theorem slots_needTested (k : Nat) (s : State) :
    (s.needTested k).alloc.slots =
      if s.hall.state = .joined then s.alloc.slots.modify k (Slot.tested s.lowWater) else s.alloc.slots := by
  split
  · rename_i hjoined
    cases hx : s.alloc.slots[k]? with
    | none => rw [needTested_none hx, List.modify_eq_self (List.getElem?_eq_none_iff.mp hx)]
    | some x =>
      by_cases hneed : x.needsClaim s.lowWater = true
      · cases hsearch : x.search with
        | none =>
          rw [needTested_full hx ⟨hjoined, hneed⟩ hsearch, slots_resupplied]
          refine modify_congr_at hx ?_
          rw [Slot.tested, Slot.sought, if_pos hneed, if_pos hneed, hsearch]
        | some b =>
          rw [needTested_chosen hx ⟨hjoined, hneed⟩ hsearch, slots_resupplied, State.modifySlot_alloc, List.modify_modify_eq]
          refine modify_congr_at hx ?_
          rw [Slot.tested, Slot.sought, if_pos hneed, if_pos hneed, hsearch]
          rfl
      · rw [needTested_unneeded hx fun h => hneed h.2]
        have hsame : x = x.tested s.lowWater := (if_neg hneed).symm
        exact (List.modify_id k _).symm.trans (modify_congr_at hx hsame)
  · rename_i hstate
    rw [needTested_of_not_joined hstate]

/-- A tested slot has at most made a claim. -/
theorem sought_tested (lowWater : Nat) (x : Slot) : x.Sought (x.tested lowWater) := by
  unfold Slot.tested Slot.sought
  split
  · rename_i hneed
    obtain ⟨-, -, hclaim, -⟩ := (needsClaim_iff x lowWater).mp hneed
    split
    · exact (Slot.Sought.refl x).resupply _
    · rename_i b hsearch
      exact (Slot.Sought.chosen hclaim hsearch).resupply _
  · exact .refl x

/-- A slot after a re-evaluation and a test of the need (R111 to R113). -/
theorem slot_reviewed {k : Nat} {x : Slot} {s : State} (hx : s.alloc.slots[k]? = some x) :
    ∃ z, ((s.resupplied k).needTested k).alloc.slots[k]? = some z ∧ x.Sought z := by
  have hy : (s.resupplied k).alloc.slots[k]? = some x.resupply := slot_resupplied hx
  have hback : ∀ {z : Slot}, x.resupply.Sought z → x.Sought z := fun {z} h => ⟨by rw [h.rest]; rfl, h.marked, h.claim⟩
  rw [slots_needTested]
  split
  · refine ⟨x.resupply.tested (s.resupplied k).lowWater, ?_, hback (sought_tested _ _)⟩
    rw [List.getElem?_modify, hy]
    simp
  · exact ⟨_, hy, (Slot.Sought.refl x).resupply _⟩

/-- The other slots stand. -/
theorem slot_reviewed_other {k j : Nat} (h : k ≠ j) (s : State) :
    ((s.resupplied k).needTested k).alloc.slots[j]? = s.alloc.slots[j]? := by
  rw [slot_needTested_other _ h, slot_resupplied_other _ h]

/-- What becomes of the slots turns on the slots, the controller and the configuration alone. -/
theorem slots_reviewed_same {u v : State} (hslots : u.alloc.slots = v.alloc.slots) (hhall : u.hall = v.hall)
    (hsetup : u.setup = v.setup) (k : Nat) :
    ((u.resupplied k).needTested k).alloc.slots = ((v.resupplied k).needTested k).alloc.slots := by
  have hparts : ∀ w : State, (w.resupplied k).hall = w.hall ∧ (w.resupplied k).setup = w.setup := fun w => by
    rw [resupplied_frame]
    exact ⟨rfl, rfl⟩
  rw [slots_needTested, slots_needTested, State.lowWater, State.lowWater, (hparts u).1, (hparts v).1, (hparts u).2, (hparts v).2,
    slots_resupplied, slots_resupplied, hslots, hhall, hsetup]

/-- A re-evaluation and a test of the need touch the slots, the quote table and the counter link alone. -/
theorem reviewed_frame (k : Nat) (s : State) :
    (s.resupplied k).needTested k =
      { s with
        alloc := { s.alloc with slots := ((s.resupplied k).needTested k).alloc.slots }
        quotes := ((s.resupplied k).needTested k).quotes, link := ((s.resupplied k).needTested k).link } := by
  have hfirst := resupplied_frame k s
  have hsecond := needTested_frame k (s.resupplied k)
  rw [hsecond, hfirst]

/-! ### The quote table where no COMMIT is pending -/

theorem quotes_resupplied_of_nil {s : State} (h : s.quotes.pendingOrder = []) (k : Nat) : (s.resupplied k).quotes = s.quotes := by
  cases hx : s.alloc.slots[k]? with
  | none => rw [resupplied_none hx]
  | some x =>
    have hnone : s.pendingOf x.letter = [] := by rw [State.pendingOf, h, List.filter_nil]
    by_cases hexhausted : x.supplyOf = .exhausted ∧ x.supply ≠ .exhausted
    · rw [resupplied_exhausted hx hexhausted, hnone, turnedBack_nil]
      rfl
    · by_cases hlast : x.current = none ∨ ¬ (x.supplyOf = .last ∧ x.supply ≠ .last)
      · rw [resupplied_quiet hx hexhausted hlast]
        rfl
      · obtain ⟨hcurrent, hlast⟩ := not_or.mp hlast
        obtain ⟨c, hcurrent⟩ := Option.ne_none_iff_exists'.mp hcurrent
        rw [resupplied_last hx hcurrent (not_not.mp hlast)]
        rfl

theorem quotes_needTested_of_nil {s : State} (h : s.quotes.pendingOrder = []) (k : Nat) : (s.needTested k).quotes = s.quotes := by
  cases hx : s.alloc.slots[k]? with
  | none => rw [needTested_none hx]
  | some x =>
    by_cases hneed : s.hall.state = .joined ∧ x.needsClaim s.lowWater = true
    · cases hsearch : x.search with
      | none => rw [needTested_full hx hneed hsearch, quotes_resupplied_of_nil h]
      | some b =>
        rw [needTested_chosen hx hneed hsearch]
        exact quotes_resupplied_of_nil (s := s.modifySlot k _) h k
    · rw [needTested_unneeded hx hneed]

theorem quotes_reviewed_of_nil {s : State} (h : s.quotes.pendingOrder = []) (k : Nat) :
    ((s.resupplied k).needTested k).quotes = s.quotes := by
  have hfirst := quotes_resupplied_of_nil h k
  rw [quotes_needTested_of_nil (by rw [hfirst]; exact h), hfirst]

/-! ### The output queue grows -/

/-- The messages of the output queue stay at its front (R178, R179). -/
@[reducible] def OutputKept (s t : State) : Prop := s.link.output <+: t.link.output

theorem outputKept_said (m : OutMsg) (s : State) : OutputKept s (s.said m) := by
  show s.link.output <+: (s.link.accept m).output
  unfold Link.accept
  split
  · exact List.prefix_append _ _
  · exact List.prefix_rfl

theorem outputKept_noticed (n : Notice) (s : State) : OutputKept s (s.noticed n) := outputKept_said _ s

theorem outputKept_turnedBack (reason : Reason) (ns : List Nat) (s : State) : OutputKept s (s.turnedBack reason ns) := by
  induction ns generalizing s with
  | nil => exact List.prefix_rfl
  | cons n ns ih =>
    rw [turnedBack_cons]
    refine List.IsPrefix.trans ?_ (ih _)
    rcases committing_or n s with hnone | ⟨q, ref, hq, hstate⟩
    · rw [turnedBack_notCommitting reason hnone]
    · rw [turnedBack_committing reason hq hstate]
      exact outputKept_said _ (s.reopened n)

theorem outputKept_resupplied (k : Nat) (s : State) : OutputKept s (s.resupplied k) := by
  cases hx : s.alloc.slots[k]? with
  | none => rw [resupplied_none hx]
  | some x =>
    by_cases hexhausted : x.supplyOf = .exhausted ∧ x.supply ≠ .exhausted
    · rw [resupplied_exhausted hx hexhausted]
      exact (outputKept_noticed _ (s.modifySlot k _)).trans (outputKept_turnedBack _ _ _)
    · by_cases hlast : x.current = none ∨ ¬ (x.supplyOf = .last ∧ x.supply ≠ .last)
      · rw [resupplied_quiet hx hexhausted hlast]
        exact List.prefix_rfl
      · obtain ⟨hcurrent, hlast⟩ := not_or.mp hlast
        obtain ⟨c, hcurrent⟩ := Option.ne_none_iff_exists'.mp hcurrent
        rw [resupplied_last hx hcurrent (not_not.mp hlast)]
        exact outputKept_noticed _ (s.modifySlot k _)

theorem outputKept_needTested (k : Nat) (s : State) : OutputKept s (s.needTested k) := by
  cases hx : s.alloc.slots[k]? with
  | none => rw [needTested_none hx]
  | some x =>
    by_cases hneed : s.hall.state = .joined ∧ x.needsClaim s.lowWater = true
    · cases hsearch : x.search with
      | none =>
        rw [needTested_full hx hneed hsearch]
        exact outputKept_resupplied k s
      | some b =>
        rw [needTested_chosen hx hneed hsearch]
        exact outputKept_resupplied k (s.modifySlot k _)
    · rw [needTested_unneeded hx hneed]

/-- A notice enters the output queue unless that holds 23 messages (R179). -/
theorem noticed_enters (n : Notice) (s : State) :
    (∃ seq, OutEntry.of (.notice seq n) ∈ (s.noticed n).link.output) ∨ 23 ≤ (s.noticed n).link.output.length := by
  have houtput : (s.noticed n).link.output = (s.link.accept (.notice s.link.noticeSeq n)).output := rfl
  rw [houtput, Link.accept]
  split
  · exact .inl ⟨s.link.noticeSeq, by simp⟩
  · rename_i h
    refine .inr (Nat.not_lt.mp fun hlt => h ?_)
    exact (Bool.or_eq_true _ _).mpr (.inr (decide_eq_true hlt))

/-- What has entered stays while the queue only grows. -/
theorem noticed_stays {n : Notice} {s t : State} (h : OutputKept s t)
    (hs : (∃ seq, OutEntry.of (.notice seq n) ∈ s.link.output) ∨ 23 ≤ s.link.output.length) :
    (∃ seq, OutEntry.of (.notice seq n) ∈ t.link.output) ∨ 23 ≤ t.link.output.length := by
  rcases hs with ⟨seq, hseq⟩ | hlen
  · exact .inl ⟨seq, h.subset hseq⟩
  · exact .inr (hlen.trans h.length_le)

end Sys2Proof.Machine
end

section
/-! A claim that is lost: the frames that leave the queue, what that makes due, and the slot afterwards (R116, R117, R158). -/

namespace Sys2Proof.Machine

/-! ### Frames that leave the queue -/

/-- From `s` to `t` frames may have left the queue, and a fall has made an offering and a serving due (R158). -/
structure Fallen (s t : State) : Prop where
  next : t.link.nextId = s.link.nextId
  shorter : t.hall.queue.length ≤ s.hall.queue.length
  offer : t.scratch.offerDue = (s.scratch.offerDue || decide (t.hall.queue.length < s.hall.queue.length))
  serve : t.scratch.serveDue = (s.scratch.serveDue || decide (t.hall.queue.length < s.hall.queue.length))

theorem Fallen.refl (s : State) : Fallen s s := ⟨rfl, Nat.le_refl _, by simp, by simp⟩

theorem Fallen.trans {s t u : State} (h : Fallen s t) (h' : Fallen t u) : Fallen s u := by
  have hfell : decide (u.hall.queue.length < s.hall.queue.length) =
      (decide (t.hall.queue.length < s.hall.queue.length) || decide (u.hall.queue.length < t.hall.queue.length)) := by
    rw [← Bool.decide_or, decide_eq_decide]
    have hst := h.shorter
    have htu := h'.shorter
    omega
  refine ⟨h'.next.trans h.next, h'.shorter.trans h.shorter, ?_, ?_⟩
  · rw [h'.offer, h.offer, hfell, Bool.or_assoc]
  · rw [h'.serve, h.serve, hfell, Bool.or_assoc]

/-- A withdrawal makes due what its fall makes due (R158). -/
theorem fallen_withdraw (body : FrameBody) (s : State) : Fallen s (s.withdraw body) := by
  unfold State.withdraw
  split
  · rename_i hany
    obtain ⟨q, hq, hqueued⟩ := List.any_eq_true.mp hany
    have hlength : (s.hall.queue.eraseP (s.withdrawable body)).length < s.hall.queue.length := by
      rw [List.length_eraseP_of_mem hq hqueued]
      exact Nat.sub_one_lt (List.length_pos_of_mem hq).ne'
    refine ⟨rfl, hlength.le, ?_, ?_⟩
    · exact ((Bool.or_eq_true _ _).mpr (.inr (decide_eq_true hlength))).symm
    · exact ((Bool.or_eq_true _ _).mpr (.inr (decide_eq_true hlength))).symm
  · exact .refl s

/-- A withdrawal touches no slot. -/
theorem alloc_withdraw (body : FrameBody) (s : State) : (s.withdraw body).alloc = s.alloc := by
  unfold State.withdraw
  split <;> rfl

/-- Of a list with at most one element of a kind, none is left when the first is taken out. -/
theorem not_mem_eraseP_of_countP_le_one {α : Type} {p : α → Bool} {l : List α} (h : l.countP p ≤ 1) {a : α} (ha : p a = true) :
    a ∉ l.eraseP p := by
  induction l with
  | nil => simp
  | cons x l ih =>
    by_cases hx : p x = true
    · have hnone : l.countP p = 0 := by simpa [List.countP_cons, hx] using h
      rw [List.eraseP_cons_of_pos hx]
      exact fun hmem => List.countP_eq_zero.mp hnone a hmem ha
    · rw [List.countP_cons_of_neg hx] at h
      rw [List.eraseP_cons_of_neg hx, List.mem_cons, not_or]
      exact ⟨fun hax => hx (hax ▸ ha), ih h⟩

/-! ### The slot and the queue after a lost claim -/

/-- A slot whose claim for the block is lost (R117). -/
def Slot.unclaimed (b : Nat) (x : Slot) : Slot :=
  { x with claim := .none, owedHeld := x.owedHeld.erase b, cursor := if b + 1 < x.first + x.count then b + 1 else x.first }

/-- The frames of the lost claim have left the queue (R117). -/
def State.claimFramesGone (x : Slot) (b : Nat) (s : State) : State :=
  (if x.claim = .queued b then s.withdrew (.claim x.letter b) else s).withdrew (.held x.letter b)

section

variable {k b : Nat} {x : Slot} {s : State} (hx : s.alloc.slots[k]? = some x)
include hx

theorem loseClaim_eq : s.loseClaim k b =
    ((((if x.claim = .queued b then s.withdraw (.claim x.letter b) else s).withdraw (.held x.letter b)).modifySlot k
      (Slot.unclaimed b)).reviewSupply k).testNeed k := by
  simp only [State.loseClaim, hx]
  rfl

theorem claimLost_eq : s.claimLost k b =
    (((s.claimFramesGone x b).modifySlot k (Slot.unclaimed b)).resupplied k).needTested k := by
  simp only [State.claimLost, hx]
  rfl

/-- What a lost claim makes due: an offering and a serving for the fall, and an offering for a new claim (R117, R157, R158). -/
theorem loseClaim_due :
    let l := s.loseClaim k b
    let fell := decide (l.hall.queue.length < s.hall.queue.length)
    l.link.nextId = s.link.nextId ∧ l.scratch.serveDue = (s.scratch.serveDue || fell)
      ∧ l.scratch.offerDue = (s.scratch.offerDue || fell || (l.alloc.slots[k]?).any fun y => decide (y.claim ≠ .none)) := by
  intro l fell
  let u : State := (if x.claim = .queued b then s.withdraw (.claim x.letter b) else s).withdraw (.held x.letter b)
  let v : State := (u.modifySlot k (Slot.unclaimed b)).reviewSupply k
  have hl : l = v.testNeed k := loseClaim_eq hx
  have hfallen : Fallen s u := by
    refine Fallen.trans ?_ (fallen_withdraw _ _)
    split
    · exact fallen_withdraw _ s
    · exact .refl s
  have hslot : u.alloc.slots[k]? = some x := by
    have halloc : u.alloc = s.alloc := by
      rw [alloc_withdraw]
      split
      · rw [alloc_withdraw]
      · rfl
    rw [halloc, hx]
  have hcarried : l.carried = (((u.modifySlot k (Slot.unclaimed b)).carried.resupplied k).needTested k) := by
    rw [hl, carried_testNeed, carried_reviewSupply]
  have hhall : l.hall = u.hall := by
    have hframe := reviewed_frame k (u.modifySlot k (Slot.unclaimed b)).carried
    rw [← carried_hall l, hcarried, hframe]
    rfl
  have hvslot : (v.carried.alloc.slots[k]?).map Slot.claim = some .none := by
    rw [carried_reviewSupply, slot_resupplied (s := (u.modifySlot k (Slot.unclaimed b)).carried) (slot_modifySlot hslot _)]
    rfl
  have hchosen : ((l.alloc.slots[k]?).any fun y => decide (y.claim ≠ .none)) = v.chooses k := by
    have hmap : (l.alloc.slots[k]?).map Slot.claim = ((v.carried.needTested k).alloc.slots[k]?).map Slot.claim := by
      rw [← carried_testNeed, ← hl, carried_alloc]
    have hany : ((l.alloc.slots[k]?).any fun y => decide (y.claim ≠ .none)) =
        ((l.alloc.slots[k]?).map Slot.claim).any fun c => decide (c ≠ .none) := by
      cases l.alloc.slots[k]? <;> rfl
    rw [hany, hmap]
    cases hchooses : v.chooses k with
    | true =>
      obtain ⟨c, hc⟩ := claim_needTested_chosen (s := v.carried) hchooses
      rw [hc]
      rfl
    | false =>
      rw [claim_needTested_not (s := v.carried) hchooses, hvslot]
      rfl
  obtain ⟨hnext, hoffer, hserve⟩ := testNeed_due k v
  obtain ⟨hnext', hoffer', hserve'⟩ := reviewSupply_sameDue k (u.modifySlot k (Slot.unclaimed b))
  have hfell : fell = decide (u.hall.queue.length < s.hall.queue.length) := by
    show decide (l.hall.queue.length < s.hall.queue.length) = _
    rw [hhall]
  refine ⟨?_, ?_, ?_⟩
  · rw [hl, hnext, hnext']
    exact hfallen.next
  · rw [hl, hserve, hserve', hfell]
    exact hfallen.serve
  · rw [hchosen, hl, hoffer, hoffer', hfell]
    exact congrArg (· || v.chooses k) hfallen.offer

/-- A lost claim, slot by slot (R117). -/
theorem slot_claimLost :
    (∃ z, (s.claimLost k b).alloc.slots[k]? = some z ∧ (x.unclaimed b).Sought z)
      ∧ ∀ j, k ≠ j → (s.claimLost k b).alloc.slots[j]? = s.alloc.slots[j]? := by
  have hgone : (s.claimFramesGone x b).alloc = s.alloc := by
    unfold State.claimFramesGone
    split <;> rfl
  have hslot : ((s.claimFramesGone x b).modifySlot k (Slot.unclaimed b)).alloc.slots[k]? = some (x.unclaimed b) :=
    slot_modifySlot (by rw [hgone, hx]) _
  rw [claimLost_eq hx]
  refine ⟨slot_reviewed hslot, fun j hj => ?_⟩
  rw [slot_reviewed_other hj, slots_modifySlot, if_neg hj, hgone]

/-- A lost claim and the queue (R117). -/
theorem queue_claimLost : (s.claimLost k b).hall = (s.claimFramesGone x b).hall := by
  rw [claimLost_eq hx, reviewed_frame]
  rfl

/-- A lost claim and the quote table, where no COMMIT is pending. -/
theorem quotes_claimLost (h : s.quotes.pendingOrder = []) : (s.claimLost k b).quotes = s.quotes := by
  have hgone : (s.claimFramesGone x b).quotes = s.quotes := by
    unfold State.claimFramesGone
    split <;> rfl
  rw [claimLost_eq hx, quotes_reviewed_of_nil]
  · exact hgone
  · show (s.claimFramesGone x b).quotes.pendingOrder = []
    rw [hgone, h]

end

/-- The frames that are left where the lost claim's frames were alone of their kind, and none was being attempted (R117, R158). -/
theorem queue_claimFramesGone {x : Slot} {b : Nat} {s : State} (hattempt : s.hall.attempt = none) :
    (s.claimFramesGone x b).hall.queue.Sublist s.hall.queue
      ∧ (x.claim = .queued b → s.hall.queue.countP (fun q => decide (q.frame.body = .claim x.letter b)) ≤ 1 →
          ∀ f ∈ (s.claimFramesGone x b).hall.queue, f.frame.body ≠ .claim x.letter b)
      ∧ (s.hall.queue.countP (fun q => decide (q.frame.body = .held x.letter b)) ≤ 1 →
          ∀ f ∈ (s.claimFramesGone x b).hall.queue, f.frame.body ≠ .held x.letter b) := by
  have hwithdrew : ∀ (body : FrameBody) (u : State), u.hall.attempt = none →
      (u.withdrew body).hall.queue = u.hall.queue.eraseP fun q => decide (q.frame.body = body) := fun body u hu => by
    show (u.hall.queue.eraseP fun q => decide (q.frame.body = body ∧ u.hall.attempt ≠ some q.frame)) = _
    simp [hu]
  let u : State := if x.claim = .queued b then s.withdrew (.claim x.letter b) else s
  have hu : u.hall.attempt = none := by
    show (if x.claim = .queued b then s.withdrew (.claim x.letter b) else s).hall.attempt = none
    split
    · exact hattempt
    · exact hattempt
  have hsublist : u.hall.queue.Sublist s.hall.queue := by
    show (if x.claim = .queued b then s.withdrew (.claim x.letter b) else s).hall.queue.Sublist _
    split
    · exact List.eraseP_sublist
    · exact List.Sublist.refl _
  have hqueue : (s.claimFramesGone x b).hall.queue = u.hall.queue.eraseP fun q => decide (q.frame.body = .held x.letter b) :=
    hwithdrew _ u hu
  rw [hqueue]
  refine ⟨List.eraseP_sublist.trans hsublist, fun hqueued hone f hf hbody => ?_, fun hone f hf hbody => ?_⟩
  · have hclaim : u.hall.queue = s.hall.queue.eraseP fun q => decide (q.frame.body = .claim x.letter b) := by
      have hif : u = s.withdrew (.claim x.letter b) := if_pos hqueued
      rw [hif, hwithdrew _ s hattempt]
    have hmem : f ∈ u.hall.queue := List.eraseP_subset hf
    rw [hclaim] at hmem
    exact not_mem_eraseP_of_countP_le_one (p := fun q : QueuedFrame => decide (q.frame.body = .claim x.letter b)) hone
      (decide_eq_true hbody) hmem
  · exact not_mem_eraseP_of_countP_le_one (p := fun q : QueuedFrame => decide (q.frame.body = .held x.letter b))
      ((hsublist.countP_le).trans hone) (decide_eq_true hbody) hf

end Sys2Proof.Machine
end

section
/-! The race for a block (R116 to R118): a heard frame that names the claimed block, whatever its kind. -/

namespace Sys2Proof.Machine

/-! ### What the marks of a heard frame keep -/

/-- From `s` to `t` only the peer holdings column, the conflict log, the bag table, the counter link and the scratch may have
changed, and the controller's liveness and acknowledge slot. -/
structure Unmoved (s t : State) : Prop where
  slots : t.alloc.slots = s.alloc.slots
  queue : t.hall.queue = s.hall.queue
  attempt : t.hall.attempt = s.hall.attempt
  state : t.hall.state = s.hall.state
  quotes : t.quotes = s.quotes
  weighing : t.weighing = s.weighing
  gauge : t.gauge = s.gauge
  setup : t.setup = s.setup
  tariff : t.tariff = s.tariff

theorem Unmoved.refl (s : State) : Unmoved s s := ⟨rfl, rfl, rfl, rfl, rfl, rfl, rfl, rfl, rfl⟩

theorem unmoved_logged (r : ConflictRecord) (s : State) : Unmoved s (s.logged r) := by
  rw [logged_frame]
  exact ⟨rfl, rfl, rfl, rfl, rfl, rfl, rfl, rfl, rfl⟩

/-- From `s` to `t` the slot `k` may have been marked, and the others stand. -/
structure SlotMarked (k : Nat) (x : Slot) (s t : State) : Prop where
  slot : ∃ y, t.alloc.slots[k]? = some y ∧ x.MarkedOn y
  others : ∀ j, k ≠ j → t.alloc.slots[j]? = s.alloc.slots[j]?
  quotes : s.quotes.pendingOrder = [] → t.quotes = s.quotes
  hall : t.hall.queue = s.hall.queue ∧ t.hall.attempt = s.hall.attempt ∧ t.hall.state = s.hall.state
  rest : t.weighing = s.weighing ∧ t.gauge = s.gauge ∧ t.setup = s.setup ∧ t.tariff = s.tariff

/-- The namings of a heard frame and the re-evaluation that ends them (R126). -/
theorem slotMarked_named {k : Nat} {x : Slot} {s u : State} (hx : s.alloc.slots[k]? = some x) (h : Unmoved s u)
    (kind : FrameKind) (station : Nat) (serial : Option Nat) (blocks : List Nat) :
    SlotMarked k x s ((blocks.foldl (fun v b => v.peerNamed k kind station serial b) u).resupplied k) := by
  let v : State := blocks.foldl (fun v b => v.peerNamed k kind station serial b) u
  have hv : v = { u with
      alloc := { u.alloc with slots := v.alloc.slots, log := v.alloc.log, overflow := v.alloc.overflow }, link := v.link } :=
    peersNamed_frame k kind station serial blocks u
  have hr := resupplied_frame k v
  have hparts : v.quotes = u.quotes ∧ v.hall = u.hall ∧ v.weighing = u.weighing ∧ v.gauge = u.gauge ∧ v.setup = u.setup
      ∧ v.tariff = u.tariff := by
    rw [hv]
    exact ⟨rfl, rfl, rfl, rfl, rfl, rfl⟩
  obtain ⟨hquotes, hhall, hweighing, hgauge, hsetup, htariff⟩ := hparts
  have hothers : ∀ j, k ≠ j → v.alloc.slots[j]? = u.alloc.slots[j]? := by
    intro j hj
    show (blocks.foldl _ u).alloc.slots[j]? = _
    clear_value v
    clear hv hr hquotes hhall hweighing hgauge hsetup htariff h
    induction blocks generalizing u with
    | nil => rfl
    | cons b bs ih => rw [List.foldl_cons, ih, slot_peerNamed_other hj]
  refine ⟨slot_peersNamed (by rw [h.slots, hx]) kind station serial blocks, fun j hj => ?_, fun hnil => ?_, ?_, ?_⟩
  · rw [slot_resupplied_other v hj, hothers j hj, h.slots]
  · rw [quotes_resupplied_of_nil, hquotes, h.quotes]
    rw [hquotes, h.quotes, hnil]
  · rw [hr, hhall]
    exact ⟨h.queue, h.attempt, h.state⟩
  · rw [hr]
    exact ⟨hweighing.trans h.weighing, hgauge.trans h.gauge, hsetup.trans h.setup, htariff.trans h.tariff⟩

/-! ### The end of the claim -/

/-- What the statement says of the slot `y` that lost the claim for `b`, and of the rest, where no COMMIT is pending (R117). -/
def ClaimEnded (letter k b : Nat) (sl : Slot) (s t : State) (y : Slot) : Prop :=
  y.claim.block? ≠ some b ∧ y.marked b = true
    ∧ y.current = sl.current ∧ y.reserve = sl.reserve
    ∧ (sl.claim = .queued b → s.hall.attempt = none →
        s.hall.queue.countP (fun q => decide (q.frame.body = .claim letter b)) ≤ 1 →
        (∀ (j : Nat) (x : Slot), s.alloc.slots[j]? = some x → x.claim = .owed b → j = k) →
        ∀ f ∈ t.hall.queue, f.frame.body ≠ .claim letter b)
    ∧ (sl.owedHeld.Nodup → b ∉ y.owedHeld)
    ∧ (sl.owedHeld.Nodup → s.hall.attempt = none →
        s.hall.queue.countP (fun q => decide (q.frame.body = .held letter b)) ≤ 1 →
        (∀ (j : Nat) (x : Slot), s.alloc.slots[j]? = some x → b ∈ x.owedHeld → j = k) →
        ∀ f ∈ t.hall.queue, f.frame.body ≠ .held letter b)
    ∧ y.cursor = (if b + 1 < sl.first + sl.count then b + 1 else sl.first)
    ∧ t.weighing = s.weighing ∧ t.gauge = s.gauge ∧ t.quotes = s.quotes ∧ t.setup = s.setup
    ∧ t.tariff.bankA = s.tariff.bankA ∧ t.tariff.bankB = s.tariff.bankB

/-- An owed item whose frame is a CLAIM or a HELD for the block is owed by a slot (R155). -/
theorem owed_of_entry_claim {s : State} {i : OwedItem} {letter b : Nat} (hi : i ∈ s.owedItems)
    (hbody : (s.entryOf i).frame.body = .claim letter b) : ∃ (j : Nat) (x : Slot), s.alloc.slots[j]? = some x ∧ x.claim = .owed b := by
  have hbody : s.itemBody i = .claim letter b := hbody
  cases i with
  | claim j c =>
    obtain ⟨-, rfl⟩ := FrameBody.claim.inj hbody
    obtain ⟨x, hx, hclaim⟩ := (claim_mem_owedItems s j c).mp hi
    exact ⟨j, x, hx, hclaim⟩
  | held | join | holds | spent | cutover | bagnext => cases hbody

@[inherit_doc owed_of_entry_claim]
theorem owed_of_entry_held {s : State} {i : OwedItem} {letter b : Nat} (hi : i ∈ s.owedItems)
    (hbody : (s.entryOf i).frame.body = .held letter b) : ∃ (j : Nat) (x : Slot), s.alloc.slots[j]? = some x ∧ b ∈ x.owedHeld := by
  have hbody : s.itemBody i = .held letter b := hbody
  cases i with
  | held j c =>
    obtain ⟨-, rfl⟩ := FrameBody.held.inj hbody
    simp only [mem_owedItems, OwedItem.held.injEq, reduceCtorEq, and_false, exists_false, or_false] at hi
    obtain ⟨j', x, hx, c', hc, rfl, rfl⟩ := hi
    exact ⟨j', x, hx, hc⟩
  | claim | join | holds | spent | cutover | bagnext => cases hbody

section

variable {letter k b : Nat} {sl : Slot} {s : State} (hsound : sl.sound) (hclaim : sl.claim.block? = some b)
  (hletter : sl.letter = letter)
include hsound hclaim hletter

/-- From the lost claim to the room in the queue: what becomes of the slot, of its frames and of the rest. -/
theorem claimEnded_of_entered {w u t : State} {entered : List OwedItem} (hw : SlotMarked k sl s w)
    (hnil : s.quotes.pendingOrder = []) (hu : Unmoved (w.claimLost k b) u) (ht : Offered u t entered) {y : Slot}
    (hy : t.alloc.slots[k]? = some y) : ClaimEnded letter k b sl s t y := by
  obtain ⟨⟨x, hx, hmarked⟩, hothers, hquotes, ⟨hqueue, hattempt, -⟩, hweighing, hgauge, hsetup, htariff⟩ := hw
  obtain ⟨⟨z, hz, hsought⟩, hstand⟩ := slot_claimLost (b := b) hx
  have huz : u.alloc.slots[k]? = some z := by rw [hu.slots, hz]
  obtain ⟨y', hy', hunowed⟩ := ht.kept.slot huz
  obtain rfl : y' = y := Option.some.inj (hy'.symm.trans hy)
  have hyz := eq_of_unowed hunowed
  have hclaimed := block?_of_claimEntered (ht.kept.claims k z y' huz hy)
  obtain ⟨-, -, hkeeps, -⟩ := hsound
  have hslb : sl.marked b = true := (hkeeps b hclaim).1.2
  have hxb : (x.unclaimed b).marked b = true := hmarked.marked hslb
  have hzb : z.claim.block? ≠ some b := hsought.not_claimed (by simp [Slot.unclaimed, Claim.block?]) hxb
  have hzheld : z.owedHeld = sl.owedHeld.erase b := by
    rw [hsought.owedHeld, ← hmarked.owedHeld]
    rfl
  have hxletter : x.letter = letter := hmarked.letter.trans hletter
  have huqueue : u.hall.queue = (w.claimFramesGone x b).hall.queue := by rw [hu.queue, queue_claimLost hx]
  have howner : ∀ j x', u.alloc.slots[j]? = some x' → k ≠ j → s.alloc.slots[j]? = some x' := fun j x' hx' hj => by
    rw [← hothers j hj, ← hstand j hj, ← hu.slots, hx']
  have hrest : (w.claimLost k b).weighing = w.weighing ∧ (w.claimLost k b).gauge = w.gauge
      ∧ (w.claimLost k b).setup = w.setup ∧ (w.claimLost k b).tariff = w.tariff := by
    rw [claimLost_frame]
    exact ⟨rfl, rfl, rfl, rfl⟩
  obtain ⟨hlweighing, hlgauge, hlsetup, hltariff⟩ := hrest
  have hparts : t.weighing = u.weighing ∧ t.gauge = u.gauge ∧ t.quotes = u.quotes ∧ t.setup = u.setup := by
    rw [ht.kept.parts]
    exact ⟨rfl, rfl, rfl, rfl⟩
  obtain ⟨htweighing, htgauge, htquotes, htsetup⟩ := hparts
  have hutariff : u.tariff = s.tariff := hu.tariff.trans (hltariff.trans htariff)
  have hbanks : t.tariff.bankA = u.tariff.bankA ∧ t.tariff.bankB = u.tariff.bankB := by
    rw [ht.kept.tariff]
    exact ⟨rfl, rfl⟩
  refine ⟨?_, ?_, ?_, ?_, ?_, ?_, ?_, ?_, ?_, ?_, ?_, ?_, ?_, ?_⟩
  · rw [hclaimed]
    exact hzb
  · rw [hyz]
    exact hsought.marked b hxb
  · rw [hyz]
    exact hsought.current.trans hmarked.current
  · rw [hyz]
    exact hsought.reserve.trans hmarked.reserve
  · intro hqueued hfree hone hsole f hf hbody
    rcases ht.mem_queue hf with hf | ⟨i, hi, rfl⟩
    · rw [huqueue] at hf
      have hgone := (queue_claimFramesGone (x := x) (b := b) (s := w) (hattempt.trans hfree)).2.1
      rw [hxletter, hqueue] at hgone
      exact hgone (hmarked.claim.trans hqueued) hone f hf hbody
    · obtain ⟨j, x', hx', howed⟩ := owed_of_entry_claim hi hbody
      by_cases hj : k = j
      · subst hj
        rw [Option.some.inj (huz.symm.trans hx'), howed] at hzb
        exact hzb rfl
      · exact hj (hsole j x' (howner j x' hx' hj) howed).symm
  · intro hnodup hmem
    have hmem := ht.owedHeld_subset huz hy hmem
    rw [hzheld] at hmem
    exact hnodup.not_mem_erase hmem
  · intro hnodup hfree hone hsole f hf hbody
    rcases ht.mem_queue hf with hf | ⟨i, hi, rfl⟩
    · rw [huqueue] at hf
      have hgone := (queue_claimFramesGone (x := x) (b := b) (s := w) (hattempt.trans hfree)).2.2
      rw [hxletter, hqueue] at hgone
      exact hgone hone f hf hbody
    · obtain ⟨j, x', hx', howed⟩ := owed_of_entry_held hi hbody
      by_cases hj : k = j
      · subst hj
        rw [← Option.some.inj (huz.symm.trans hx'), hzheld] at howed
        exact hnodup.not_mem_erase howed
      · exact hj (hsole j x' (howner j x' hx' hj) howed).symm
  · rw [hyz]
    show z.cursor = _
    rw [hsought.cursor, ← hmarked.first, ← hmarked.count]
    rfl
  · rw [htweighing, hu.weighing, hlweighing, hweighing]
  · rw [htgauge, hu.gauge, hlgauge, hgauge]
  · rw [htquotes, hu.quotes, quotes_claimLost hx (by rw [hquotes hnil, hnil]), hquotes hnil]
  · rw [htsetup, hu.setup, hlsetup, hsetup]
  · rw [hbanks.1, hutariff]
  · rw [hbanks.2, hutariff]

end

end Sys2Proof.Machine
end

section
/-! The race for a block, event by event (R116 to R118). -/

namespace Sys2Proof.Machine

/-- The slot after the model's loss of a claim. -/
theorem slot_loseClaim {k : Nat} {x : Slot} {s : State} (hx : s.alloc.slots[k]? = some x) (b : Nat) :
    ∃ z, (s.loseClaim k b).alloc.slots[k]? = some z ∧ (x.unclaimed b).Sought z := by
  obtain ⟨hz, -⟩ := slot_claimLost (s := s.carried) (b := b) hx
  rwa [← carried_loseClaim] at hz

/-- The model's loss of a claim leaves the peer holdings column. -/
theorem column_loseClaim (k b : Nat) (s : State) : (s.loseClaim k b).alloc.column = s.alloc.column := by
  have hcarried : (s.loseClaim k b).carried.alloc.column = s.alloc.column := by
    rw [carried_loseClaim, claimLost_frame]
    rfl
  exact hcarried

section

variable {station group k : Nat} {sl : Slot} {s : State} (hheard : HeardFromPeer station group s)
  (hearlier : RequestsEarlier s ∨ s.quotes.pendingOrder = []) (hsl : s.alloc.slots[k]? = some sl) (order : RoomOrder)
include hheard hearlier hsl

/-- A heard frame that ends a claim: its marks, the loss, what its owner does besides, and the room (R95, R116, R117, R158). -/
theorem hearFrame_claimLost {b : Nat} {body : FrameBody} (hbody : body.kind ≠ .join) {kind : FrameKind} {serial : Option Nat}
    {blocks : List Nat} {u w : State} (hu : u = { s.heardBy station group with bags := u.bags })
    (hhand : (s.heardBy station group).hand { station := station, group := group, body := body } = w)
    {rest : State → State}
    (hcarried : w.carried = rest ((u.marksHeard k kind station serial blocks).loseClaim k b).carried)
    (htell : ∀ {P}, ((u.marksHeard k kind station serial blocks).loseClaim k b).Telling P → w.Telling P)
    (hdue : SameDue w ((u.marksHeard k kind station serial blocks).loseClaim k b)) :
    let l := ((blocks.foldl (fun v c => v.peerNamed k kind station serial c) u).resupplied k).claimLost k b
    let fell := decide (l.hall.queue.length < s.hall.queue.length)
    hearFrame { station := station, group := group, body := body } order s =
      (rest l).roomTaken order fell (fell || (l.alloc.slots[k]?).any fun y => decide (y.claim ≠ .none)) := by
  intro l fell
  obtain ⟨P, htelling⟩ := telling_heardBy hheard hearlier
  have hclear : s.scratch = .clear := hheard.1
  have hscratch : u.scratch = .clear := by rw [hu]; exact hclear
  have huslot : u.alloc.slots[k]? = some sl := by rw [hu]; exact hsl
  have hutelling : u.Telling P := by rw [hu]; exact htelling.congr rfl rfl rfl
  have hunext : u.link.nextId = s.link.nextId := by rw [hu]; rfl
  have huqueue : u.hall.queue = s.hall.queue := by rw [hu]; rfl
  let told : State := u.marksHeard k kind station serial blocks
  let lost : State := told.loseClaim k b
  obtain ⟨⟨x, hx, -⟩, hhall, -, -⟩ := marksHeard_spec huslot kind station serial blocks
  have hlost : lost.carried = l := by
    rw [carried_loseClaim, carried_marksHeard, carried_of_clear hscratch]
  have hlhall : lost.hall = l.hall := by rw [← hlost]; rfl
  have hlalloc : lost.alloc = l.alloc := by rw [← hlost]; rfl
  obtain ⟨hnext, hserve, hoffer⟩ := loseClaim_due (b := b) hx
  obtain ⟨hnext', hoffer', hserve'⟩ := marksHeard_sameDue k kind station serial blocks u
  have hfell : decide (lost.hall.queue.length < told.hall.queue.length) = fell := by
    rw [hlhall, hhall, huqueue]
  have hserved : w.scratch.serveDue = fell := by
    rw [hdue.2.2, hserve, hserve', hscratch, ← hfell]
    exact Bool.false_or _
  have hoffered : w.scratch.offerDue = (fell || (l.alloc.slots[k]?).any fun y => decide (y.claim ≠ .none)) := by
    rw [hdue.2.1, hoffer, hoffer', hscratch, ← hfell, ← hlalloc]
    rfl
  rw [hearFrame_fromPeer hheard hbody order hhand (P := P)
    (htell ((hutelling.marksHeard _ _ _ _ _).loseClaim _ _))
    (hdue.1.trans (hnext.trans (hnext'.trans hunext))), hserved, hoffered, hcarried, hlost]

variable {letter : Nat} (hsound : sl.sound) (hletter : sl.letter = letter)
include hsound hletter

/-- The outcome of such an event, as the statement puts it. -/
theorem claim_lost {b : Nat} (hclaim : sl.claim.block? = some b) {body : FrameBody} (hbody : body.kind ≠ .join) {kind : FrameKind}
    {serial : Option Nat} {blocks : List Nat} {u w : State} (hu : u = { s.heardBy station group with bags := u.bags })
    (hhand : (s.heardBy station group).hand { station := station, group := group, body := body } = w)
    {rest : State → State} (hrest : ∀ v, Unmoved v (rest v))
    (hcarried : w.carried = rest ((u.marksHeard k kind station serial blocks).loseClaim k b).carried)
    (htell : ∀ {P}, ((u.marksHeard k kind station serial blocks).loseClaim k b).Telling P → w.Telling P)
    (hdue : SameDue w ((u.marksHeard k kind station serial blocks).loseClaim k b)) :
    let l := ((blocks.foldl (fun v c => v.peerNamed k kind station serial c) u).resupplied k).claimLost k b
    let fell := decide (l.hall.queue.length < s.hall.queue.length)
    ∃ t y, (.next (hearFrame { station := station, group := group, body := body } order s) : Host.Outcome State Fault Refusal)
        = .next t
      ∧ t = (rest l).roomTaken order fell (fell || (l.alloc.slots[k]?).any fun y => decide (y.claim ≠ .none))
      ∧ t.alloc.slots[k]? = some y ∧ (s.quotes.pendingOrder = [] → ClaimEnded letter k b sl s t y) := by
  intro l fell
  have hunmoved : Unmoved s u := by rw [hu]; exact ⟨rfl, rfl, rfl, rfl, rfl, rfl, rfl, rfl, rfl⟩
  have hmarked := slotMarked_named hsl hunmoved kind station serial blocks
  obtain ⟨x, hx, -⟩ := hmarked.slot
  obtain ⟨⟨z, hz, -⟩, -⟩ := slot_claimLost (b := b) hx
  have hrestz : (rest l).alloc.slots[k]? = some z := by rw [(hrest l).slots, hz]
  let offer := fell || (l.alloc.slots[k]?).any fun y : Slot => decide (y.claim ≠ .none)
  obtain ⟨y, hy⟩ := exists_slot_roomTaken hrestz order fell offer
  refine ⟨_, y, congrArg _ (hearFrame_claimLost hheard hearlier hsl order hbody hu hhand hcarried htell hdue), rfl, hy,
    fun hnil => ?_⟩
  have hpending : (rest l).quotes.pendingOrder = [] := by
    have hquotes := hmarked.quotes hnil
    rw [(hrest l).quotes, quotes_claimLost hx (by rw [hquotes, hnil]), hquotes, hnil]
  obtain ⟨entered, hentered⟩ := roomTaken_entered hpending order fell offer
  exact claimEnded_of_entered hsound hclaim hletter hmarked hnil (hrest l) hentered hy

end

/-! ### The frames -/

section

variable {station group letter k b : Nat} {sl : Slot} {s : State} (hslot : s.slotOf letter = some k)
  (hsl : s.alloc.slots[k]? = some sl) (hclaim : sl.claim.block? = some b)
include hslot hsl hclaim

omit hslot in
/-- The marks of a heard frame leave the claim. -/
theorem marksHeard_claim {u : State} (hu : u.alloc = s.alloc) (kind : FrameKind) (serial : Option Nat) (blocks : List Nat) :
    ∃ x, (u.marksHeard k kind station serial blocks).alloc.slots[k]? = some x ∧ x.claim.block? = some b
      ∧ sl.MarkedOn x := by
  obtain ⟨⟨x, hx, hmarked⟩, -⟩ := marksHeard_spec (s := u) (by rw [hu, hsl]) kind station serial blocks
  exact ⟨x, hx, by rw [hmarked.claim, hclaim], hmarked⟩

/-- A CLAIM for the block claimed in OWED or QUEUED (R116). -/
theorem hand_claim_lost (hstate : sl.claim = .owed b ∨ sl.claim = .queued b) :
    (s.heardBy station group).hand { station := station, group := group, body := .claim letter b } =
      (((s.heardBy station group).marksHeard k .claim station none [b]).loseClaim k b).modifyColumn station k (addHeld b) := by
  obtain ⟨x, hx, -, hmarked⟩ := marksHeard_claim (station := station) hsl hclaim (u := s.heardBy station group) rfl .claim none [b]
  have hslot' : (s.heardBy station group).slotOf letter = some k := hslot
  rw [← hmarked.claim] at hstate
  simp only [State.hand, State.claimHeard, hslot', hx]
  rw [if_pos hstate]

/-- A HELD for it (R116). -/
theorem hand_held_lost (hfree : sl.holds b = false) :
    (s.heardBy station group).hand { station := station, group := group, body := .held letter b } =
      (((s.heardBy station group).marksHeard k .held station none [b]).loseClaim k b).heldListed station k b := by
  obtain ⟨x, hx, hxclaim, hmarked⟩ :=
    marksHeard_claim (station := station) hsl hclaim (u := s.heardBy station group) rfl .held none [b]
  obtain ⟨z, hz, hsought⟩ := slot_loseClaim hx b
  have hslot' : (s.heardBy station group).slotOf letter = some k := hslot
  have hzfree : z.holds b = false := (hsought.holds b).trans ((hmarked.holds b).trans hfree)
  have hlost := loseIfClaimed_claimed hx hxclaim (List.mem_singleton_self b)
  simp only [State.hand, State.heldHeard, hslot', hlost, hz, hzfree, Bool.false_eq_true, if_false]
  exact heldListed_eq _ _ _ _

/-- A SPENT for it (R116). -/
theorem hand_spent_lost :
    (s.heardBy station group).hand { station := station, group := group, body := .spent letter b } =
      (((s.heardBy station group).marksHeard k .spent station none [b]).loseClaim k b).modifyColumn station k
        fun l => l.erase b := by
  obtain ⟨x, hx, hxclaim, -⟩ :=
    marksHeard_claim (station := station) hsl hclaim (u := s.heardBy station group) rfl .spent none [b]
  have hslot' : (s.heardBy station group).slotOf letter = some k := hslot
  have hlost := loseIfClaimed_claimed hx hxclaim (List.mem_singleton_self b)
  simp only [State.hand, State.spentHeard, hslot', hlost]

/-- A HOLDS that names it (R116). -/
theorem hand_holds_lost {blocks : List Nat} (hmem : b ∈ blocks) :
    (s.heardBy station group).hand { station := station, group := group, body := .holds letter blocks } =
      (((s.heardBy station group).marksHeard k .holds station none blocks).loseClaim k b).modifyColumn station k
        fun _ => blocks.eraseDups := by
  obtain ⟨x, hx, hxclaim, -⟩ :=
    marksHeard_claim (station := station) hsl hclaim (u := s.heardBy station group) rfl .holds none blocks
  have hslot' : (s.heardBy station group).slotOf letter = some k := hslot
  have hlost := loseIfClaimed_claimed hx hxclaim hmem
  simp only [State.hand, State.holdsHeard, hslot', hlost]

/-- A POSTED of a serial in it (R116, R129, R141). -/
theorem hand_posted_lost {serial : Nat} (hserial : serial / 1000 = b) (hfree : sl.holds b = false) (route bag weight : Nat) :
    let u := (s.heardBy station group).bagFollowed route bag weight
    let lost := (u.marksHeard k .posted station (some serial) [b]).loseClaim k b
    (s.heardBy station group).hand { station := station, group := group, body := .posted letter serial route bag weight } =
      if b ∈ s.peerBlocks station k then lost
      else lost.logConflict { kind := .stray, letter := letter, block := b, serial := some serial, station := station } := by
  intro u lost
  have hframe : u = { s.heardBy station group with bags := u.bags } := bagFollowed_frame _ _ _ _
  have halloc : u.alloc = s.alloc := by rw [hframe]; rfl
  have hslot' : u.slotOf letter = some k := by rw [hframe]; exact hslot
  obtain ⟨x, hx, hxclaim, hmarked⟩ := marksHeard_claim (station := station) hsl hclaim halloc .posted (some serial) [b]
  obtain ⟨z, hz, hsought⟩ := slot_loseClaim hx b
  have hzfree : z.holds b = false := (hsought.holds b).trans ((hmarked.holds b).trans hfree)
  have hlost := loseIfClaimed_claimed hx hxclaim (List.mem_singleton_self b)
  have hcolumn : lost.alloc.column = s.alloc.column := by
    obtain ⟨-, -, hmarkscolumn, -⟩ := marksHeard_spec (s := u) (by rw [halloc, hsl]) .posted station (some serial) [b]
    rw [column_loseClaim, hmarkscolumn, halloc]
  have hpeer : lost.peerBlocks station k = s.peerBlocks station k := by rw [State.peerBlocks, State.peerBlocks, hcolumn]
  subst hserial
  rw [← hpeer, ← checkPosted_unheld hz hzfree]
  have hbags : (s.heardBy station group).postedAtBags route bag weight = u := postedAtBags_eq _ _ _ _
  show ((s.heardBy station group).postedAtBags route bag weight).postedHeard station letter serial = _
  rw [hbags]
  simp only [State.postedHeard, hslot']
  exact congrArg (State.checkPosted k station letter serial) hlost

end

end Sys2Proof.Machine
end

section
/-! The outcome of the race for a block (R116 to R118). -/

namespace Sys2Proof.Machine

/-- A block held here is not claimed here, and the other way round (R110). -/
theorem not_holds_of_claimed {x : Slot} {b : Nat} (hsound : x.sound) (hclaim : x.claim.block? = some b) : x.holds b = false := by
  obtain ⟨-, -, hkeeps, -⟩ := hsound
  have hfree := (hkeeps b hclaim).2
  simp only [Slot.heldBlocks, List.mem_append, Option.mem_toList, not_or] at hfree
  simp only [Slot.holds, hfree, decide_false, Bool.or_self]

/-- A CLAIM heard in HOLDOFF leaves the claim, and a HELD for the block is owed or queued (R118, R121). -/
theorem hearFrame_claim_holdoff {station group letter k b remaining : Nat} {sl : Slot} {s : State}
    (hheard : HeardFromPeer station group s) (hsound : sl.sound) (hslot : s.slotOf letter = some k)
    (hsl : s.alloc.slots[k]? = some sl) (hearlier : RequestsEarlier s ∨ s.quotes.pendingOrder = [])
    (hclaim : sl.claim = .holdoff b remaining) (order : RoomOrder) :
    ∃ y, (hearFrame { station := station, group := group, body := .claim letter b } order s).alloc.slots[k]? = some y
      ∧ y.claim = .holdoff b remaining ∧ y.marked b = true
      ∧ (s.hall.state ≠ .muted → sl.owedHeld.length < 4 →
          b ∈ y.owedHeld ∨ ∃ f ∈ (hearFrame { station := station, group := group, body := .claim letter b } order s).hall.queue,
            f.frame.body = .held sl.letter b) := by
  have hdefended : sl.current.map (·.block) = some b ∨ sl.reserve = some b ∨ sl.claim.block? = some b :=
    .inr (.inr (by rw [hclaim]; rfl))
  have hmarkedb : sl.marked b = true := by
    obtain ⟨-, -, hkeeps, -⟩ := hsound
    exact (hkeeps b (by rw [hclaim]; rfl)).1.2
  let w : State := ((s.heardBy station group).peerNamed k .claim station none b).resupplied k
  have hw : SlotMarked k sl s w :=
    slotMarked_named hsl (u := s.heardBy station group) ⟨rfl, rfl, rfl, rfl, rfl, rfl, rfl, rfl, rfl⟩ .claim station none [b]
  obtain ⟨⟨x, hx, hmarked⟩, -, -, ⟨hqueue, -, -⟩, -⟩ := hw
  rw [hearFrame_claim hheard hearlier hslot hsl order (by rw [hclaim]; exact Claim.noConfusion)
    (by rw [hclaim]; exact Claim.noConfusion)]
  by_cases hmay : s.mayOweHeld sl b = true
  · rw [if_pos ⟨hdefended, hmay⟩]
    let u : State := (w.modifySlot k fun x => { x with owedHeld := x.owedHeld ++ [b] }).modifyColumn station k (addHeld b)
    have hux : u.alloc.slots[k]? = some { x with owedHeld := x.owedHeld ++ [b] } := slot_modifySlot hx _
    obtain ⟨entered, ht⟩ := offered_entered u
    obtain ⟨y, hy, hunowed⟩ := ht.kept.slot hux
    refine ⟨y, hy, ?_, ?_, fun _ _ => ?_⟩
    · rcases ht.kept.claims k _ y hux hy with hsame | ⟨c, howed, -⟩
      · rw [hsame, ← hclaim]
        exact hmarked.claim
      · have howed : x.claim = .owed c := howed
        rw [hmarked.claim, hclaim] at howed
        cases howed
    · rw [eq_of_unowed hunowed]
      exact hmarked.marked hmarkedb
    · have howed := ht.held_owed_or_queued hux hy (List.mem_append_right x.owedHeld (List.mem_singleton_self b))
      rwa [show ({ x with owedHeld := x.owedHeld ++ [b] } : Slot).letter = sl.letter from hmarked.letter] at howed
  · rw [if_neg fun h => hmay h.2]
    refine ⟨x, hx, hmarked.claim.trans hclaim, hmarked.marked hmarkedb, fun hstate hroom => ?_⟩
    simp only [State.mayOweHeld, decide_eq_true_eq, not_and, not_forall, not_not] at hmay
    by_cases howed : b ∈ sl.owedHeld
    · exact .inl (by rw [hmarked.owedHeld]; exact howed)
    · obtain ⟨f, hf, hbody⟩ := hmay hstate howed hroom
      exact .inr ⟨f, by show f ∈ w.hall.queue; rw [hqueue]; exact hf, hbody⟩

/-- A change of the peer holdings column beside an event: what it carries over, and what is due. -/
structure ColumnOnly (f : State → State) : Prop where
  unmoved : ∀ v, Unmoved v (f v)
  carried : ∀ v : State, (f v).carried = f v.carried
  telling : ∀ {P : Prop} {v : State}, v.Telling P → (f v).Telling P
  due : ∀ v, SameDue (f v) v

theorem columnOnly_modifyColumn (station k : Nat) (f : List Nat → List Nat) : ColumnOnly (State.modifyColumn station k f) :=
  ⟨fun _ => ⟨rfl, rfl, rfl, rfl, rfl, rfl, rfl, rfl, rfl⟩, fun _ => rfl, fun h => h.congr rfl rfl rfl, fun _ => ⟨rfl, rfl, rfl⟩⟩

theorem columnOnly_heldListed (station k b : Nat) : ColumnOnly (State.heldListed station k b) :=
  ⟨fun _ => ⟨rfl, rfl, rfl, rfl, rfl, rfl, rfl, rfl, rfl⟩, fun _ => rfl, fun h => h.congr rfl rfl rfl, fun _ => ⟨rfl, rfl, rfl⟩⟩

/-- The outcome of a frame whose owner, after the loss, changes the column alone (R116, R127). -/
theorem claim_lost_column {station group letter k b : Nat} {sl : Slot} {s : State} (hheard : HeardFromPeer station group s)
    (hearlier : RequestsEarlier s ∨ s.quotes.pendingOrder = []) (hsl : s.alloc.slots[k]? = some sl) (order : RoomOrder)
    (hsound : sl.sound) (hletter : sl.letter = letter) (hclaim : sl.claim.block? = some b) {body : FrameBody}
    (hbody : body.kind ≠ .join) {kind : FrameKind} {blocks : List Nat} {f : State → State} (hf : ColumnOnly f)
    (hhand : (s.heardBy station group).hand { station := station, group := group, body := body } =
      f (((s.heardBy station group).marksHeard k kind station none blocks).loseClaim k b)) :
    let l := ((blocks.foldl (fun v c => v.peerNamed k kind station none c) (s.heardBy station group)).resupplied k).claimLost k b
    let fell := decide (l.hall.queue.length < s.hall.queue.length)
    ∃ t y, (.next (hearFrame { station := station, group := group, body := body } order s) : Host.Outcome State Fault Refusal)
        = .next t
      ∧ t = (f l).roomTaken order fell (fell || (l.alloc.slots[k]?).any fun y => decide (y.claim ≠ .none))
      ∧ t.alloc.slots[k]? = some y ∧ (s.quotes.pendingOrder = [] → ClaimEnded letter k b sl s t y) :=
  claim_lost hheard hearlier hsl order hsound hletter hclaim hbody (u := s.heardBy station group) rfl hhand hf.unmoved
    (hf.carried _) hf.telling (hf.due _)

/-- Settles O43: the five frames by `claim_lost`, the HOLDOFF by `hearFrame_claim_holdoff`. -/
theorem claimRaceIsDecidedByTheLine : Obligations.ClaimRaceIsDecidedByTheLine := by
  intro station group letter k b sl order s hheard hslots hslot hsl hclaim hearlier h lost
  have hsound : sl.sound := hslots sl (List.mem_of_getElem? hsl)
  have hletter : sl.letter = letter := (slotOf_spec hslot hsl).2
  have hfree : sl.holds b = false := not_holds_of_claimed hsound hclaim
  refine ⟨fun hstate => ?_, ?_, ?_, fun blocks hmem => ?_, fun serial route bag weight hserial => ?_,
    fun remaining hholdoff => ?_⟩
  · exact claim_lost_column hheard hearlier hsl order hsound hletter hclaim FrameKind.noConfusion (kind := .claim)
      (blocks := [b]) (columnOnly_modifyColumn station k (addHeld b)) (hand_claim_lost hslot hsl hclaim hstate)
  · exact claim_lost_column hheard hearlier hsl order hsound hletter hclaim FrameKind.noConfusion (kind := .held)
      (blocks := [b]) (columnOnly_heldListed station k b) (hand_held_lost hslot hsl hclaim hfree)
  · exact claim_lost_column hheard hearlier hsl order hsound hletter hclaim FrameKind.noConfusion (kind := .spent)
      (blocks := [b]) (columnOnly_modifyColumn station k _) (hand_spent_lost hslot hsl hclaim)
  · exact claim_lost_column hheard hearlier hsl order hsound hletter hclaim FrameKind.noConfusion (kind := .holds)
      (blocks := blocks) (columnOnly_modifyColumn station k _) (hand_holds_lost hslot hsl hclaim hmem)
  · have hhand := hand_posted_lost (station := station) (group := group) hslot hsl hclaim hserial hfree route bag weight
    have hbeside : h.bagFollowed route bag weight = { h with bags := (h.bagFollowed route bag weight).bags } :=
      bagFollowed_frame _ _ _ _
    let stray : ConflictRecord := { kind := .stray, letter := letter, block := b, serial := some serial, station := station }
    refine claim_lost hheard hearlier hsl order hsound hletter hclaim FrameKind.noConfusion (kind := .posted)
      (serial := some serial) (blocks := [b]) hbeside hhand
      (rest := fun u => if b ∈ s.peerBlocks station k then u else u.logged stray) (fun v => ?_) ?_ (fun htold => ?_) ?_
    · split
      · exact .refl v
      · exact unmoved_logged stray v
    · rw [apply_ite State.carried, carried_logConflict]
    · split
      · exact htold
      · exact htold.logConflict stray
    · split
      · exact ⟨rfl, rfl, rfl⟩
      · exact logConflict_sameDue stray _
  · obtain ⟨y, hy, hfacts⟩ := hearFrame_claim_holdoff hheard hsound hslot hsl hearlier hholdoff order
    exact ⟨_, y, rfl, hy, hfacts⟩

end Sys2Proof.Machine
end

section
/-! The withdrawal of a held block: the slot afterwards, and what that makes due (R110, R121, R123). -/

namespace Sys2Proof.Machine

/-- A slot that gives up a held block; `owe` is whether a HELD comes to be owed for it (R110, R121, R123). -/
def Slot.givenUp (owe : Bool) (b : Nat) (x : Slot) : Slot :=
  { x with
    current := if x.current.map (·.block) = some b then x.reserve.map fun r => { block := r, next := 0 } else x.current
    reserve := none, owedHeld := if owe then x.owedHeld ++ [b] else x.owedHeld }

/-- A slot that has given up a block does not hold it (R110). -/
theorem not_holds_givenUp {x : Slot} (hsound : x.sound) (owe : Bool) (b : Nat) : (x.givenUp owe b).holds b = false := by
  obtain ⟨-, -, -, hnodup, -⟩ := hsound
  have hcurrent : (x.givenUp owe b).current.map (·.block) ≠ some b := by
    unfold Slot.givenUp
    dsimp only
    split
    · rename_i hb
      intro hr
      cases hreserve : x.reserve with
      | none => rw [hreserve] at hr; cases hr
      | some r =>
        rw [hreserve] at hr
        obtain rfl : r = b := Option.some.inj hr
        simp [Slot.heldBlocks, hb, hreserve] at hnodup
    · rename_i hb
      exact hb
  simp only [Slot.holds, hcurrent, decide_false, Bool.false_or]
  exact decide_eq_false (by simp [Slot.givenUp])

/-- The claim after a re-evaluation and a test of the need: another one where the test makes it (R112, R113). -/
theorem claim_reviewed {k : Nat} {y : Slot} {u : State} (hy : u.alloc.slots[k]? = some y) :
    ∃ z, ((u.resupplied k).needTested k).alloc.slots[k]? = some z ∧ y.Sought z
      ∧ decide (z.claim ≠ y.claim) = (u.resupplied k).chooses k := by
  obtain ⟨z, hz, hsought⟩ := slot_reviewed hy
  have hresupplied : (u.resupplied k).alloc.slots[k]? = some y.resupply := slot_resupplied hy
  refine ⟨z, hz, hsought, ?_⟩
  cases hchooses : (u.resupplied k).chooses k with
  | true =>
    obtain ⟨b, hb⟩ := claim_needTested_chosen hchooses
    obtain ⟨x, -, hx, -, -, -, hnone⟩ := chooses_spec hchooses
    have hclaim : y.claim = .none := by rw [← hnone, ← Option.some.inj (hresupplied.symm.trans hx)]; rfl
    rw [hz] at hb
    rw [hclaim, show z.claim = .owed b from Option.some.inj hb]
    exact decide_eq_true Claim.noConfusion
  | false =>
    have hsame := claim_needTested_not hchooses
    rw [hz, hresupplied] at hsame
    exact decide_eq_false (not_not.mpr (Option.some.inj hsame))

section

variable {k : Nat} {x : Slot} {s : State} (hx : s.alloc.slots[k]? = some x)
include hx

theorem blockWithdrawn_eq (b : Nat) :
    s.blockWithdrawn k b = ((s.modifySlot k (Slot.givenUp (s.mayOweHeld x b) b)).resupplied k).needTested k := by
  simp only [State.blockWithdrawn, hx]
  rfl

/-- The first step of the model's withdrawal: the slot gives the block up, and a promotion makes a serving due (R95, R123). -/
theorem withdrawBlock_first (b : Nat) :
    (if x.current.map (·.block) = some b then
      (if x.reserve.isSome then (s.modifySlot k Slot.promote).dueServe else s.modifySlot k Slot.promote)
    else s.modifySlot k fun y => { y with reserve := none }) =
      if x.current.map (·.block) = some b ∧ x.reserve ≠ none then (s.modifySlot k (Slot.givenUp false b)).dueServe
      else s.modifySlot k (Slot.givenUp false b) := by
  by_cases hcurrent : x.current.map (·.block) = some b
  · have hpromote : s.modifySlot k Slot.promote = s.modifySlot k (Slot.givenUp false b) := modifySlot_congr hx (by
      simp only [Slot.givenUp, Slot.promote, hcurrent, if_true, Bool.false_eq_true, if_false])
    rw [if_pos hcurrent, hpromote]
    cases x.reserve <;> simp [hcurrent]
  · have hlast : (s.modifySlot k fun y => { y with reserve := none }) = s.modifySlot k (Slot.givenUp false b) :=
      modifySlot_congr hx (by simp only [Slot.givenUp, hcurrent, Bool.false_eq_true, if_false])
    rw [if_neg hcurrent, hlast, if_neg fun h => hcurrent h.1]

/-- The model's withdrawal, up to the re-evaluation and the test of the need. -/
theorem withdrawBlock_eq (b : Nat) :
    ∃ u : State, s.withdrawBlock k b = (u.reviewSupply k).testNeed k
      ∧ u.carried = s.carried.modifySlot k (Slot.givenUp (s.mayOweHeld x b) b) ∧ u.link.nextId = s.link.nextId
      ∧ u.scratch.serveDue = (s.scratch.serveDue || decide (x.current.map (·.block) = some b ∧ x.reserve ≠ none))
      ∧ u.scratch.offerDue = (s.scratch.offerDue || s.mayOweHeld x b) := by
  let first : Slot → Slot := Slot.givenUp false b
  let t : State := if x.current.map (·.block) = some b ∧ x.reserve ≠ none then (s.modifySlot k first).dueServe
    else s.modifySlot k first
  have hmodel : s.withdrawBlock k b = ((t.oweHeld k b).reviewSupply k).testNeed k := by
    simp only [State.withdrawBlock, hx]
    exact congrArg (fun u : State => ((u.oweHeld k b).reviewSupply k).testNeed k) (withdrawBlock_first hx b)
  have ht : t = { s.modifySlot k first with scratch := t.scratch } ∧ t.scratch.produced = s.scratch.produced
      ∧ t.scratch.offerDue = s.scratch.offerDue
      ∧ t.scratch.serveDue = (s.scratch.serveDue || decide (x.current.map (·.block) = some b ∧ x.reserve ≠ none)) := by
    by_cases hpromoted : x.current.map (·.block) = some b ∧ x.reserve ≠ none
    · have htdue : t = (s.modifySlot k first).dueServe := if_pos hpromoted
      rw [htdue, decide_eq_true hpromoted, Bool.or_true]
      exact ⟨rfl, rfl, rfl, rfl⟩
    · have htsame : t = s.modifySlot k first := if_neg hpromoted
      rw [htsame, decide_eq_false hpromoted, Bool.or_false]
      exact ⟨rfl, rfl, rfl, rfl⟩
  clear_value t
  obtain ⟨hframe, hproduced, hoffer, hserve⟩ := ht
  have hslot : t.alloc.slots[k]? = some (first x) := by
    rw [hframe]
    exact slot_modifySlot hx first
  have hmay : t.mayOweHeld (first x) b = s.mayOweHeld x b := by
    rw [hframe]
    rfl
  have hcarried : t.carried = s.carried.modifySlot k first := by
    rw [State.carried, hproduced, hframe]
    rfl
  refine ⟨t.oweHeld k b, hmodel, ?_⟩
  rw [oweHeld_eq hslot, hmay]
  cases s.mayOweHeld x b with
  | true =>
    refine ⟨?_, by rw [if_pos rfl, hframe]; rfl, hserve, by simp⟩
    show (t.carried.modifySlot k fun y => { y with owedHeld := y.owedHeld ++ [b] }) = _
    rw [hcarried, modify_modify_slot]
    rfl
  | false => exact ⟨hcarried, by rw [hframe]; rfl, hserve, by simp [hoffer]⟩

theorem carried_withdrawBlock (b : Nat) : (s.withdrawBlock k b).carried = s.carried.blockWithdrawn k b := by
  obtain ⟨u, hu, hcarried, -⟩ := withdrawBlock_eq hx b
  rw [hu, carried_testNeed, carried_reviewSupply, hcarried, blockWithdrawn_eq (s := s.carried) hx]
  rfl

/-- What a withdrawal makes due: a serving for a promotion, an offering for a HELD or a claim newly owed (R95, R157). -/
theorem withdrawBlock_due (b : Nat) :
    (s.withdrawBlock k b).link.nextId = s.link.nextId
      ∧ (s.withdrawBlock k b).scratch.serveDue =
        (s.scratch.serveDue || decide (x.current.map (·.block) = some b ∧ x.reserve ≠ none))
      ∧ (s.withdrawBlock k b).scratch.offerDue = (s.scratch.offerDue
        || decide (((s.carried.blockWithdrawn k b).alloc.slots[k]?).map (fun y => (y.owedHeld, y.claim)) ≠
            some (x.owedHeld, x.claim))) := by
  obtain ⟨u, hu, hcarried, hnext, hserve, hoffer⟩ := withdrawBlock_eq hx b
  obtain ⟨hnext', hoffer', hserve'⟩ := testNeed_due k (u.reviewSupply k)
  obtain ⟨hnext'', hoffer'', hserve''⟩ := reviewSupply_sameDue k u
  have hslot : u.carried.alloc.slots[k]? = some (x.givenUp (s.mayOweHeld x b) b) := by
    rw [hcarried]
    exact slot_modifySlot (s := s.carried) hx _
  obtain ⟨z, hz, hsought, hchosen⟩ := claim_reviewed hslot
  have hzslot : (s.carried.blockWithdrawn k b).alloc.slots[k]? = some z := by
    rw [← hz, ← carried_withdrawBlock hx, hu, carried_testNeed, carried_reviewSupply]
  have hchooses : (u.reviewSupply k).chooses k = (u.carried.resupplied k).chooses k := by
    rw [← carried_reviewSupply]
    rfl
  have howing : decide (((s.carried.blockWithdrawn k b).alloc.slots[k]?).map (fun y => (y.owedHeld, y.claim)) ≠
      some (x.owedHeld, x.claim)) = (s.mayOweHeld x b || decide (z.claim ≠ x.claim)) := by
    rw [hzslot, Option.map_some, hsought.owedHeld, Slot.givenUp]
    cases s.mayOweHeld x b <;> simp
  refine ⟨?_, ?_, ?_⟩
  · rw [hu, hnext', hnext'', hnext]
  · rw [hu, hserve', hserve'', hserve]
  · rw [hu, hoffer', hoffer'', hoffer, hchooses, ← hchosen, howing, Bool.or_assoc]
    rfl

/-- The slot after a withdrawal. -/
theorem slot_blockWithdrawn (b : Nat) :
    ∃ z, (s.blockWithdrawn k b).alloc.slots[k]? = some z ∧ (x.givenUp (s.mayOweHeld x b) b).Sought z := by
  rw [blockWithdrawn_eq hx]
  exact slot_reviewed (slot_modifySlot hx _)

/-- A withdrawal and the quote table, where no COMMIT is pending. -/
theorem quotes_blockWithdrawn (h : s.quotes.pendingOrder = []) (b : Nat) : (s.blockWithdrawn k b).quotes = s.quotes := by
  rw [blockWithdrawn_eq hx]
  exact quotes_reviewed_of_nil (s := s.modifySlot k _) h k

/-- A withdrawal and the output queue. -/
theorem outputKept_blockWithdrawn (b : Nat) : OutputKept s (s.blockWithdrawn k b) := by
  rw [blockWithdrawn_eq hx]
  exact (outputKept_resupplied k (s.modifySlot k _)).trans (outputKept_needTested k _)

/-- The slots after a withdrawal turn on the slots, the controller and the configuration alone. -/
theorem slots_blockWithdrawn_same {t : State} (hslots : t.alloc.slots = s.alloc.slots) (hhall : t.hall = s.hall)
    (hsetup : t.setup = s.setup) (b : Nat) :
    (t.blockWithdrawn k b).alloc.slots = (s.blockWithdrawn k b).alloc.slots := by
  have hmay : t.mayOweHeld x b = s.mayOweHeld x b := by rw [State.mayOweHeld, State.mayOweHeld, hhall]
  rw [blockWithdrawn_eq hx, blockWithdrawn_eq (s := t) (by rw [hslots, hx]), hmay]
  refine slots_reviewed_same (u := t.modifySlot k _) (v := s.modifySlot k _) ?_ hhall hsetup k
  rw [State.modifySlot_alloc, State.modifySlot_alloc, hslots]

end

end Sys2Proof.Machine
end

section
/-! A block that both this station and a peer hold is given up here (R121 to R123, R129, R130). -/

namespace Sys2Proof.Machine

/-! ### The event -/

/-- A block whose mark is set is named without effect (R126). -/
theorem peerNamed_marked {k b : Nat} {x : Slot} {s : State} (hx : s.alloc.slots[k]? = some x) (hkeeps : x.keeps b)
    (kind : FrameKind) (station : Nat) (serial : Option Nat) : s.peerNamed k kind station serial b = s := by
  obtain ⟨hwindow, hmarked⟩ := hkeeps
  simp only [State.peerNamed, hx]
  rw [if_pos (of_decide_eq_true hwindow)]
  exact if_pos hmarked

/-- A POSTED of a serial in a block held here (R129). -/
theorem checkPosted_held {k : Nat} {x : Slot} {s : State} (hx : s.alloc.slots[k]? = some x) {station letter serial : Nat}
    (hholds : x.holds (serial / 1000) = true) :
    s.checkPosted k station letter serial =
      (s.logConflict { kind := .conflict, letter := letter, block := serial / 1000, serial := some serial, station := station }
        ).withdrawBlock k (serial / 1000) := by
  have hholds' : x.holds (serial / Config.blockSize) = true := hholds
  simp only [State.checkPosted, hx, hholds', if_true]
  rfl

/-- The test of the record's logging leaves slots, controller and configuration. -/
theorem logConflict_parts (r : ConflictRecord) (s : State) :
    (s.logConflict r).alloc.slots = s.alloc.slots ∧ (s.logConflict r).hall = s.hall ∧ (s.logConflict r).setup = s.setup := by
  have hcarried := carried_logConflict s r
  rw [logged_frame] at hcarried
  have halloc : (s.logConflict r).carried.alloc.slots = s.alloc.slots := by rw [hcarried]; rfl
  have hhall : (s.logConflict r).carried.hall = s.hall := by rw [hcarried]; rfl
  have hsetup : (s.logConflict r).carried.setup = s.setup := by rw [hcarried]; rfl
  exact ⟨halloc, hhall, hsetup⟩

section

variable {station group k : Nat} {sl : Slot} {s : State} (hheard : HeardFromPeer station group s)
  (hearlier : RequestsEarlier s ∨ s.quotes.pendingOrder = []) (hsl : s.alloc.slots[k]? = some sl) (order : RoomOrder)
include hheard hearlier hsl

/-- A heard frame that takes a held block away: its marks, the withdrawal, what is done besides, and the room (R123, R157). -/
theorem hearFrame_withdrawn {b : Nat} {body : FrameBody} (hbody : body.kind ≠ .join) {kind : FrameKind} {serial : Option Nat}
    {blocks : List Nat} {u v w : State} (hu : u = { s.heardBy station group with bags := u.bags })
    (hv : v.alloc.slots = (u.marksHeard k kind station serial blocks).alloc.slots
      ∧ v.hall = (u.marksHeard k kind station serial blocks).hall ∧ v.setup = (u.marksHeard k kind station serial blocks).setup)
    (hvdue : SameDue v (u.marksHeard k kind station serial blocks))
    (hhand : (s.heardBy station group).hand { station := station, group := group, body := body } = w)
    (htell : ∀ {P}, (u.marksHeard k kind station serial blocks).Telling P → w.Telling P)
    (hdue : SameDue w (v.withdrawBlock k b)) :
    let marked := (blocks.foldl (fun v c => v.peerNamed k kind station serial c) u).resupplied k
    hearFrame { station := station, group := group, body := body } order s =
      w.carried.roomTaken order (decide (sl.current.map (·.block) = some b ∧ sl.reserve ≠ none))
        (decide (((marked.blockWithdrawn k b).alloc.slots[k]?).map (fun x => (x.owedHeld, x.claim)) ≠
          some (sl.owedHeld, sl.claim))) := by
  intro marked
  obtain ⟨P, htelling⟩ := telling_heardBy hheard hearlier
  have hclear : s.scratch = .clear := hheard.1
  have hscratch : u.scratch = .clear := by rw [hu]; exact hclear
  have huslot : u.alloc.slots[k]? = some sl := by rw [hu]; exact hsl
  have hutelling : u.Telling P := by rw [hu]; exact htelling.congr rfl rfl rfl
  have hunext : u.link.nextId = s.link.nextId := by rw [hu]; rfl
  obtain ⟨⟨x, hx, hmarks⟩, hhall, -, -⟩ := marksHeard_spec huslot kind station serial blocks
  have hcarried : (u.marksHeard k kind station serial blocks).carried = marked := by
    rw [carried_marksHeard, carried_of_clear hscratch]
  have hmarkedx : marked.alloc.slots[k]? = some x := by rw [← hcarried]; exact hx
  obtain ⟨hvslots, hvhall, hvsetup⟩ := hv
  have hvx : v.alloc.slots[k]? = some x := by rw [hvslots, hx]
  have hslots : (v.carried.blockWithdrawn k b).alloc.slots = (marked.blockWithdrawn k b).alloc.slots := by
    refine slots_blockWithdrawn_same hmarkedx ?_ ?_ ?_ b
    · rw [← hcarried]
      exact hvslots
    · rw [← hcarried]
      exact hvhall
    · rw [← hcarried]
      exact hvsetup
  obtain ⟨hnext, hserve, hoffer⟩ := withdrawBlock_due hvx b
  obtain ⟨hnext', hoffer', hserve'⟩ := marksHeard_sameDue k kind station serial blocks u
  have hserved : w.scratch.serveDue = decide (sl.current.map (·.block) = some b ∧ sl.reserve ≠ none) := by
    rw [hdue.2.2, hserve, hvdue.2.2, hserve', hscratch, hmarks.current, hmarks.reserve]
    exact Bool.false_or _
  have hoffered : w.scratch.offerDue = decide (((marked.blockWithdrawn k b).alloc.slots[k]?).map (fun x => (x.owedHeld, x.claim)) ≠
      some (sl.owedHeld, sl.claim)) := by
    rw [hdue.2.1, hoffer, hvdue.2.1, hoffer', hscratch, hslots, hmarks.owedHeld, hmarks.claim]
    exact Bool.false_or _
  rw [hearFrame_fromPeer hheard hbody order hhand (P := P) (htell (hutelling.marksHeard _ _ _ _ _))
    (hdue.1.trans (hnext.trans (hvdue.1.trans (hnext'.trans hunext)))), hserved, hoffered]

end

/-! ### The state afterwards -/

/-- From `s` to `u` the slot has given the block up, with the record in the log, and little else has happened (R123, R130). -/
structure GivenUp (k b : Nat) (sl : Slot) (r : ConflictRecord) (s u : State) : Prop where
  slot : ∃ x z, sl.MarkedOn x ∧ (x.givenUp (s.mayOweHeld sl b) b).Sought z ∧ u.alloc.slots[k]? = some z
  log : s.alloc.log.length < 8 → u.alloc.log = s.alloc.log ++ [r]
  notice : s.alloc.log = [] →
    (∃ seq, OutEntry.of (.notice seq (.conflict r.kind r.letter r.block)) ∈ u.link.output) ∨ 23 ≤ u.link.output.length
  quotes : s.quotes.pendingOrder = [] → u.quotes = s.quotes
  queue : u.hall.queue = s.hall.queue
  state : u.hall.state = s.hall.state
  rest : u.weighing = s.weighing ∧ u.gauge = s.gauge ∧ u.setup = s.setup ∧ u.tariff = s.tariff

/-- A record enters a log of fewer than eight. -/
theorem log_logged {r : ConflictRecord} {s : State} (h : s.alloc.log.length < 8) : (s.logged r).alloc.log = s.alloc.log ++ [r] := by
  unfold State.logged
  rw [if_pos h]
  dsimp only
  split <;> rfl

/-- The first of an empty log sends its notice (R130). -/
theorem logged_notice {r : ConflictRecord} {s : State} (h : s.alloc.log = []) :
    (∃ seq, OutEntry.of (.notice seq (.conflict r.kind r.letter r.block)) ∈ (s.logged r).link.output)
      ∨ 23 ≤ (s.logged r).link.output.length := by
  have hlogged : s.logged r = State.noticed (.conflict r.kind r.letter r.block)
      { s with alloc := { s.alloc with log := s.alloc.log ++ [r] } } := by
    unfold State.logged
    rw [if_pos (by rw [h]; decide), if_pos h]
  rw [hlogged]
  exact noticed_enters _ _

section

variable {k b : Nat} {sl : Slot} {s w : State} (hw : SlotMarked k sl s w) (hlog : w.alloc.log = s.alloc.log)
  (hstate : w.hall = { s.hall with peers := w.hall.peers, ackDriven := w.hall.ackDriven })
include hw hlog hstate

/-- A withdrawal with the record logged after it (R122, R123). -/
theorem givenUp_held (r : ConflictRecord) : GivenUp k b sl r s ((w.blockWithdrawn k b).logged r) := by
  obtain ⟨⟨x, hx, hmarked⟩, -, hquotes, ⟨hqueue, -, hstation⟩, hrest⟩ := hw
  have hmay : w.mayOweHeld x b = s.mayOweHeld sl b := by
    rw [State.mayOweHeld, State.mayOweHeld, hmarked.owedHeld, hmarked.letter, hstate]
  obtain ⟨z, hz, hsought⟩ := slot_blockWithdrawn hx b
  rw [hmay] at hsought
  have hwithdrawn : (w.blockWithdrawn k b).alloc.log = s.alloc.log := by
    rw [blockWithdrawn_frame]
    exact hlog
  have hunmoved := unmoved_logged r (w.blockWithdrawn k b)
  have hframe : (w.blockWithdrawn k b).hall = w.hall ∧ (w.blockWithdrawn k b).weighing = w.weighing
      ∧ (w.blockWithdrawn k b).gauge = w.gauge ∧ (w.blockWithdrawn k b).setup = w.setup
      ∧ (w.blockWithdrawn k b).tariff = w.tariff := by
    rw [blockWithdrawn_frame]
    exact ⟨rfl, rfl, rfl, rfl, rfl⟩
  obtain ⟨hhall, hweighing, hgauge, hsetup, htariff⟩ := hframe
  obtain ⟨hsweighing, hsgauge, hssetup, hstariff⟩ := hrest
  refine ⟨⟨x, z, hmarked, hsought, by rw [hunmoved.slots, hz]⟩, fun hroom => ?_, fun hnil => ?_, fun hnil => ?_, ?_, ?_, ?_⟩
  · rw [log_logged (by rw [hwithdrawn]; exact hroom), hwithdrawn]
  · exact logged_notice (hwithdrawn.trans hnil)
  · rw [hunmoved.quotes, quotes_blockWithdrawn hx (by rw [hquotes hnil, hnil]), hquotes hnil]
  · rw [hunmoved.queue, hhall, hqueue]
  · rw [hunmoved.state, hhall, hstation]
  · exact ⟨hunmoved.weighing.trans (hweighing.trans hsweighing), hunmoved.gauge.trans (hgauge.trans hsgauge),
      hunmoved.setup.trans (hsetup.trans hssetup), hunmoved.tariff.trans (htariff.trans hstariff)⟩

/-- A withdrawal with the record logged before it (R123, R129). -/
theorem givenUp_posted (r : ConflictRecord) : GivenUp k b sl r s ((w.logged r).blockWithdrawn k b) := by
  obtain ⟨⟨x, hx, hmarked⟩, -, hquotes, ⟨hqueue, -, hstation⟩, hrest⟩ := hw
  have hunmoved := unmoved_logged r w
  have hlhall : (w.logged r).hall = w.hall := by rw [logged_frame]
  have hlx : (w.logged r).alloc.slots[k]? = some x := by rw [hunmoved.slots, hx]
  have hmay : (w.logged r).mayOweHeld x b = s.mayOweHeld sl b := by
    rw [State.mayOweHeld, State.mayOweHeld, hmarked.owedHeld, hmarked.letter, hlhall, hstate]
  obtain ⟨z, hz, hsought⟩ := slot_blockWithdrawn hlx b
  rw [hmay] at hsought
  have hframe : ((w.logged r).blockWithdrawn k b).hall = w.hall
      ∧ ((w.logged r).blockWithdrawn k b).alloc.log = (w.logged r).alloc.log
      ∧ ((w.logged r).blockWithdrawn k b).weighing = (w.logged r).weighing
      ∧ ((w.logged r).blockWithdrawn k b).gauge = (w.logged r).gauge
      ∧ ((w.logged r).blockWithdrawn k b).setup = (w.logged r).setup
      ∧ ((w.logged r).blockWithdrawn k b).tariff = (w.logged r).tariff := by
    rw [blockWithdrawn_frame]
    exact ⟨hlhall, rfl, rfl, rfl, rfl, rfl⟩
  obtain ⟨hhall, hllog, hweighing, hgauge, hsetup, htariff⟩ := hframe
  obtain ⟨hsweighing, hsgauge, hssetup, hstariff⟩ := hrest
  refine ⟨⟨x, z, hmarked, hsought, hz⟩, fun hroom => ?_, fun hnil => ?_, fun hnil => ?_, ?_, ?_, ?_⟩
  · rw [hllog, log_logged (by rw [hlog]; exact hroom), hlog]
  · exact noticed_stays (outputKept_blockWithdrawn hlx b) (logged_notice (hlog.trans hnil))
  · have hlquotes : (w.logged r).quotes = s.quotes := hunmoved.quotes.trans (hquotes hnil)
    rw [quotes_blockWithdrawn hlx (by rw [hlquotes, hnil]), hlquotes]
  · rw [hhall, hqueue]
  · rw [hhall, hstation]
  · exact ⟨hweighing.trans (hunmoved.weighing.trans hsweighing), hgauge.trans (hunmoved.gauge.trans hsgauge),
      hsetup.trans (hunmoved.setup.trans hssetup), htariff.trans (hunmoved.tariff.trans hstariff)⟩

end

/-- The column has no part in it. -/
theorem GivenUp.heldListed {k b : Nat} {sl : Slot} {r : ConflictRecord} {s u : State} (h : GivenUp k b sl r s u) (station : Nat) :
    GivenUp k b sl r s (u.heldListed station k b) := by
  obtain ⟨hslot, hlog, hnotice, hquotes, hqueue, hstate, hrest⟩ := h
  exact ⟨hslot, hlog, hnotice, hquotes, hqueue, hstate, hrest⟩

/-- What the statement says of the slot `y` that gave up `b`, and of the rest, where no COMMIT is pending (R121 to R123, R130). -/
def WithdrawalEnded (letter b : Nat) (r : ConflictRecord) (sl : Slot) (s t : State) (y : Slot) : Prop :=
  y.holds b = false ∧ y.marked b = true
    ∧ y.current = (if sl.current.map (·.block) = some b then
        sl.reserve.map fun r => { block := r, next := 0 } else sl.current)
    ∧ t.alloc.log = s.alloc.log ++ [r]
    ∧ (s.hall.state ≠ .muted → sl.owedHeld.length < 4 ∨ b ∈ sl.owedHeld →
        b ∈ y.owedHeld ∨ ∃ f ∈ t.hall.queue, f.frame.body = .held letter b)
    ∧ (s.hall.state = .muted → y.owedHeld = sl.owedHeld)
    ∧ (s.alloc.log = [] →
        (∃ seq, OutEntry.of (.notice seq (.conflict .conflict letter b)) ∈ t.link.output) ∨ 23 ≤ t.link.output.length)
    ∧ t.weighing = s.weighing ∧ t.gauge = s.gauge ∧ t.quotes = s.quotes ∧ t.setup = s.setup
    ∧ t.tariff.bankA = s.tariff.bankA ∧ t.tariff.bankB = s.tariff.bankB

/-- A station that does not send takes no room (R157). -/
theorem roomTaken_not_sending {s : State} (hnil : s.quotes.pendingOrder = []) (hsends : s.sends = false) (order : RoomOrder)
    (serve offer : Bool) : s.roomTaken order serve offer = s := by
  have hoffered : s.offered = s := by
    show s.offerOwed = s
    rw [State.offerOwed, hsends]
    rfl
  cases order <;> cases serve <;> cases offer <;> simp only [State.roomTaken, Bool.false_eq_true, if_true, if_false] <;>
    simp only [hoffered, served_of_nil hnil]

/-- From the withdrawal to the room in the queue. -/
theorem withdrawalEnded_of_givenUp {letter k b station : Nat} {serial : Option Nat} {sl : Slot} {s u : State} (hsound : sl.sound)
    (hholds : sl.holds b = true) (hletter : sl.letter = letter) (hnil : s.quotes.pendingOrder = [])
    (hroom : s.alloc.log.length < 8)
    (hu : GivenUp k b sl { kind := .conflict, letter := letter, block := b, serial := serial, station := station } s u)
    (order : RoomOrder) (serve offer : Bool) {y : Slot} (hy : (u.roomTaken order serve offer).alloc.slots[k]? = some y) :
    WithdrawalEnded letter b { kind := .conflict, letter := letter, block := b, serial := serial, station := station } sl s
      (u.roomTaken order serve offer) y := by
  obtain ⟨⟨x, z, hmarked, hsought, hz⟩, hlog, hnotice, hquotes, hqueue, hstate, hweighing, hgauge, hsetup, htariff⟩ := hu
  have hpending : u.quotes.pendingOrder = [] := by rw [hquotes hnil, hnil]
  obtain ⟨entered, ht⟩ := roomTaken_entered hpending order serve offer
  have hsending := roomTaken_not_sending (order := order) (serve := serve) (offer := offer) hpending
  revert hy ht hsending
  generalize u.roomTaken order serve offer = t
  intro hy ht hsending
  obtain ⟨y', hy', hunowed⟩ := ht.kept.slot hz
  obtain rfl : y' = y := Option.some.inj (hy'.symm.trans hy)
  have hyz := eq_of_unowed hunowed
  have hxsound : ∀ owe, (x.givenUp owe b).holds b = false := fun owe => by
    have hsame : (x.givenUp owe b).holds b = (sl.givenUp owe b).holds b := by
      rw [hmarked.rest]
      rfl
    rw [hsame, not_holds_givenUp hsound]
  have hslb : sl.marked b = true := by
    obtain ⟨-, hkeeps, -⟩ := hsound
    refine (hkeeps b ?_).2
    simpa [Slot.holds, Slot.heldBlocks] using hholds
  have hparts : t.weighing = u.weighing ∧ t.gauge = u.gauge ∧ t.quotes = u.quotes ∧ t.setup = u.setup ∧ t.link = u.link := by
    rw [ht.kept.parts]
    exact ⟨rfl, rfl, rfl, rfl, rfl⟩
  obtain ⟨htweighing, htgauge, htquotes, htsetup, htlink⟩ := hparts
  have hbanks : t.tariff.bankA = u.tariff.bankA ∧ t.tariff.bankB = u.tariff.bankB := by
    rw [ht.kept.tariff]
    exact ⟨rfl, rfl⟩
  refine ⟨?_, ?_, ?_, ?_, fun hunmuted howing => ?_, fun hmuted => ?_, fun hempty => ?_, ?_, ?_, ?_, ?_, ?_, ?_⟩
  · rw [hyz]
    exact (hsought.holds b).trans (hxsound _)
  · rw [hyz]
    exact hsought.marked b (hmarked.marked hslb)
  · rw [hyz]
    show z.current = _
    rw [hsought.current, ← hmarked.current, ← hmarked.reserve]
    rfl
  · rw [ht.kept.alloc]
    exact hlog hroom
  · have hzletter : z.letter = letter := by
      rw [hsought.letter]
      exact hmarked.letter.trans hletter
    cases hmay : s.mayOweHeld sl b with
    | true =>
      have hbz : b ∈ z.owedHeld := by
        rw [hsought.owedHeld, hmay]
        exact List.mem_append_right _ (List.mem_singleton_self b)
      rw [← hzletter]
      exact ht.held_owed_or_queued hz hy hbz
    | false =>
      have hzheld : z.owedHeld = sl.owedHeld := by
        rw [hsought.owedHeld, hmay]
        exact hmarked.owedHeld
      by_cases howed : b ∈ sl.owedHeld
      · rw [← hzletter]
        exact ht.held_owed_or_queued hz hy (by rw [hzheld]; exact howed)
      · simp only [State.mayOweHeld, decide_eq_false_iff_not, not_and, not_forall, not_not] at hmay
        obtain ⟨f, hf, hbody⟩ := hmay hunmuted howed (howing.resolve_right howed)
        rw [← hqueue] at hf
        exact .inr ⟨f, ht.kept.queue.subset hf, hbody.trans (by rw [hletter])⟩
  · have hmay : s.mayOweHeld sl b = false := by simp [State.mayOweHeld, hmuted]
    have hsends : u.sends = false := by simp [State.sends, hstate, hmuted]
    rw [hsending hsends, hz] at hy
    obtain rfl := Option.some.inj hy
    rw [hsought.owedHeld, hmay]
    exact hmarked.owedHeld
  · rw [htlink]
    exact hnotice hempty
  · rw [htweighing, hweighing]
  · rw [htgauge, hgauge]
  · rw [htquotes, hquotes hnil]
  · rw [htsetup, hsetup]
  · rw [hbanks.1, htariff]
  · rw [hbanks.2, htariff]

end Sys2Proof.Machine
end

section
/-! The outcome for a doubly held block, frame by frame (R121 to R123, R129). -/

namespace Sys2Proof.Machine

section

variable {station group letter k b : Nat} {sl : Slot} {s : State} (hslot : s.slotOf letter = some k)
  (hsl : s.alloc.slots[k]? = some sl) (hsound : sl.sound) (hholds : sl.holds b = true)
include hsl hsound hholds

omit hsl in
/-- A block held here lies in the window with its mark set, and is not claimed (R110). -/
theorem keeps_of_holds : sl.keeps b ∧ sl.claim.block? ≠ some b := by
  obtain ⟨-, hkeeps, hclaims, -⟩ := hsound
  have hmem : b ∈ sl.heldBlocks := by simpa [Slot.holds, Slot.heldBlocks] using hholds
  exact ⟨hkeeps b hmem, fun hclaim => (hclaims b hclaim).2 hmem⟩

/-- The marks of the frame: the slot still holds the block, and no claim is lost (R116, R126). -/
theorem marksHeard_held {u : State} (hu : u.alloc = s.alloc) (kind : FrameKind) (serial : Option Nat) :
    ∃ x, (u.marksHeard k kind station serial [b]).alloc.slots[k]? = some x ∧ x.holds b = true
      ∧ (u.marksHeard k kind station serial [b]).loseIfClaimed k [b] = u.marksHeard k kind station serial [b] := by
  obtain ⟨⟨x, hx, hmarked⟩, -⟩ := marksHeard_spec (s := u) (by rw [hu, hsl]) kind station serial [b]
  refine ⟨x, hx, (hmarked.holds b).trans hholds, loseIfClaimed_other hx ?_⟩
  rw [hmarked.claim]
  simpa using (keeps_of_holds hsound hholds).2

include hslot

/-- A HELD for a block held here (R122). -/
theorem hand_held_withdrawn :
    (s.heardBy station group).hand { station := station, group := group, body := .held letter b } =
      ((((s.heardBy station group).marksHeard k .held station none [b]).withdrawBlock k b).logConflict
        { kind := .conflict, letter := letter, block := b, serial := none, station := station }).heldListed station k b := by
  obtain ⟨x, hx, hxholds, hlost⟩ :=
    marksHeard_held (station := station) hsl hsound hholds (u := s.heardBy station group) rfl .held none
  have hslot' : (s.heardBy station group).slotOf letter = some k := hslot
  simp only [State.hand, State.heldHeard, hslot', hlost, hx, hxholds, if_true]
  exact heldListed_eq _ _ _ _

/-- A POSTED of a serial in a block held here (R129). -/
theorem hand_posted_withdrawn {serial : Nat} (hserial : serial / 1000 = b) (route bag weight : Nat) :
    (s.heardBy station group).hand { station := station, group := group, body := .posted letter serial route bag weight } =
      ((((s.heardBy station group).bagFollowed route bag weight).marksHeard k .posted station (some serial) [b]).logConflict
        { kind := .conflict, letter := letter, block := b, serial := some serial, station := station }).withdrawBlock k b := by
  let u : State := (s.heardBy station group).bagFollowed route bag weight
  have hframe : u = { s.heardBy station group with bags := u.bags } := bagFollowed_frame _ _ _ _
  have halloc : u.alloc = s.alloc := by rw [hframe]; rfl
  have hslot' : u.slotOf letter = some k := by rw [hframe]; exact hslot
  obtain ⟨x, hx, hxholds, hlost⟩ := marksHeard_held (station := station) hsl hsound hholds halloc .posted (some serial)
  have hbags : (s.heardBy station group).postedAtBags route bag weight = u := postedAtBags_eq _ _ _ _
  subst hserial
  rw [← checkPosted_held hx hxholds]
  show ((s.heardBy station group).postedAtBags route bag weight).postedHeard station letter serial = _
  rw [hbags]
  simp only [State.postedHeard, hslot']
  exact congrArg (State.checkPosted k station letter serial) hlost

omit hslot in
/-- The marks of such a frame change no mark and log nothing. -/
theorem slotMarked_held {u : State} (hu : u = { s.heardBy station group with bags := u.bags }) (kind : FrameKind)
    (serial : Option Nat) :
    let w := (u.peerNamed k kind station serial b).resupplied k
    SlotMarked k sl s w ∧ w.alloc.log = s.alloc.log
      ∧ w.hall = { s.hall with peers := w.hall.peers, ackDriven := w.hall.ackDriven } := by
  intro w
  have hunmoved : Unmoved s u := by rw [hu]; exact ⟨rfl, rfl, rfl, rfl, rfl, rfl, rfl, rfl, rfl⟩
  have hux : u.alloc.slots[k]? = some sl := by rw [hunmoved.slots, hsl]
  have hw : w = u.resupplied k := by
    show (u.peerNamed k kind station serial b).resupplied k = _
    rw [peerNamed_marked hux (keeps_of_holds hsound hholds).1]
  refine ⟨slotMarked_named hsl hunmoved kind station serial [b], ?_, ?_⟩
  · rw [hw, resupplied_frame, hu]
    rfl
  · rw [hw, resupplied_frame, hu]
    rfl

end

/-- The outcome of such an event, as the statement puts it (R123). -/
theorem block_withdrawn {station group letter k b : Nat} {sl : Slot} {s : State} (hheard : HeardFromPeer station group s)
    (hearlier : RequestsEarlier s ∨ s.quotes.pendingOrder = []) (hsl : s.alloc.slots[k]? = some sl) (order : RoomOrder)
    (hsound : sl.sound) (hholds : sl.holds b = true) (hletter : sl.letter = letter) {body : FrameBody}
    (hbody : body.kind ≠ .join) {kind : FrameKind} {serial recorded : Option Nat} {u v w : State}
    (hu : u = { s.heardBy station group with bags := u.bags })
    (hv : v.alloc.slots = (u.marksHeard k kind station serial [b]).alloc.slots
      ∧ v.hall = (u.marksHeard k kind station serial [b]).hall ∧ v.setup = (u.marksHeard k kind station serial [b]).setup)
    (hvdue : SameDue v (u.marksHeard k kind station serial [b]))
    (hhand : (s.heardBy station group).hand { station := station, group := group, body := body } = w)
    (htell : ∀ {P}, (u.marksHeard k kind station serial [b]).Telling P → w.Telling P)
    (hdue : SameDue w (v.withdrawBlock k b)) {rest : State → State}
    (hcarried : w.carried = rest (u.marksHeard k kind station serial [b]).carried)
    (hgiven : ∀ m : State, SlotMarked k sl s m → m.alloc.log = s.alloc.log →
      m.hall = { s.hall with peers := m.hall.peers, ackDriven := m.hall.ackDriven } →
      GivenUp k b sl { kind := .conflict, letter := letter, block := b, serial := recorded, station := station } s (rest m)) :
    let marked := (u.peerNamed k kind station serial b).resupplied k
    let promoted := decide (sl.current.map (·.block) = some b ∧ sl.reserve ≠ none)
    let offer := decide (((marked.blockWithdrawn k b).alloc.slots[k]?).map (fun x => (x.owedHeld, x.claim)) ≠
      some (sl.owedHeld, sl.claim))
    ∃ t y, (.next (hearFrame { station := station, group := group, body := body } order s) : Host.Outcome State Fault Refusal)
        = .next t
      ∧ t = (rest marked).roomTaken order promoted offer ∧ t.alloc.slots[k]? = some y
      ∧ (s.quotes.pendingOrder = [] → s.alloc.log.length < 8 →
        WithdrawalEnded letter b { kind := .conflict, letter := letter, block := b, serial := recorded, station := station } sl s
          t y) := by
  intro marked promoted offer
  have hclear : u.scratch = .clear := by rw [hu]; exact hheard.1
  have htold : (u.marksHeard k kind station serial [b]).carried = marked := by
    rw [carried_marksHeard, carried_of_clear hclear]
    rfl
  obtain ⟨hmarked, hlog, hhall⟩ := slotMarked_held hsl hsound hholds hu kind serial
  have hrest := hgiven marked hmarked hlog hhall
  have hevent := hearFrame_withdrawn hheard hearlier hsl order hbody hu hv hvdue hhand htell hdue
  rw [hcarried, htold] at hevent
  obtain ⟨x, z, -, -, hz⟩ := hrest.slot
  obtain ⟨y, hy⟩ := exists_slot_roomTaken hz order promoted offer
  exact ⟨_, y, congrArg _ hevent, rfl, hy, fun hnil hroom =>
    withdrawalEnded_of_givenUp hsound hholds hletter hnil hroom hrest order promoted offer hy⟩

/-- Settles O45: a HELD and a POSTED by `block_withdrawn`, with the record logged after the withdrawal and before it. -/
theorem doublyHeldBlockIsWithdrawn : Obligations.DoublyHeldBlockIsWithdrawn := by
  intro station group letter k b sl order s hheard hslots hslot hsl hholds hearlier h record withdrawn
  have hsound : sl.sound := hslots sl (List.mem_of_getElem? hsl)
  have hletter : sl.letter = letter := (slotOf_spec hslot hsl).2
  refine ⟨?_, fun serial route bag weight hserial => ?_⟩
  · let told : State := h.marksHeard k .held station none [b]
    obtain ⟨x, hx, -⟩ := marksHeard_held (station := station) hsl hsound hholds (u := h) rfl .held none
    have hlisted := columnOnly_heldListed station k b
    exact block_withdrawn hheard hearlier hsl order hsound hholds hletter FrameKind.noConfusion (kind := .held) (serial := none)
      (u := h) (v := told) rfl ⟨rfl, rfl, rfl⟩ ⟨rfl, rfl, rfl⟩ (hand_held_withdrawn hslot hsl hsound hholds)
      (fun htold => hlisted.telling ((htold.withdrawBlock k b).logConflict (record none)))
      ((hlisted.due _).trans (logConflict_sameDue (record none) _))
      (rest := fun u => ((u.blockWithdrawn k b).logged (record none)).heldListed station k b)
      (by rw [hlisted.carried, carried_logConflict, carried_withdrawBlock hx])
      fun m hmarked hlog hhall => (givenUp_held hmarked hlog hhall (record none)).heldListed station
  · let u : State := h.bagFollowed route bag weight
    have hbeside : u = { h with bags := u.bags } := bagFollowed_frame _ _ _ _
    have halloc : u.alloc = s.alloc := by rw [hbeside]; rfl
    let told : State := u.marksHeard k .posted station (some serial) [b]
    let r : ConflictRecord := record (some serial)
    obtain ⟨x, hx, -⟩ := marksHeard_held (station := station) hsl hsound hholds halloc .posted (some serial)
    obtain ⟨hslots', hhall', hsetup'⟩ := logConflict_parts r told
    have hx' : (told.logConflict r).alloc.slots[k]? = some x := by rw [hslots', hx]
    exact block_withdrawn hheard hearlier hsl order hsound hholds hletter FrameKind.noConfusion (kind := .posted)
      (serial := some serial) (u := u) (v := told.logConflict r) hbeside ⟨hslots', hhall', hsetup'⟩ (logConflict_sameDue r told)
      (hand_posted_withdrawn hslot hsl hsound hholds hserial route bag weight)
      (fun htold => (htold.logConflict r).withdrawBlock k b) ⟨rfl, rfl, rfl⟩
      (rest := fun u => (u.logged r).blockWithdrawn k b)
      (by rw [carried_withdrawBlock hx', carried_logConflict])
      fun m hmarked hlog hhall => givenUp_posted hmarked hlog hhall r

end Sys2Proof.Machine
end

section
/-! COMMITs that are turned back, quote by quote (R99), and what a re-evaluation produces (R99, R111). -/

namespace Sys2Proof.Machine

/-! ### The quotes -/

/-- A change that keeps the quotes' numbers is seen by the search for one. -/
theorem find?_number_map {f : Quote → Quote} (hf : ∀ q, (f q).number = q.number) (m : Nat) (l : List Quote) :
    (l.map f).find? (fun q => q.number == m) = (l.find? fun q => q.number == m).map f := by
  have hsame : ((fun q : Quote => q.number == m) ∘ f) = fun q => q.number == m := funext fun q => by
    rw [Function.comp_apply, hf]
  rw [List.find?_map, hsame]

/-- A quote among those of a state in which one has returned to OPEN. -/
theorem quote?_reopened (n m : Nat) (s : State) :
    (s.reopened n).quote? m =
      (s.quote? m).map fun q => if q.number = n then { q with state := .opened, ageMs := 0 } else q :=
  find?_number_map (fun _ => by split <;> rfl) m s.quotes.records

theorem quote?_reopened_self {n : Nat} {q : Quote} {s : State} (hq : s.quote? n = some q) :
    (s.reopened n).quote? n = some { q with state := .opened, ageMs := 0 } := by
  rw [quote?_reopened, hq, Option.map_some, if_pos (quote?_spec hq).2]

theorem quote?_reopened_other {n m : Nat} (h : m ≠ n) (s : State) : (s.reopened n).quote? m = s.quote? m := by
  rw [quote?_reopened]
  cases hq : s.quote? m with
  | none => rfl
  | some q => rw [Option.map_some, if_neg fun hn => h ((quote?_spec hq).2.symm.trans hn)]

/-- One number turned back, as the statements put it: the quote is OPEN again, or nothing happens. -/
theorem turnedBack_one (reason : Reason) (n : Nat) (s : State) :
    (s.turnedBack reason [n]).quotes = (s.reopened n).quotes ∨ s.NotCommitting n ∧ s.turnedBack reason [n] = s := by
  rcases committing_or n s with hnone | ⟨q, ref, hq, hstate⟩
  · exact .inr ⟨hnone, turnedBack_notCommitting reason hnone⟩
  · exact .inl (by rw [turnedBack_committing reason hq hstate]; rfl)

/-- What turning back leaves of the table: the waiting RATE, the counter, the number of quotes; the pending order shrinks. -/
theorem turnedBack_kept (reason : Reason) (ns : List Nat) (s : State) :
    (s.turnedBack reason ns).quotes.waiting = s.quotes.waiting
      ∧ (s.turnedBack reason ns).quotes.nextNumber = s.quotes.nextNumber
      ∧ (s.turnedBack reason ns).quotes.records.length = s.quotes.records.length
      ∧ (s.turnedBack reason ns).quotes.pendingOrder.Sublist s.quotes.pendingOrder := by
  induction ns generalizing s with
  | nil => exact ⟨rfl, rfl, rfl, List.Sublist.refl _⟩
  | cons n ns ih =>
    obtain ⟨hwaiting, hnext, hlength, hpending⟩ := ih (s.turnedBack reason [n])
    rw [turnedBack_cons]
    rcases turnedBack_one reason n s with hquotes | ⟨-, hsame⟩
    · rw [hquotes] at hwaiting hnext hlength hpending
      exact ⟨hwaiting, hnext, hlength.trans (List.length_map _), hpending.trans List.erase_sublist⟩
    · rw [hsame] at hwaiting hnext hlength hpending ⊢
      exact ⟨hwaiting, hnext, hlength, hpending⟩

/-- An OPEN quote is not turned back. -/
theorem turnedBack_opened (reason : Reason) (ns : List Nat) {n : Nat} {q : Quote} {s : State} (hq : s.quote? n = some q)
    (hstate : q.state = .opened) : (s.turnedBack reason ns).quote? n = some q := by
  induction ns generalizing s with
  | nil => exact hq
  | cons m ns ih =>
    rw [turnedBack_cons]
    refine ih ?_
    rcases committing_or m s with hnone | ⟨p, ref, hp, hcommitting⟩
    · rw [turnedBack_notCommitting reason hnone, hq]
    · have hnm : n ≠ m := fun hnm => by
        rw [← hnm, hq] at hp
        rw [← Option.some.inj hp, hstate] at hcommitting
        cases hcommitting
      rw [turnedBack_committing reason hp hcommitting]
      exact (quote?_reopened_other hnm s).trans hq

/-- A COMMITTING quote of the list is OPEN again, and has left the pending order (R99). -/
theorem turnedBack_member (reason : Reason) {ns : List Nat} {n : Nat} (hn : n ∈ ns) {q : Quote} {ref : RequestRef} {s : State}
    (hq : s.quote? n = some q) (hstate : q.state = .committing ref) :
    (s.turnedBack reason ns).quote? n = some { q with state := .opened, ageMs := 0 }
      ∧ (s.quotes.pendingOrder.Nodup → n ∉ (s.turnedBack reason ns).quotes.pendingOrder) := by
  induction ns generalizing s with
  | nil => cases hn
  | cons m ns ih =>
    rw [turnedBack_cons]
    by_cases hnm : n = m
    · subst hnm
      have hone := turnedBack_committing reason hq hstate
      have hself : (s.turnedBack reason [n]).quote? n = some { q with state := .opened, ageMs := 0 } := by
        rw [hone]
        exact quote?_reopened_self hq
      refine ⟨turnedBack_opened reason ns hself rfl, fun hnodup hmem => ?_⟩
      have hmem := (turnedBack_kept reason ns (s.turnedBack reason [n])).2.2.2.subset hmem
      rw [hone] at hmem
      exact hnodup.not_mem_erase hmem
    · rcases turnedBack_one reason m s with hquotes | ⟨-, hsame⟩
      · have hquote : (s.turnedBack reason [m]).quote? n = some q := by
          rw [State.quote?, hquotes]
          exact (quote?_reopened_other hnm s).trans hq
        obtain ⟨hopened, hleft⟩ := ih ((List.mem_cons.mp hn).resolve_left hnm) hquote
        refine ⟨hopened, fun hnodup => hleft ?_⟩
        rw [hquotes]
        exact hnodup.erase m
      · rw [hsame]
        exact ih ((List.mem_cons.mp hn).resolve_left hnm) hq

/-! ### What is produced -/

/-- A COMMIT that is turned back is refused (R99, R100). -/
theorem refusal_produced (reason : Reason) {ns : List Nat} {n : Nat} (hn : n ∈ ns) {q : Quote} {ref : RequestRef} {s : State}
    (hq : s.quote? n = some q) (hstate : q.state = .committing ref) :
    .reply (some ref.id) ref.tag (.refused reason none) ∈ (ns.foldl (State.reopen reason) s).scratch.produced := by
  induction ns generalizing s with
  | nil => cases hn
  | cons m ns ih =>
    rw [List.foldl_cons]
    by_cases hnm : n = m
    · subst hnm
      refine (produced_foldl_reopen reason ns _).subset ?_
      rw [reopen_committing reason hq hstate]
      exact List.mem_append_right _ (List.mem_singleton_self _)
    · refine ih ((List.mem_cons.mp hn).resolve_left hnm) ?_
      rcases committing_or m s with hnone | ⟨p, commit, hp, hcommitting⟩
      · rw [reopen_notCommitting reason hnone, hq]
      · rw [reopen_committing reason hp hcommitting]
        exact (quote?_reopened_other hnm s).trans hq

section

variable {k : Nat} {x : Slot} {s : State} (hx : s.alloc.slots[k]? = some x)
include hx

/-- A slot that becomes LAST says so (R111). -/
theorem lowNumbers_produced {c : CurrentBlock} (hcurrent : x.current = some c) (h : x.supplyOf = .last ∧ x.supply ≠ .last) :
    ∃ seq, .notice seq (.lowNumbers x.letter c.block c.left) ∈ (s.reviewSupply k).scratch.produced := by
  rw [reviewSupply_last hx hcurrent h]
  exact ⟨_, List.mem_append_right _ (List.mem_singleton_self _)⟩

/-- A slot that becomes EXHAUSTED says so, and the pending COMMITs of its product are refused (R99, R111). -/
theorem exhausted_produced (h : x.supplyOf = .exhausted ∧ x.supply ≠ .exhausted) :
    (∃ seq, .notice seq (.exhausted x.letter) ∈ (s.reviewSupply k).scratch.produced)
      ∧ ∀ n ∈ s.pendingOf x.letter, ∀ q ref, s.quote? n = some q → q.state = .committing ref →
        .reply (some ref.id) ref.tag (.refused .noNumbers none) ∈ (s.reviewSupply k).scratch.produced := by
  let u : State := (s.modifySlot k fun y => { y with supply := x.supplyOf }).notify (.exhausted x.letter)
  have hreview : s.reviewSupply k = (s.pendingOf x.letter).foldl (State.reopen .noNumbers) u := reviewSupply_exhausted hx h
  rw [hreview]
  refine ⟨⟨s.link.noticeSeq, (produced_foldl_reopen _ _ u).subset (List.mem_append_right _ (List.mem_singleton_self _))⟩,
    fun n hn q ref hq hstate => refusal_produced .noNumbers hn (s := u) hq hstate⟩

end

/-- With no COMMIT pending a re-evaluation produces notices alone (R111). -/
theorem notices_reviewSupply {s : State} (h : s.quotes.pendingOrder = []) (hs : ∀ m ∈ s.scratch.produced, m.isReply = false)
    (k : Nat) : ∀ m ∈ (s.reviewSupply k).scratch.produced, m.isReply = false := by
  have hnotified : ∀ (n : Notice) (u : State), u.scratch = s.scratch → ∀ m ∈ (u.notify n).scratch.produced, m.isReply = false := by
    intro n u hu m hm
    rcases List.mem_append.mp hm with hm | hm
    · rw [hu] at hm
      exact hs m hm
    · obtain rfl := List.mem_singleton.mp hm
      rfl
  cases hx : s.alloc.slots[k]? with
  | none =>
    have hsame : s.reviewSupply k = s := by simp only [State.reviewSupply, hx]
    rwa [hsame]
  | some x =>
    by_cases hexhausted : x.supplyOf = .exhausted ∧ x.supply ≠ .exhausted
    · have hnone : ∀ u : State, u.quotes.pendingOrder = [] → u.refuseNoNumbers x.letter = u := fun u hu => by
        rw [State.refuseNoNumbers, hu]
        rfl
      rw [reviewSupply_exhausted hx hexhausted, hnone ((s.modifySlot k _).notify _) h]
      exact hnotified _ _ rfl
    · by_cases hlast : x.current = none ∨ ¬ (x.supplyOf = .last ∧ x.supply ≠ .last)
      · rw [reviewSupply_quiet hx hexhausted hlast]
        exact hs
      · obtain ⟨hcurrent, hlast⟩ := not_or.mp hlast
        obtain ⟨c, hcurrent⟩ := Option.ne_none_iff_exists'.mp hcurrent
        rw [reviewSupply_last hx hcurrent (not_not.mp hlast)]
        exact hnotified _ _ rfl

/-! ### One re-evaluation after another -/

/-- A slot changed to itself. -/
theorem modifySlot_self {k : Nat} {x : Slot} {s : State} (hx : s.alloc.slots[k]? = some x) {f : Slot → Slot} (hf : f x = x) :
    s.modifySlot k f = s := by
  have hslots : s.alloc.slots.modify k f = s.alloc.slots :=
    (modify_congr_at hx (g := id) hf).trans (List.modify_id k _)
  simp only [State.modifySlot, hslots]

/-- The slot after the model's re-evaluation. -/
theorem slot_reviewSupply {k : Nat} {x : Slot} {s : State} (hx : s.alloc.slots[k]? = some x) :
    (s.reviewSupply k).alloc.slots[k]? = some x.resupply := by
  rw [← carried_alloc, carried_reviewSupply]
  exact slot_resupplied (s := s.carried) hx

/-- A second re-evaluation changes nothing (R111). -/
theorem reviewSupply_reviewSupply (k : Nat) (s : State) : (s.reviewSupply k).reviewSupply k = s.reviewSupply k := by
  cases hx : s.alloc.slots[k]? with
  | none =>
    have hsame : s.reviewSupply k = s := by simp only [State.reviewSupply, hx]
    rw [hsame, hsame]
  | some x =>
    have hy := slot_reviewSupply hx
    have hsupply : x.resupply.supply = x.resupply.supplyOf := rfl
    rw [reviewSupply_quiet hy (fun h => h.2 (hsupply.trans h.1)) (.inr fun h => h.2 (hsupply.trans h.1))]
    exact modifySlot_self hy rfl

/-- A test of the need and the re-evaluation after it: one re-evaluation of the slot as the test leaves it (R111 to R113). -/
theorem testNeed_reviewSupply {k : Nat} {x : Slot} {s : State} (hx : s.alloc.slots[k]? = some x) (hjoined : s.hall.state = .joined) :
    ∃ u : State, (s.testNeed k).reviewSupply k = u.reviewSupply k
      ∧ u = { s.modifySlot k (Slot.sought s.lowWater) with scratch := u.scratch } ∧ u.scratch.produced = s.scratch.produced := by
  have hsame : x.sought s.lowWater = x → s = s.modifySlot k (Slot.sought s.lowWater) := fun h => (modifySlot_self hx h).symm
  by_cases hneed : x.needsClaim s.lowWater = true
  · cases hsearch : x.search with
    | none =>
      have hsought : x.sought s.lowWater = x := by
        unfold Slot.sought
        rw [if_pos hneed, hsearch]
      refine ⟨s, ?_, ?_, rfl⟩
      · rw [testNeed_full hx ⟨hjoined, hneed⟩ hsearch, reviewSupply_reviewSupply]
      · rw [← hsame hsought]
    | some b =>
      have hsought : x.sought s.lowWater = { x.setMark b with claim := .owed b } := by
        unfold Slot.sought
        rw [if_pos hneed, hsearch]
      refine ⟨(s.modifySlot k (Slot.sought s.lowWater)).dueOffer, ?_, rfl, rfl⟩
      rw [testNeed_chosen hx ⟨hjoined, hneed⟩ hsearch, reviewSupply_reviewSupply,
        modifySlot_congr hx (g := Slot.sought s.lowWater) hsought.symm]
  · have hsought : x.sought s.lowWater = x := if_neg hneed
    refine ⟨s, ?_, ?_, rfl⟩
    · rw [testNeed_unneeded hx fun h => hneed h.2]
    · rw [← hsame hsought]

end Sys2Proof.Machine
end

section
/-! The parts of a completion (R97): the serial, the bag, the entry of what it made owed, and what it produces. -/

namespace Sys2Proof.Machine

/-! ### Messages enter the output queue -/

/-- The own reply's place changes none of the messages (R179). -/
theorem mem_ownFirst (own : Nat) (msgs : List OutMsg) (m : OutMsg) : m ∈ ownFirst own msgs ↔ m ∈ msgs := by
  have hsplit : msgs.takeWhile (fun m => !m.answers own) ++ msgs.dropWhile (fun m => !m.answers own) = msgs :=
    List.takeWhile_append_dropWhile
  unfold ownFirst
  split
  · rfl
  · rename_i mine rest hdrop
    rw [hdrop] at hsplit
    conv_rhs => rw [← hsplit]
    generalize msgs.takeWhile (fun m => !m.answers own) = before
    have hbefore : m ∈ before ↔ m ∈ before.takeWhile OutMsg.isReply ∨ m ∈ before.dropWhile OutMsg.isReply := by
      conv_lhs => rw [← List.takeWhile_append_dropWhile (p := OutMsg.isReply) (l := before)]
      exact List.mem_append
    simp only [List.mem_append, List.mem_cons, hbefore]
    tauto

/-- A reply enters the output queue, and a notice too unless that holds 23 messages (R178, R179). -/
theorem enters_foldl_accept {m : OutMsg} {msgs : List OutMsg} (hm : m ∈ msgs) (l : Link) :
    OutEntry.of m ∈ (msgs.foldl Link.accept l).output
      ∨ m.isReply = false ∧ 23 ≤ (msgs.foldl Link.accept l).output.length := by
  induction msgs generalizing l with
  | nil => cases hm
  | cons n msgs ih =>
    rw [List.foldl_cons]
    rcases List.mem_cons.mp hm with rfl | hm
    · have hgrows := prefix_foldl_accept msgs (l.accept m)
      by_cases hin : (m.isReply || decide (l.output.length < Config.noticeLevel)) = true
      · refine .inl (hgrows.subset ?_)
        rw [Link.accept, if_pos hin]
        exact List.mem_append_right _ (List.mem_singleton_self _)
      · rw [Bool.not_eq_true, Bool.or_eq_false_iff] at hin
        obtain ⟨hnotice, hfull⟩ := hin
        have hsame : (l.accept m).output = l.output := by
          rw [Link.accept, hnotice, hfull]
          rfl
        rw [hsame] at hgrows
        exact .inr ⟨hnotice, (Nat.not_lt.mp (of_decide_eq_false hfull)).trans hgrows.length_le⟩
    · exact ih hm _

/-- What an event produced enters the output queue, whatever request it took. -/
theorem enters_flush {m : OutMsg} {s : State} (hm : m ∈ s.scratch.produced) (own : Nat) :
    OutEntry.of m ∈ (s.flush own).link.output ∨ m.isReply = false ∧ 23 ≤ (s.flush own).link.output.length :=
  enters_foldl_accept ((mem_ownFirst own _ m).mpr hm) s.link

/-! ### The drawing of the serial -/

/-- A slot that has issued the serial and had its need tested in a JOINED station (R112, R113, R124). -/
def Slot.drawn (lowWater : Nat) (c : CurrentBlock) (x : Slot) : Slot := (x.issued c).sought lowWater

section

variable {k : Nat} {x : Slot} {s : State} (hx : s.alloc.slots[k]? = some x) (hjoined : s.hall.state = .joined)
include hx hjoined

/-- The model's drawing is one re-evaluation of the slot as the test of its need leaves it. -/
theorem issueSerial_review (c : CurrentBlock) :
    ∃ u : State, s.issueSerial k c = u.reviewSupply k
      ∧ u = { s.modifySlot k (Slot.drawn s.lowWater c) with scratch := u.scratch } ∧ u.scratch.produced = s.scratch.produced := by
  let v : State := if c.next + 1 < 1000 then s.modifySlot k (Slot.issued c) else (s.modifySlot k (Slot.issued c)).dueOffer
  have hv : v = { s.modifySlot k (Slot.issued c) with scratch := v.scratch } ∧ v.scratch.produced = s.scratch.produced := by
    by_cases hnext : c.next + 1 < 1000
    · have hv : v = s.modifySlot k (Slot.issued c) := if_pos hnext
      rw [hv]
      exact ⟨rfl, rfl⟩
    · have hv : v = (s.modifySlot k (Slot.issued c)).dueOffer := if_neg hnext
      rw [hv]
      exact ⟨rfl, rfl⟩
  have hissue : s.issueSerial k c = (v.testNeed k).reviewSupply k := issueSerial_eq k c s
  clear_value v
  obtain ⟨hframe, hproduced⟩ := hv
  have hvx : v.alloc.slots[k]? = some (x.issued c) := by
    rw [hframe]
    exact slot_modifySlot hx _
  have hvjoined : v.hall.state = .joined := by
    rw [hframe]
    exact hjoined
  have hwater : v.lowWater = s.lowWater := by
    rw [hframe]
    rfl
  obtain ⟨u, hu, huframe, huproduced⟩ := testNeed_reviewSupply hvx hvjoined
  refine ⟨u, hissue.trans hu, ?_, huproduced.trans hproduced⟩
  have htwice : (s.modifySlot k (Slot.issued c)).modifySlot k (Slot.sought s.lowWater) = s.modifySlot k (Slot.drawn s.lowWater c) :=
    modify_modify_slot k (Slot.issued c) (Slot.sought s.lowWater) s
  rw [huframe, ← htwice, hwater]
  conv_lhs => rw [hframe]
  rfl

/-- The statements' word for it. -/
theorem serialDrawn_eq (hclear : s.scratch = .clear) (c : CurrentBlock) :
    s.serialDrawn k c = (s.modifySlot k (Slot.drawn s.lowWater c)).resupplied k := by
  obtain ⟨u, hu, hframe, hproduced⟩ := issueSerial_review hx hjoined c
  have hcarried : u.carried = s.modifySlot k (Slot.drawn s.lowWater c) := by
    rw [State.carried, hproduced, hclear, hframe]
    exact congrArg (fun l : Scratch => { s.modifySlot k (Slot.drawn s.lowWater c) with scratch := l }) hclear.symm
  conv_lhs => rw [← carried_of_clear hclear]
  rw [← carried_issueSerial, hu, carried_reviewSupply, hcarried]

end

/-! ### The entry of what the drawing made owed -/

/-- From `s` to `t` some of the CLAIM and the SPENTs of the slot have entered the queue (R97, R157). -/
structure SlotOffered (k : Nat) (s t : State) : Prop where
  parts : t = { s with hall := { s.hall with queue := t.hall.queue }, alloc := { s.alloc with slots := t.alloc.slots } }
  queue : s.hall.queue.Sublist t.hall.queue
  others : ∀ j, k ≠ j → t.alloc.slots[j]? = s.alloc.slots[j]?
  slot : ∀ x, s.alloc.slots[k]? = some x → ∃ y, t.alloc.slots[k]? = some y ∧ y.unowed = x.unowed
    ∧ y.claim.block? = x.claim.block?
    ∧ ∀ b ∈ x.owedSpent, b ∈ y.owedSpent ∨ ∃ f ∈ t.hall.queue, f.frame.body = .spent x.letter b

namespace SlotOffered

variable {k : Nat} {s t u : State}

theorem refl (k : Nat) (s : State) : SlotOffered k s s :=
  ⟨rfl, List.Sublist.refl _, fun _ _ => rfl, fun x hx => ⟨x, hx, rfl, rfl, fun _ => .inl⟩⟩

theorem trans (h : SlotOffered k s t) (h' : SlotOffered k t u) : SlotOffered k s u where
  parts := by rw [h'.parts, h.parts]
  queue := h.queue.trans h'.queue
  others j hj := (h'.others j hj).trans (h.others j hj)
  slot x hx := by
    obtain ⟨y, hy, hyx, hclaim, hspent⟩ := h.slot x hx
    obtain ⟨z, hz, hzy, hclaim', hspent'⟩ := h'.slot y hy
    refine ⟨z, hz, hzy.trans hyx, hclaim'.trans hclaim, fun b hb => ?_⟩
    have hletter : y.unowed.letter = x.unowed.letter := congrArg Slot.letter hyx
    change y.letter = x.letter at hletter
    rcases hspent b hb with howed | ⟨f, hf, hbody⟩
    · rw [← hletter]
      exact hspent' b howed
    · exact .inr ⟨f, h'.queue.subset hf, hbody⟩

/-- An owed CLAIM. -/
theorem claim {b : Nat} {x : Slot} (hx : s.alloc.slots[k]? = some x) (hclaim : x.claim = .owed b) :
    SlotOffered k s (s.offerItem (.claim k b)) := by
  unfold State.offerItem
  split
  · refine ⟨rfl, sublist_insertFrame _ _, fun j hj => ?_, fun y hy => ?_⟩
    · exact (slots_modifySlot k j _ (s.enqueue _)).trans (if_neg hj)
    · obtain rfl : x = y := Option.some.inj (hx.symm.trans hy)
      exact ⟨{ x with claim := .queued b }, slot_modifySlot (s := s.enqueue _) hx _, rfl, by rw [hclaim]; rfl, fun _ => .inl⟩
  · exact .refl k s

/-- An owed SPENT. -/
theorem spent (b : Nat) (s : State) : SlotOffered k s (s.offerItem (.spent k b)) := by
  unfold State.offerItem
  split
  · refine ⟨rfl, sublist_insertFrame _ _, fun j hj => ?_, fun x hx => ?_⟩
    · exact (slots_modifySlot k j _ (s.enqueue _)).trans (if_neg hj)
    · refine ⟨{ x with owedSpent := x.owedSpent.erase b }, slot_modifySlot (s := s.enqueue _) hx _, rfl, rfl, fun c hc => ?_⟩
      by_cases hcb : c = b
      · refine .inr ⟨{ frame := s.buildFrame (.spent (s.letterOf k) b), check := none }, ?_, ?_⟩
        · exact (mem_insertFrame _ _ _).mpr (.inl rfl)
        · show FrameBody.spent (s.letterOf k) b = _
          rw [State.letterOf, hx, hcb]
          rfl
      · exact .inl ((List.mem_erase_of_ne hcb).mpr hc)
  · exact .refl k s

/-- The offering of the slot's own items (R97, R157). -/
theorem offerSlot (k : Nat) (s : State) : SlotOffered k s (s.offerSlot k) := by
  unfold State.offerSlot
  cases hx : s.alloc.slots[k]? with
  | none => exact .refl k s
  | some x =>
    have hspents : ∀ (bs : List Nat) (u : State), SlotOffered k u ((bs.map (OwedItem.spent k)).foldl State.offerItem u) := by
      intro bs
      induction bs with
      | nil => exact fun u => .refl k u
      | cons b bs ih => exact fun u => (spent b u).trans (ih _)
    dsimp only
    rw [List.foldl_append]
    refine SlotOffered.trans ?_ (hspents _ _)
    cases hclaim : x.claim with
    | owed b =>
      rw [Slot.owedClaim, hclaim]
      exact claim hx hclaim
    | none | queued | holdoff =>
      rw [Slot.owedClaim, hclaim]
      exact .refl k s

end SlotOffered

/-- Nothing is produced by entries. -/
theorem scratch_foldl_offerItem (items : List OwedItem) (s : State) : (items.foldl State.offerItem s).scratch = s.scratch := by
  induction items generalizing s with
  | nil => rfl
  | cons i items ih =>
    have hitem : (s.offerItem i).scratch = s.scratch := by
      unfold State.offerItem
      split
      · cases i <;> rfl
      · rfl
    rw [List.foldl_cons, ih, hitem]

theorem scratch_parcelPosted (q : Quote) (k : Nat) (c : CurrentBlock) (offer : Bool) (s : State) :
    (s.parcelPosted q k c offer).scratch = s.scratch := by
  unfold State.parcelPosted State.offerSlot
  dsimp only
  split
  · split
    · rfl
    · exact scratch_foldl_offerItem _ _
  · rfl

/-- What a completion produces: what the re-evaluation says, and the LABEL last (R97). -/
theorem produced_complete {q : Quote} {k : Nat} {x : Slot} {s : State} (hx : s.alloc.slots[k]? = some x)
    (hjoined : s.hall.state = .joined) (commit : RequestRef) (c : CurrentBlock) :
    ∃ u : State, u = { (s.leaving q).modifySlot k (Slot.drawn s.lowWater c) with scratch := u.scratch }
      ∧ u.scratch.produced = s.scratch.produced
      ∧ (s.complete q commit k c).scratch.produced =
        (u.reviewSupply k).scratch.produced
          ++ [.reply (some commit.id) commit.tag (.label ((s.parcelled q k c).labelOf q c))] := by
  obtain ⟨u, hu, hframe, hproduced⟩ := issueSerial_review (k := k) (x := x)
    (s := { s.leaving q with scratch := { s.scratch with offerDue := false } }) hx hjoined c
  have hdropped : ∀ v : State, (v.dropRef q.result.bank).scratch = v.scratch := fun v => by
    rw [dropRef_eq]
    cases q.result.bank <;> rfl
  refine ⟨u, hframe, hproduced, ?_⟩
  rw [complete_eq, hdropped, State.reply_scratch, State.parcelled, scratch_parcelPosted, ← hu]
  rfl

end Sys2Proof.Machine
end

section
/-! What a completion leaves of the slot and of the route's row (R97, R112, R113, R124, R125, R139). -/

namespace Sys2Proof.Machine

/-! ### The slot -/

/-- The claim a test of the need makes. -/
theorem sought_sought (lowWater : Nat) (x : Slot) : x.Sought (x.sought lowWater) := by
  unfold Slot.sought
  split
  · rename_i hneed
    obtain ⟨-, -, hclaim, -⟩ := (needsClaim_iff x lowWater).mp hneed
    split
    · exact .refl x
    · rename_i b hsearch
      exact .chosen hclaim hsearch
  · exact .refl x

/-- A test of the need leaves the supply state to the re-evaluation. -/
theorem supply_sought (lowWater : Nat) (x : Slot) : (x.sought lowWater).supply = x.supply := by
  unfold Slot.sought
  split
  · split <;> rfl
  · rfl

/-- No claim is the claim for no block. -/
theorem block?_eq_none_iff (c : Claim) : c.block? = none ↔ c = .none := by cases c <;> simp [Claim.block?]

/-- The current block after the serial: the same with the next offset, or the promoted reserve (R110, R124, R125). -/
def Slot.heldAfter (c : CurrentBlock) (x : Slot) : Option CurrentBlock :=
  if c.next + 1 < 1000 then some { block := c.block, next := c.next + 1 }
  else x.reserve.map fun b => { block := b, next := 0 }

/-- A claim is needed after the serial, as the statement puts it (R112). -/
def Slot.needAfter (lowWater : Nat) (c : CurrentBlock) (x : Slot) : Prop :=
  x.claim = .none ∧ (c.next + 1 < 1000 → x.reserve = none) ∧ ∀ h, x.heldAfter c = some h → 1000 - h.next ≤ lowWater

section

variable (c : CurrentBlock) (x : Slot)

/-- The slot that has issued a serial, field by field (R124, R125). -/
theorem issued_fields :
    (x.issued c).current = x.heldAfter c ∧ (x.issued c).reserve = (if c.next + 1 < 1000 then x.reserve else none)
      ∧ (x.issued c).marks = x.marks ∧ (x.issued c).claim = x.claim ∧ (x.issued c).supply = x.supply
      ∧ (x.issued c).enabled = x.enabled ∧ (x.issued c).letter = x.letter ∧ (x.issued c).first = x.first
      ∧ (x.issued c).count = x.count ∧ (x.issued c).cursor = x.cursor := by
  unfold Slot.issued Slot.heldAfter
  split
  · exact ⟨rfl, rfl, rfl, rfl, rfl, rfl, rfl, rfl, rfl, rfl⟩
  · exact ⟨rfl, rfl, rfl, rfl, rfl, rfl, rfl, rfl, rfl, rfl⟩

/-- The last serial spends the block (R125). -/
theorem spent_issued (h : c.next = 999) : c.block ∈ (x.issued c).owedSpent := by
  have hlast : ¬ c.next + 1 < 1000 := by omega
  rw [Slot.issued, if_neg hlast, Slot.oweSpent]
  dsimp only
  split <;> exact List.mem_append_right _ (List.mem_singleton_self _)

/-- The model's test of the need after the serial (R112). -/
theorem needsClaim_issued (henabled : x.enabled = true) (lowWater : Nat) :
    (x.issued c).needsClaim lowWater = true ↔ x.needAfter lowWater c := by
  obtain ⟨hcurrent, hreserve, -, hclaim, -, henabled', -⟩ := issued_fields c x
  rw [needsClaim_iff, hcurrent, hreserve, hclaim, henabled', Slot.needAfter]
  have hall : (((x.heldAfter c).all fun h => decide (1000 - h.next ≤ lowWater)) = true) ↔
      ∀ h, x.heldAfter c = some h → 1000 - h.next ≤ lowWater := by
    cases x.heldAfter c <;> simp
  have hnone : (if c.next + 1 < 1000 then x.reserve else none) = none ↔ (c.next + 1 < 1000 → x.reserve = none) := by
    split <;> simp_all
  rw [hall, hnone]
  tauto

/-- The claim made after the serial (R112, R113). -/
theorem drawn_claim (henabled : x.enabled = true) (lowWater : Nat) :
    (∀ b, x.needAfter lowWater c → x.search = some b →
        (x.drawn lowWater c).claim = .owed b ∧ (x.drawn lowWater c).marks = x.marks.set (b - x.first) true)
      ∧ (¬ x.needAfter lowWater c ∨ x.search = none →
        (x.drawn lowWater c).claim = x.claim ∧ (x.drawn lowWater c).marks = x.marks) := by
  obtain ⟨-, -, hmarks, hclaim, -, -, -, hfirst, hcount, hcursor⟩ := issued_fields c x
  have hsearch : (x.issued c).search = x.search := by rw [Slot.search, Slot.search, hmarks, hfirst, hcount, hcursor]
  rw [← needsClaim_issued c x henabled]
  unfold Slot.drawn Slot.sought
  rw [hsearch]
  refine ⟨fun b hneed hb => ?_, fun hnot => ?_⟩
  · rw [if_pos hneed, hb]
    exact ⟨rfl, by rw [← hmarks, ← hfirst]; rfl⟩
  · by_cases hneed : (x.issued c).needsClaim lowWater = true
    · rw [if_pos hneed, hnot.resolve_left (not_not.mpr hneed)]
      exact ⟨hclaim, hmarks⟩
    · rw [if_neg hneed]
      exact ⟨hclaim, hmarks⟩

end

/-! ### The row -/

/-- The row after the parcel is assigned, as the statement puts it (R137, R139). -/
theorem assign_eq (weightLimit itemLimit wa : Nat) (row : Row) :
    let opensNext := row.count ≠ 0 ∧ (itemLimit < row.count + 1 ∨ weightLimit < row.fill + wa)
    row.assign weightLimit itemLimit wa =
      { seq := if opensNext then (if row.seq < 9999 then row.seq + 1 else 1) else row.seq
        fill := if row.count = 0 ∨ opensNext then min wa 65535 else min (row.fill + wa) 65535
        count := if row.count = 0 ∨ opensNext then 1 else min (row.count + 1) 255
        follow := .followed, owed := row.owed } := by
  intro opensNext
  unfold Row.assign
  by_cases hempty : row.count = 0
  · have hnot : ¬ opensNext := fun h => h.1 hempty
    rw [if_pos hempty, if_neg hnot, if_pos (.inl hempty), if_pos (.inl hempty)]
    rfl
  · by_cases hover : row.count + 1 > itemLimit ∨ row.fill + wa > weightLimit
    · have hopens : opensNext := ⟨hempty, hover⟩
      have hnew : row.count = 0 ∨ opensNext := .inr hopens
      rw [if_neg hempty, if_pos hover, if_pos hopens, if_pos hnew, if_pos hnew]
      rfl
    · have hnot : ¬ opensNext := fun h => hover h.2
      have hnot' : ¬ (row.count = 0 ∨ opensNext) := not_or.mpr ⟨hempty, hnot⟩
      rw [if_neg hempty, if_neg hover, if_neg hnot, if_neg hnot', if_neg hnot']
      rfl

/-- The rows after a parcel is assigned. -/
theorem row_assignBag {route : Nat} {cfg : Setup} {s : State} (hsetup : s.setup = some cfg) (hrows : RowsInRange s)
    (hroute : route < 32) (wa : Nat) :
    (s.assignBag route wa).row route = (s.row route).assign cfg.weightLimit cfg.itemLimit wa
      ∧ ∀ r, r ≠ route → (s.assignBag route wa).row r = s.row r := by
  obtain ⟨hlength, -⟩ := hrows
  have hget : s.bags.rows[route]? = some (s.bags.rows[route]'(hlength ▸ hroute)) := List.getElem?_eq_getElem _
  refine ⟨?_, fun r hr => ?_⟩
  · rw [State.assignBag, State.row, rows_modifyRow, if_pos rfl, State.row, hget, hsetup]
    rfl
  · rw [State.assignBag, State.row, rows_modifyRow, if_neg hr.symm, State.row]

/-! ### The parcel -/

/-- The parcel has its bag and its POSTED is in the queue (R97). -/
def State.parcelEntered (q : Quote) (c : CurrentBlock) (s : State) : State :=
  let u := s.assignBag q.result.route q.result.wa
  u.enqueue (.posted q.result.letter c.serial q.result.route (u.row q.result.route).seq q.result.wa)

theorem slotOffered_parcelPosted (q : Quote) (k : Nat) (c : CurrentBlock) (offer : Bool) (s : State) :
    SlotOffered k (s.parcelEntered q c) (s.parcelPosted q k c offer) := by
  cases offer
  · exact .refl k _
  · exact .offerSlot k _

/-- A test of the need and a re-evaluation touch the slots, the quote table and the counter link alone. -/
theorem needTested_resupplied_frame (k : Nat) (u : State) :
    (u.needTested k).resupplied k =
      { u with
        quotes := ((u.needTested k).resupplied k).quotes, link := ((u.needTested k).resupplied k).link
        alloc := { u.alloc with slots := ((u.needTested k).resupplied k).alloc.slots } } := by
  have hneed := needTested_frame k u
  have hsupply := resupplied_frame k (u.needTested k)
  rw [hsupply, hneed]

/-- A completion leaves the parts that its steps leave, and its quote's bank has one reference less (R97, R101). -/
theorem completed_parts (q : Quote) (commit : RequestRef) (k : Nat) (c : CurrentBlock) (s : State) :
    let d := (s.leaving q).serialDrawn k c
    let o := d.parcelPosted q k c ((s.leaving q).drawOwes k c)
    let f := s.completed q commit k c
    SlotOffered k (d.parcelEntered q c) o ∧ f.alloc = o.alloc ∧ f.hall = o.hall ∧ f.bags = (d.assignBag q.result.route q.result.wa).bags
      ∧ f.quotes = d.quotes ∧ f.setup = s.setup ∧ f.weighing = s.weighing ∧ f.gauge = s.gauge
      ∧ f.tariff = ((s.dropRef q.result.bank).tariff)
      ∧ d = { s with
          quotes := d.quotes, link := d.link, alloc := { s.alloc with slots := d.alloc.slots } } := by
  intro d o f
  have hoffered : SlotOffered k (d.parcelEntered q c) o := slotOffered_parcelPosted q k c _ d
  have hd : d = { s with quotes := d.quotes, link := d.link, alloc := { s.alloc with slots := d.alloc.slots } } := by
    exact needTested_resupplied_frame k ((s.leaving q).modifySlot k (Slot.issued c))
  have hparts := hoffered.parts
  have hf : f = (o.replied commit (.label (o.labelOf q c))).dropRef q.result.bank := rfl
  have hdropped : ∀ u : State, u.dropRef q.result.bank = { u with tariff := (u.dropRef q.result.bank).tariff } := fun u => by
    rw [dropRef_eq]
    cases q.result.bank <;> rfl
  have hsame : f.alloc = o.alloc ∧ f.hall = o.hall ∧ f.bags = o.bags ∧ f.quotes = o.quotes ∧ f.setup = o.setup
      ∧ f.weighing = o.weighing ∧ f.gauge = o.gauge := by
    rw [hf, hdropped]
    exact ⟨rfl, rfl, rfl, rfl, rfl, rfl, rfl⟩
  obtain ⟨halloc, hhall, hbags, hquotes, hsetup, hweighing, hgauge⟩ := hsame
  have hosame : o.bags = (d.assignBag q.result.route q.result.wa).bags ∧ o.quotes = d.quotes ∧ o.setup = s.setup
      ∧ o.weighing = s.weighing ∧ o.gauge = s.gauge ∧ o.tariff = s.tariff := by
    rw [hparts]
    refine ⟨rfl, rfl, ?_, ?_, ?_, ?_⟩
    · show d.setup = _
      rw [hd]
    · show d.weighing = _
      rw [hd]
    · show d.gauge = _
      rw [hd]
    · show d.tariff = _
      rw [hd]
  obtain ⟨hobags, hoquotes, hosetup, howeighing, hogauge, hotariff⟩ := hosame
  have htariff : ∀ u v : State, u.tariff = v.tariff → (u.dropRef q.result.bank).tariff = (v.dropRef q.result.bank).tariff := by
    intro u v huv
    rw [dropRef_eq, dropRef_eq]
    cases q.result.bank <;> simp only [State.setBank, State.bank, huv]
  exact ⟨hoffered, halloc, hhall, hbags.trans hobags, hquotes.trans hoquotes, hsetup.trans hosetup, hweighing.trans howeighing,
    hgauge.trans hogauge, (congrArg State.tariff hf).trans (htariff _ _ hotariff), hd⟩

end Sys2Proof.Machine
end

section
/-! The completion of a quote: the counter link, the quote table and the messages (R97, R99, R111, R191, R192). -/

namespace Sys2Proof.Machine

/-! ### The counter link within an event -/

/-- Within an event nothing of the counter link changes but the number of the next notice (log 8). -/
@[reducible] def LinkKept (s t : State) : Prop := t.link = { s.link with noticeSeq := t.link.noticeSeq }

theorem LinkKept.trans {s t u : State} (h : LinkKept s t) (h' : LinkKept t u) : LinkKept s u := by
  show u.link = _
  rw [h', h]

theorem linkKept_reopen (reason : Reason) (n : Nat) (s : State) : LinkKept s (s.reopen reason n) := by
  rcases committing_or n s with hnone | ⟨q, ref, hq, hstate⟩
  · rw [reopen_notCommitting reason hnone]
  · rw [reopen_committing reason hq hstate]
    rfl

theorem linkKept_foldl {α : Type} {f : State → α → State} (hf : ∀ s x, LinkKept s (f s x)) (l : List α) (s : State) :
    LinkKept s (l.foldl f s) := by
  induction l generalizing s with
  | nil => rfl
  | cons x l ih => exact (hf s x).trans (ih _)

theorem linkKept_reviewSupply (k : Nat) (s : State) : LinkKept s (s.reviewSupply k) := by
  cases hx : s.alloc.slots[k]? with
  | none =>
    have hsame : s.reviewSupply k = s := by simp only [State.reviewSupply, hx]
    rw [hsame]
  | some x =>
    by_cases hexhausted : x.supplyOf = .exhausted ∧ x.supply ≠ .exhausted
    · rw [reviewSupply_exhausted hx hexhausted]
      have hnotified : LinkKept s ((s.modifySlot k fun y => { y with supply := x.supplyOf }).notify (.exhausted x.letter)) := rfl
      exact hnotified.trans (linkKept_foldl (fun u n => linkKept_reopen .noNumbers n u) _ _)
    · by_cases hlast : x.current = none ∨ ¬ (x.supplyOf = .last ∧ x.supply ≠ .last)
      · rw [reviewSupply_quiet hx hexhausted hlast]
        rfl
      · obtain ⟨hcurrent, hlast⟩ := not_or.mp hlast
        obtain ⟨c, hcurrent⟩ := Option.ne_none_iff_exists'.mp hcurrent
        rw [reviewSupply_last hx hcurrent (not_not.mp hlast)]
        rfl

theorem linkKept_testNeed (k : Nat) (s : State) : LinkKept s (s.testNeed k) := by
  unfold State.testNeed
  split
  · rfl
  · split
    · split
      · exact linkKept_reviewSupply k s
      · exact linkKept_reviewSupply k (State.dueOffer (s.modifySlot k _))
    · rfl

theorem linkKept_offerItem (s : State) (i : OwedItem) : LinkKept s (s.offerItem i) := by
  unfold State.offerItem
  split
  · cases i <;> rfl
  · rfl

/-- A completion (R97). -/
theorem linkKept_complete (q : Quote) (commit : RequestRef) (k : Nat) (c : CurrentBlock) (s : State) :
    LinkKept s (s.complete q commit k c) := by
  have hissued : ∀ u : State, LinkKept u (u.issueSerial k c) := fun u => by
    rw [issueSerial_eq]
    refine LinkKept.trans (LinkKept.trans ?_ (linkKept_testNeed k _)) (linkKept_reviewSupply k _)
    split <;> rfl
  have hposted : ∀ (offer : Bool) (u : State), LinkKept u (u.parcelPosted q k c offer) := fun offer u => by
    unfold State.parcelPosted State.offerSlot
    dsimp only
    split
    · split
      · rfl
      · exact linkKept_foldl linkKept_offerItem _ (State.enqueue _ (u.assignBag _ _))
    · rfl
  have hdropped : ∀ u : State, LinkKept u (u.dropRef q.result.bank) := fun u => by
    rw [dropRef_eq]
    cases q.result.bank <;> rfl
  rw [complete_eq]
  refine LinkKept.trans ?_ (hdropped _)
  have hparcelled : LinkKept s (s.parcelled q k c) :=
    LinkKept.trans (hissued { s.leaving q with scratch := { s.scratch with offerDue := false } }) (hposted _ _)
  exact hparcelled

theorem linkKept_judgeEntry (s : State) (n : Nat) : LinkKept s (s.judgeEntry n) := by
  rcases judgeEntry_cases s n with hnot | ⟨q, ref, k, c, hq, hstate, hcan⟩
  · rw [judgeEntry_not hnot]
  · rw [judgeEntry_complete hq hstate hcan]
    exact linkKept_complete q ref k c s

/-- Serving (R96). -/
theorem linkKept_serve (s : State) : LinkKept s s.serve := linkKept_foldl linkKept_judgeEntry _ s

/-! ### The quote table -/

/-- The table that turning back leaves depends on the table alone. -/
theorem quotes_turnedBack_same (reason : Reason) (ns : List Nat) {u v : State} (h : u.quotes = v.quotes) :
    (u.turnedBack reason ns).quotes = (v.turnedBack reason ns).quotes := by
  have hlink := turnedBack_same reason ns (u := u) (v := { v with link := u.link }) rfl h
  have hquotes : ∀ (ns : List Nat) (v : State) (l : Link),
      (({ v with link := l } : State).turnedBack reason ns).quotes = (v.turnedBack reason ns).quotes := by
    intro ns
    induction ns with
    | nil => exact fun _ _ => rfl
    | cons n ns ih =>
      intro v l
      rw [turnedBack_cons, turnedBack_cons reason n ns v]
      rcases committing_or n v with hnone | ⟨q, ref, hq, hstate⟩
      · rw [turnedBack_notCommitting reason hnone, turnedBack_notCommitting reason (s := { v with link := l }) hnone]
        exact ih v l
      · rw [turnedBack_committing reason hq hstate, turnedBack_committing reason (s := { v with link := l }) hq hstate]
        exact (ih (v.reopened n) _).trans (ih (v.reopened n) _).symm
  rw [hlink.2, hquotes]

/-- Another quote stays where the quote leaves (R97). -/
theorem quote?_leaving {q : Quote} {m : Nat} (h : m ≠ q.number) (s : State) : (s.leaving q).quote? m = s.quote? m := by
  show (s.quotes.records.eraseP fun x => x.number == q.number).find? (fun x => x.number == m) =
    s.quotes.records.find? fun x => x.number == m
  induction s.quotes.records with
  | nil => rfl
  | cons x l ih =>
    by_cases hx : x.number = q.number
    · rw [List.eraseP_cons_of_pos (by simpa using hx), List.find?_cons_of_neg (by simpa [hx] using h.symm)]
    · rw [List.eraseP_cons_of_neg (by simpa using hx), List.find?_cons, List.find?_cons, ih]

/-- The quote table after a re-evaluation (R99, R111). -/
theorem quotes_resupplied {k : Nat} {x : Slot} {s : State} (hx : s.alloc.slots[k]? = some x) :
    (s.resupplied k).quotes =
      if x.supplyOf = .exhausted ∧ x.supply ≠ .exhausted then (s.turnedBack .noNumbers (s.pendingOf x.letter)).quotes
      else s.quotes := by
  by_cases hexhausted : x.supplyOf = .exhausted ∧ x.supply ≠ .exhausted
  · rw [if_pos hexhausted, resupplied_exhausted hx hexhausted]
    exact quotes_turnedBack_same _ _ rfl
  · rw [if_neg hexhausted]
    by_cases hlast : x.current = none ∨ ¬ (x.supplyOf = .last ∧ x.supply ≠ .last)
    · rw [resupplied_quiet hx hexhausted hlast]
      rfl
    · obtain ⟨hcurrent, hlast⟩ := not_or.mp hlast
      obtain ⟨c, hcurrent⟩ := Option.ne_none_iff_exists'.mp hcurrent
      rw [resupplied_last hx hcurrent (not_not.mp hlast)]
      rfl

/-! ### The event -/

section

variable {n k : Nat} {q : Quote} {ref : RequestRef} {c : CurrentBlock} {sl : Slot} {s : State}
  (hclear : s.scratch = .clear) (hq : s.quote? n = some q) (hstate : q.state = .committing ref)
  (hjoined : s.hall.state = .joined) (hroom : s.hall.queue.length < 12) (hslot : s.slotOf q.result.letter = some k)
  (hsl : s.alloc.slots[k]? = some sl) (hcurrent : sl.current = some c) (hnext : c.next < 1000)

include hjoined hroom hslot hsl hcurrent hnext in
/-- The three conditions of R96 hold. -/
theorem completable_eq : s.completable q = some (k, c) := by
  have hadmits : admits s.hall.queue .normal = true := decide_eq_true hroom
  have hblock : ((s.alloc.slots[k]?).bind fun x => x.current) = some c := by rw [hsl]; exact hcurrent
  unfold State.completable
  rw [if_pos ⟨hjoined, hadmits⟩, hslot]
  simp only [hblock]
  exact if_pos hnext

include hclear hq hstate hjoined hroom hslot hsl hcurrent hnext in
/-- COMMIT_COMPLETION completes the quote, and its event ends (R96, R97). -/
theorem exec_commitCompletion :
    exec (.commitCompletion n) s = .next ((s.complete q ref k c).flush s.link.nextId) := by
  have hcan := completable_eq hjoined hroom hslot hsl hcurrent hnext
  obtain ⟨-, hoffer, hserve⟩ := complete_sameDue q ref k c s
  show Host.Outcome.next ((s.judgeEntry n).finish s.link.nextId .owedFirst) = _
  rw [judgeEntry_complete hq hstate hcan,
    finish_quiet _ _ _ (by rw [hoffer, hclear]; rfl) (by rw [hserve, hclear]; rfl)]

include hclear in
/-- But for the counter link the event leaves what the completion leaves. -/
theorem flush_complete (own : Nat) :
    (s.complete q ref k c).flush own =
      { s.completed q ref k c with link := ((s.complete q ref k c).flush own).link } := by
  have hcarried := carried_complete q ref k c s
  rw [carried_of_clear hclear] at hcarried
  exact congrArg (fun u : State => { u with link := ((s.complete q ref k c).flush own).link }) hcarried

end

end Sys2Proof.Machine
end

section
/-! COMMIT_COMPLETION posts the parcel and labels it (R97, R112, R113, R124, R125, R139, R191). -/

namespace Sys2Proof.Machine

/-- The supply state of a slot with these holdings, claim and map, as the statement puts it (R111). -/
theorem supplyOf_enabled {z : Slot} (henabled : z.enabled = true) :
    z.supplyOf = if z.current.isSome then (if z.marks.count false = 0 then .last else .stocked)
      else if z.claim = .none ∧ z.marks.count false = 0 then .exhausted else .waiting := by
  rw [supplyOf_table, if_neg (by rw [henabled]; exact Bool.noConfusion)]

section

variable {n k : Nat} {q : Quote} {ref : RequestRef} {c : CurrentBlock} {sl : Slot} {cfg : Setup} {s : State}
  (hclear : s.scratch = .clear) (hsetup : s.setup = some cfg) (hq : s.quote? n = some q)
  (hstate : q.state = .committing ref) (hjoined : s.hall.state = .joined) (hslot : s.slotOf q.result.letter = some k)
  (hsl : s.alloc.slots[k]? = some sl)

include hclear hsetup hjoined hsl in
/-- The drawing of the serial in the words of the statement: one re-evaluation. -/
theorem serialDrawn_leaving : (s.leaving q).serialDrawn k c =
    ((s.leaving q).modifySlot k (Slot.drawn cfg.lowWater c)).resupplied k := by
  have hwater : (s.leaving q).lowWater = cfg.lowWater := by
    show (s.setup.map (·.lowWater)).getD 0 = _
    rw [hsetup]
    rfl
  rw [serialDrawn_eq (s := s.leaving q) hsl hjoined hclear, hwater]

include hclear hsetup hjoined hsl in
/-- The slots after a completion. -/
theorem slots_completed :
    (∃ y, (s.completed q ref k c).alloc.slots[k]? = some y ∧ y.unowed = (sl.drawn cfg.lowWater c).resupply.unowed
        ∧ y.claim.block? = (sl.drawn cfg.lowWater c).claim.block?
        ∧ ∀ b ∈ (sl.drawn cfg.lowWater c).owedSpent, b ∈ y.owedSpent
          ∨ ∃ f ∈ (s.completed q ref k c).hall.queue, f.frame.body = .spent (sl.drawn cfg.lowWater c).letter b)
      ∧ ∀ j, j ≠ k → (s.completed q ref k c).alloc.slots[j]? = s.alloc.slots[j]? := by
  obtain ⟨hoffered, halloc, hhall, -⟩ := completed_parts q ref k c s
  have hdrawn := serialDrawn_leaving (q := q) (c := c) hclear hsetup hjoined hsl
  have hentered : (((s.leaving q).serialDrawn k c).parcelEntered q c).alloc = ((s.leaving q).serialDrawn k c).alloc := rfl
  have hd : (((s.leaving q).serialDrawn k c).parcelEntered q c).alloc.slots[k]? = some (sl.drawn cfg.lowWater c).resupply := by
    rw [hentered, hdrawn]
    exact slot_resupplied (slot_modifySlot (s := s.leaving q) hsl _)
  obtain ⟨y, hy, hunowed, hclaim, hspent⟩ := hoffered.slot _ hd
  rw [halloc, hhall]
  refine ⟨⟨y, hy, hunowed, hclaim, hspent⟩, fun j hj => ?_⟩
  rw [hoffered.others j hj.symm, hentered, hdrawn, slot_resupplied_other _ hj.symm, slots_modifySlot, if_neg hj.symm]
  rfl

include hclear hsetup hjoined hsl in
/-- The quote table after a completion (R99, R111). -/
theorem quotes_completed : (s.completed q ref k c).quotes =
    if (sl.drawn cfg.lowWater c).supplyOf = .exhausted ∧ sl.supply ≠ .exhausted then
      ((s.leaving q).turnedBack .noNumbers ((s.leaving q).pendingOf sl.letter)).quotes
    else (s.leaving q).quotes := by
  obtain ⟨-, -, -, -, hquotes, -⟩ := completed_parts q ref k c s
  have hsupply : (sl.drawn cfg.lowWater c).supply = sl.supply := by
    rw [Slot.drawn, supply_sought]
    exact (issued_fields c sl).2.2.2.2.1
  have hletter : (sl.drawn cfg.lowWater c).letter = sl.letter := by
    rw [Slot.drawn, (sought_sought _ _).letter]
    exact (issued_fields c sl).2.2.2.2.2.2.1
  rw [hquotes, serialDrawn_leaving hclear hsetup hjoined hsl,
    quotes_resupplied (slot_modifySlot (s := s.leaving q) hsl _), hsupply, hletter]
  congr 1
  exact quotes_turnedBack_same _ _ rfl

include hclear hsetup hq hjoined hsl in
/-- Of the table, one quote has left, and of the pending order its number (R97, R99). -/
theorem quotes_completed_kept :
    let t := (s.completed q ref k c).quotes
    t.waiting = s.quotes.waiting ∧ t.nextNumber = s.quotes.nextNumber ∧ t.records.length + 1 = s.quotes.records.length
      ∧ (s.quotes.pendingOrder.Nodup → n ∉ t.pendingOrder) := by
  intro t
  obtain ⟨hmem, hnumber⟩ := quote?_spec hq
  have hlength : (s.leaving q).quotes.records.length + 1 = s.quotes.records.length := by
    show (s.quotes.records.eraseP fun x => x.number == q.number).length + 1 = _
    rw [List.length_eraseP_of_mem hmem (by simp)]
    exact Nat.sub_add_cancel (List.length_pos_of_mem hmem)
  have hgone : s.quotes.pendingOrder.Nodup → n ∉ (s.leaving q).quotes.pendingOrder := fun hnodup => by
    rw [← hnumber]
    exact hnodup.not_mem_erase
  have hquotes : t = _ := quotes_completed hclear hsetup hjoined hsl
  rw [hquotes]
  split
  · obtain ⟨hwaiting, hcounter, hrecords, hpending⟩ :=
      turnedBack_kept .noNumbers ((s.leaving q).pendingOf sl.letter) (s.leaving q)
    exact ⟨hwaiting, hcounter, by rw [hrecords, hlength], fun hnodup hmem => hgone hnodup (hpending.subset hmem)⟩
  · exact ⟨rfl, rfl, hlength, hgone⟩

include hsetup hsl hjoined in
/-- What a completion produces enters the output queue: the LABEL, and what the slot's supply state has to say (R99, R111, R191). -/
theorem messages_complete (own : Nat) :
    let z := sl.drawn cfg.lowWater c
    let t := (s.complete q ref k c).flush own
    OutEntry.of (.reply (some ref.id) ref.tag (.label ((s.parcelled q k c).labelOf q c))) ∈ t.link.output
      ∧ (∀ x, z.current = some x → z.supplyOf = .last ∧ z.supply ≠ .last →
          (∃ seq, OutEntry.of (.notice seq (.lowNumbers z.letter x.block x.left)) ∈ t.link.output) ∨ 23 ≤ t.link.output.length)
      ∧ (z.supplyOf = .exhausted ∧ z.supply ≠ .exhausted →
          ((∃ seq, OutEntry.of (.notice seq (.exhausted z.letter)) ∈ t.link.output) ∨ 23 ≤ t.link.output.length)
          ∧ ∀ m ∈ (s.leaving q).pendingOf z.letter, ∀ o r, (s.leaving q).quote? m = some o → o.state = .committing r →
              OutEntry.of (.reply (some r.id) r.tag (.refused .noNumbers none)) ∈ t.link.output) := by
  intro z t
  obtain ⟨u, hu, -, hproduced⟩ := produced_complete (q := q) hsl hjoined ref c
  have hwater : s.lowWater = cfg.lowWater := by rw [State.lowWater, hsetup]; rfl
  rw [hwater] at hu
  have hz : u.alloc.slots[k]? = some z := by
    rw [hu]
    exact slot_modifySlot (s := s.leaving q) hsl _
  have hnotice : ∀ {seq : Nat} {m : Notice}, OutMsg.notice seq m ∈ (u.reviewSupply k).scratch.produced →
      (∃ seq, OutEntry.of (.notice seq m) ∈ t.link.output) ∨ 23 ≤ t.link.output.length := fun {seq m} hm => by
    rcases enters_flush (s := s.complete q ref k c) (by rw [hproduced]; exact List.mem_append_left _ hm) own with hin | ⟨-, hfull⟩
    · exact .inl ⟨seq, hin⟩
    · exact .inr hfull
  have hreply : ∀ {r : RequestRef} {b : Reply},
      OutMsg.reply (some r.id) r.tag b ∈ (s.complete q ref k c).scratch.produced →
      OutEntry.of (.reply (some r.id) r.tag b) ∈ t.link.output := fun hm => by
    rcases enters_flush hm own with hin | ⟨hnot, -⟩
    · exact hin
    · cases hnot
  refine ⟨hreply ?_, fun x hx hlast => ?_, fun hexhausted => ?_⟩
  · rw [hproduced]
    exact List.mem_append_right _ (List.mem_singleton_self _)
  · obtain ⟨seq, hseq⟩ := lowNumbers_produced hz hx hlast
    exact hnotice hseq
  · obtain ⟨⟨seq, hseq⟩, hrefused⟩ := exhausted_produced hz hexhausted
    refine ⟨hnotice hseq, fun m hm o r ho hr => hreply ?_⟩
    have hquotes : u.quotes = (s.leaving q).quotes := by
      rw [hu]
      rfl
    have hquote : u.quote? m = some o := by
      rw [State.quote?, hquotes]
      exact ho
    rw [hproduced]
    refine List.mem_append_left _ (hrefused m ?_ o r hquote hr)
    rw [pendingOf_same z.letter hquotes]
    exact hm

end

/-- The LABEL record of a completion, figure by figure (R191). -/
theorem labelOf_parcelled {q : Quote} {k : Nat} {c : CurrentBlock} {cfg : Setup} {s : State} (hclear : s.scratch = .clear)
    (hsetup : s.setup = some cfg) :
    (s.parcelled q k c).labelOf q c =
      { text := itemNumber cfg.office q.result.letter (c.block * 1000 + c.next), quoteNumber := q.number
        bag := ((((s.leaving q).serialDrawn k c).assignBag q.result.route q.result.wa).row q.result.route).seq
        station := s.hall.station, result := q.result } := by
  obtain ⟨hoffered, -, -, -, -, -, -, -, -, hd⟩ := completed_parts q { id := 0, tag := 0 } k c s
  let o : State := ((s.leaving q).serialDrawn k c).parcelPosted q k c ((s.leaving q).drawOwes k c)
  have ho : (s.parcelled q k c).carried = o := by
    rw [State.parcelled, carried_parcelPosted, (drawSerial_spec k c (s.leaving q)).1,
      carried_of_clear (s := s.leaving q) hclear]
  have hosetup : o.setup = some cfg := by
    rw [show o = _ from hoffered.parts]
    show ((s.leaving q).serialDrawn k c).setup = _
    rw [hd, hsetup]
  have hostation : o.hall.station = s.hall.station := by
    rw [show o = _ from hoffered.parts]
    show ((s.leaving q).serialDrawn k c).hall.station = _
    rw [hd]
  have horow : o.row q.result.route = (((s.leaving q).serialDrawn k c).assignBag q.result.route q.result.wa).row q.result.route := by
    rw [show o = _ from hoffered.parts]
    rfl
  have hlabel : (s.parcelled q k c).labelOf q c = o.labelOf q c := by
    rw [← ho]
    rfl
  rw [hlabel, State.labelOf, State.labelRecord, hosetup, hostation, horow]
  rfl

/-- Settles O38: the event by `exec_commitCompletion` and `flush_complete`, the slot by `slots_completed`, the row by
`row_assignBag`, the quote table by `quotes_completed`, the messages by `messages_complete`. -/
theorem completionPostsAndLabels : Obligations.CompletionPostsAndLabels := by
  intro n k q ref c sl cfg s hclear hsetup hq hstate hjoined hroom hslot hsl hcurrent hnext hrows hroute serial row opensNext bag
    held need
  obtain ⟨henabled, hletter⟩ := slotOf_spec hslot hsl
  obtain ⟨hmemq, hnumber⟩ := quote?_spec hq
  let z : Slot := sl.drawn cfg.lowWater c
  obtain ⟨hicurrent, hireserve, himarks, -, hisupply, hienabled, hiletter, hifirst, -⟩ := issued_fields c sl
  have hzsought : (sl.issued c).Sought z := sought_sought cfg.lowWater _
  have hzcurrent : z.current = held := hzsought.current.trans hicurrent
  have hzsupply : z.supply = sl.supply := (supply_sought _ _).trans hisupply
  have hzletter : z.letter = q.result.letter := hzsought.letter.trans (hiletter.trans hletter)
  have hzletter' : (sl.drawn cfg.lowWater c).letter = q.result.letter := hzletter
  have hzenabled : z.enabled = true := by rw [hzsought.rest]; exact hienabled.trans henabled
  obtain ⟨hmade, hnotMade⟩ := drawn_claim c sl henabled cfg.lowWater
  let f : State := s.completed q ref k c
  let t : State := (s.complete q ref k c).flush s.link.nextId
  have ht : t = { f with link := t.link } := flush_complete hclear _
  have hexec : exec (.commitCompletion n) s = .next t :=
    exec_commitCompletion hclear hq hstate hjoined hroom hslot hsl hcurrent hnext
  obtain ⟨⟨y, hy, hunowed, hyclaim, hyspent⟩, hothers⟩ := slots_completed (q := q) (ref := ref) (c := c) hclear hsetup hjoined hsl
  have hyz := eq_of_unowed hunowed
  have hymarks : y.marks = z.marks := by rw [hyz]; rfl
  have hysupply : y.supply = z.supplyOf := by rw [hyz]; rfl
  have hynone : y.claim = .none ↔ z.claim = .none := by rw [← block?_eq_none_iff, hyclaim, block?_eq_none_iff]
  obtain ⟨hlabel, hlow, hexhausted⟩ := messages_complete (q := q) (ref := ref) (c := c) hsetup hjoined hsl s.link.nextId
  obtain ⟨hoffered, hfalloc, hfhall, hfbags, hfquotes, hfsetup, hfweighing, hfgauge, hftariff, hdframe⟩ :=
    completed_parts q ref k c s
  have hquotes := quotes_completed (q := q) (ref := ref) (c := c) hclear hsetup hjoined hsl
  rw [hletter] at hquotes
  obtain ⟨hwaiting, hcounter, hcount, hgone⟩ :=
    quotes_completed_kept (q := q) (ref := ref) (c := c) hclear hsetup hq hjoined hsl
  let d : State := (s.leaving q).serialDrawn k c
  have hdrows : d.bags = s.bags := by rw [show d = _ from hdframe]
  have hdhall : d.hall = s.hall := by rw [show d = _ from hdframe]
  have hdsetup : d.setup = s.setup := by rw [show d = _ from hdframe]
  have hdrow : ∀ r, d.row r = s.row r := fun r => by rw [State.row, State.row, hdrows]
  obtain ⟨hassigned, hstands⟩ := row_assignBag (s := d) (hdsetup.trans hsetup)
    (by rw [RowsInRange, hdrows]; exact hrows) hroute q.result.wa
  rw [hdrow, assign_eq] at hassigned
  have hbag : ((d.assignBag q.result.route q.result.wa).row q.result.route).seq = bag := by rw [hassigned]
  have hta : t.alloc = f.alloc := by rw [ht]
  have htq : t.quotes = f.quotes := by rw [ht]
  have htt : t.tariff = f.tariff := by rw [ht]
  have hth : t.hall = f.hall := by rw [ht]
  have htb : t.bags = (d.assignBag q.result.route q.result.wa).bags := by rw [ht]; exact hfbags
  have htrow : ∀ r, t.row r = (d.assignBag q.result.route q.result.wa).row r := fun r => by rw [State.row, State.row, htb]
  have htqueue : ((d.parcelEntered q c).hall.queue).Sublist t.hall.queue := by
    rw [hth, hfhall]
    exact hoffered.queue
  have httariff : t.tariff = (s.dropRef q.result.bank).tariff := htt.trans hftariff
  have hbank : ∀ id, t.bank id = (s.dropRef q.result.bank).bank id := fun id => by
    cases id with
    | a => exact congrArg (fun v => v.bankA) httariff
    | b => exact congrArg (fun v => v.bankB) httariff
  have halloc : t.alloc = { s.alloc with slots := t.alloc.slots } := by
    rw [hta, hfalloc, hoffered.parts]
    show ({ d.alloc with slots := _ } : Allocator) = _
    rw [show d = _ from hdframe]
  refine ⟨t, hexec, ⟨y, ?_, ?_, ?_, fun b hb => ?_, fun b hneed hsearch => ?_, fun hnot => ?_, fun hlast => ?_, ?_,
    fun x hx hlast hnot => ?_, fun hex hnot => ⟨?_, fun m o r hm hpending ho hr ho' => ?_⟩⟩, fun j hj => ?_, ?_, fun r hr => ?_,
    ?_, ?_, ?_, ?_, ?_, ?_, ?_, ?_, ?_, ?_, ?_, ?_, ?_, ?_, ?_, ?_, ?_, ?_, ?_, ?_, ?_⟩
  · rw [hta]
    exact hy
  · rw [hyz]
    exact hzcurrent
  · rw [hyz]
    exact hzsought.reserve.trans hireserve
  · have hissued : (sl.issued c).marked b = true := by
      rw [Slot.marked, himarks, hifirst]
      exact hb
    rw [hyz]
    exact hzsought.marked b hissued
  · obtain ⟨hclaim, hmarks⟩ := hmade b hneed hsearch
    exact ⟨by rw [hyclaim, hclaim]; rfl, hymarks.trans hmarks⟩
  · obtain ⟨hclaim, hmarks⟩ := hnotMade hnot
    exact ⟨by rw [hyclaim, hclaim], hymarks.trans hmarks⟩
  · have hspent : c.block ∈ z.owedSpent := by
      rw [hzsought.rest]
      exact spent_issued c sl hlast
    have hyspent := hyspent c.block hspent
    rw [show (sl.drawn cfg.lowWater c).letter = q.result.letter from hzletter] at hyspent
    rw [hth]
    exact hyspent
  · rw [hysupply, supplyOf_enabled hzenabled, hzcurrent]
    simp only [hynone, hymarks]
  · have hsays := hlow x (hzcurrent.trans hx) ⟨hysupply.symm.trans hlast, fun h => hnot (hzsupply.symm.trans h)⟩
    rw [hzletter'] at hsays
    exact hsays
  · have hsays := (hexhausted ⟨hysupply.symm.trans hex, fun h => hnot (hzsupply.symm.trans h)⟩).1
    rw [hzletter'] at hsays
    exact hsays
  · have hleaves : m ≠ q.number := fun h => hm (h.trans hnumber)
    have hquote : (s.leaving q).quote? m = some o := (quote?_leaving hleaves s).trans ho
    have hpendingOf : m ∈ (s.leaving q).pendingOf q.result.letter := by
      refine List.mem_filter.mpr ⟨(List.mem_erase_of_ne hleaves).mpr hpending, decide_eq_true ?_⟩
      rw [hquote, Option.map_some, ho']
    have hsays := (hexhausted ⟨hysupply.symm.trans hex, fun h => hnot (hzsupply.symm.trans h)⟩).2
    rw [hzletter'] at hsays
    have htable : t.quotes = ((s.leaving q).turnedBack .noNumbers ((s.leaving q).pendingOf q.result.letter)).quotes := by
      rw [htq]
      exact hquotes.trans (if_pos ⟨hysupply.symm.trans hex, hnot⟩)
    obtain ⟨hopened, hleft⟩ := turnedBack_member .noNumbers hpendingOf hquote hr
    refine ⟨?_, fun hnodup => ?_, hsays m hpendingOf o r hquote hr⟩
    · rw [State.quote?, htable]
      exact hopened
    · rw [htable]
      exact hleft (hnodup.erase _)
  · rw [hta]
    exact hothers j hj
  · rw [htrow]
    exact hassigned
  · rw [htrow, hstands r hr, hdrow]
  · refine ⟨_, htqueue.subset ((mem_insertFrame _ _ _).mpr (.inl rfl)), ?_⟩
    show ({ station := d.hall.station, group := (d.setup.map (·.group)).getD 0, body := _ } : Frame) = _
    rw [hdhall, hdsetup, hsetup, hbag]
    rfl
  · rw [labelOf_parcelled hclear hsetup, hbag] at hlabel
    exact hlabel
  · show ((ownFirst _ _).foldl Link.accept _).outstanding = _
    rw [(foldl_accept_outstanding _ _).1, linkKept_complete q ref k c s]
  · intro hnodup
    rw [htq]
    exact hgone hnodup
  · rw [htq]
    exact hcount
  · rw [htq]
    show (s.completed q ref k c).quotes = _
    rw [hquotes, hta, hy, Option.map_some, hysupply]
    simp only [Option.some.injEq]
    rw [State.leaving, hnumber]
  · rw [hbank, dropRef_eq, bank_setBank_self]
    rfl
  · rw [hbank, dropRef_eq, bank_setBank_other]
  · rw [httariff, dropRef_eq]
    cases q.result.bank <;> rfl
  · rw [httariff, dropRef_eq]
    cases q.result.bank <;> rfl
  · rw [hth, hfhall, hoffered.parts]
    show ({ d.hall with queue := _ } : Hall) = _
    rw [hdhall]
  · refine List.Sublist.trans ?_ htqueue
    show s.hall.queue.Sublist (insertFrame d.hall.queue _)
    rw [hdhall]
    exact sublist_insertFrame _ _
  · rw [htq]
    exact hwaiting
  · rw [htq]
    exact hcounter
  · rw [htb]
    show d.bags.lateCount = _
    rw [hdrows]
  · rw [ht]
    exact hfweighing
  · rw [ht]
    exact hfgauge
  · rw [ht]
    exact hfsetup
  · rw [halloc]
  · rw [halloc]
  · rw [halloc]

end Sys2Proof.Machine
end

section
/-! COMMIT (R93 to R96, R179): the order of the reply among an event's messages, the acceptance, and the serving it calls for. -/

namespace Sys2Proof.Machine

/-! ### The own reply's place -/

theorem answers_iff {own : Nat} {m : OutMsg} : m.answers own = true ↔ ∃ tag body, m = .reply (some own) tag body := by
  cases m with
  | notice => simp [OutMsg.answers]
  | reply request tag body => simp [OutMsg.answers]

/-- The first own reply moves in front of the notices before it, and of the replies after the first of these (R179). -/
theorem ownFirst_append {own : Nat} {before : List OutMsg} (hbefore : ∀ m ∈ before, m.answers own = false) {m : OutMsg}
    (hm : m.answers own = true) (rest : List OutMsg) :
    ownFirst own (before ++ m :: rest) =
      before.takeWhile OutMsg.isReply ++ m :: (before.dropWhile OutMsg.isReply ++ rest) := by
  have hall : ∀ x ∈ before, (!x.answers own) = true := fun x hx => by rw [hbefore x hx]; rfl
  have htake : (before ++ m :: rest).takeWhile (fun x => !x.answers own) = before := by
    rw [List.takeWhile_append_of_pos hall, List.takeWhile_cons_of_neg (by simp [hm]), List.append_nil]
  have hdrop : (before ++ m :: rest).dropWhile (fun x => !x.answers own) = m :: rest := by
    rw [List.dropWhile_append_of_pos hall, List.dropWhile_cons_of_neg (by simp [hm])]
  simp only [ownFirst, htake, hdrop]

/-- Notices before the own reply all come after it (R179). -/
theorem ownFirst_notices {own : Nat} {before : List OutMsg} (hbefore : ∀ m ∈ before, m.isReply = false) {m : OutMsg}
    (hm : m.answers own = true) : ownFirst own (before ++ [m]) = m :: before := by
  have hforeign : ∀ x ∈ before, x.answers own = false := fun x hx => by
    cases x with
    | notice => rfl
    | reply => exact absurd (hbefore _ hx) Bool.noConfusion
  have hnot : ∀ x ∈ before, ¬ x.isReply = true := fun x hx => by rw [hbefore x hx]; exact Bool.noConfusion
  have htake : before.takeWhile OutMsg.isReply = [] := by
    cases before with
    | nil => rfl
    | cons x l => exact List.takeWhile_cons_of_neg (hnot x List.mem_cons_self)
  have hdrop : before.dropWhile OutMsg.isReply = before := by
    have hsplit := List.takeWhile_append_dropWhile (p := OutMsg.isReply) (l := before)
    rwa [htake, List.nil_append] at hsplit
  rw [ownFirst_append hforeign hm, htake, hdrop, List.append_nil, List.nil_append]

/-! ### The acceptance -/

/-- A COMMIT has been taken and its quote waits at the end of the pending order (R94). -/
def State.awaiting (tag n : Nat) (s : State) : State :=
  { s.taken tag 15 with
    quotes := { s.quotes with
      records := s.quotes.records.map fun x => if x.number = n then { x with state := .committing (s.nextRef tag) } else x
      pendingOrder := s.quotes.pendingOrder ++ [n] } }

/-- No number of the pending order can complete (R96). -/
def State.Stuck (s : State) : Prop :=
  ∀ n ∈ s.quotes.pendingOrder, ∀ q ref, s.quote? n = some q → q.state = .committing ref → s.completable q = none

theorem serve_of_stuck {s : State} (h : s.Stuck) : s.serve = s := by
  have hfold : ∀ ns : List Nat, (∀ n ∈ ns, s.judgeEntry n = s) → ns.foldl State.judgeEntry s = s := by
    intro ns
    induction ns with
    | nil => exact fun _ => rfl
    | cons n ns ih =>
      intro hall
      rw [List.foldl_cons, hall n List.mem_cons_self]
      exact ih fun m hm => hall m (List.mem_cons_of_mem n hm)
  exact hfold _ fun n hn => judgeEntry_not (h n hn)

section

variable {tag n : Nat} {s : State}

/-- The COMMIT's quote as it waits. -/
theorem quote?_awaiting {q : Quote} (hq : s.quote? n = some q) :
    (s.awaiting tag n).quote? n = some { q with state := .committing (s.nextRef tag) } := by
  have hmapped : (s.awaiting tag n).quote? n =
      (s.quote? n).map fun x => if x.number = n then { x with state := .committing (s.nextRef tag) } else x :=
    find?_number_map (fun _ => by split <;> rfl) n s.quotes.records
  rw [hmapped, hq, Option.map_some, if_pos (quote?_spec hq).2]

variable (h : Accepts 15 s)
include h

/-- An accepted COMMIT: its quote waits, and the pending order is served (R94, R95). -/
theorem exec_commit {q : Quote} (hlow : 1 ≤ n) (hhigh : n ≤ 65535) (hq : s.quote? n = some q) (hopened : q.state = .opened)
    (hmuted : s.hall.state ≠ .muted)
    (hsupply : ((s.slotOf q.result.letter).bind fun k => (s.alloc.slots[k]?).map (·.supply)) ≠ some .exhausted) :
    exec (.commit tag n) s = .next (((s.awaiting tag n).dueServe.serve).flush s.link.nextId) := by
  have hq' : (s.taken tag 15).quote? n = some q := hq
  have howner : (s.taken tag 15).handRequest (s.nextRef tag) (.commit n) = (s.awaiting tag n).dueServe := by
    have hwithin : (s.taken tag 15).handRequest (s.nextRef tag) (.commit n) = (s.taken tag 15).takeCommit (s.nextRef tag) n :=
      if_pos (within_iff.mpr ⟨hlow, hhigh⟩)
    rw [hwithin, State.takeCommit, hq']
    have hopened' : ¬ q.state ≠ .opened := not_not.mpr hopened
    have hmuted' : ¬ (s.taken tag 15).hall.state = .muted := hmuted
    have hsupply' : ¬ (((s.taken tag 15).slotOf q.result.letter).bind fun k =>
      ((s.taken tag 15).alloc.slots[k]?).map (·.supply)) = some .exhausted := hsupply
    simp only [if_neg hopened', if_neg hmuted', if_neg hsupply']
    rfl
  have hoffer : (s.awaiting tag n).dueServe.scratch.offerDue = false := congrArg Scratch.offerDue h.1
  rw [exec_accepted (.commit tag n) (kind := 15) ⟨rfl, rfl⟩ h, howner, State.finish, State.settleRoom, State.offerIfDue, hoffer]
  rfl

/-- A COMMIT whose owner refuses it (R93). -/
theorem exec_commit_refused (hlow : 1 ≤ n) (hhigh : n ≤ 65535) {reason : Reason}
    (hrefused : (s.taken tag 15).takeCommit (s.nextRef tag) n = (s.taken tag 15).refuse (s.nextRef tag) reason) :
    exec (.commit tag n) s = .next (s.answered tag 15 (.refused reason none)) :=
  exec_refused (.commit tag n) ⟨rfl, rfl⟩ h ((if_pos (within_iff.mpr ⟨hlow, hhigh⟩)).trans hrefused)

/-- No pending COMMIT can complete: the event leaves this one waiting (R94). -/
theorem flush_serve_of_stuck (hstuck : (s.awaiting tag n).Stuck) (own : Nat) :
    ((s.awaiting tag n).dueServe.serve).flush own = s.awaiting tag n := by
  have hserve : (s.awaiting tag n).dueServe.serve = (s.awaiting tag n).dueServe := serve_of_stuck hstuck
  have hproduced : (s.awaiting tag n).dueServe.scratch.produced = [] := congrArg Scratch.produced h.1
  have hclear : (s.awaiting tag n).scratch = .clear := h.1
  rw [hserve, State.flush, hproduced, ← hclear]
  rfl

/-- The serving within the event and the serving by COMMIT_COMPLETIONs produce the same messages, which differ in the place of the
own reply alone (R95, R96, R179). -/
theorem flush_serve (hrequests : RequestsEarlier s) (own : Nat) :
    let u := (s.awaiting tag n).served
    ∃ msgs : List OutMsg,
      u.link = { msgs.foldl Link.accept (s.awaiting tag n).link with noticeSeq := u.link.noticeSeq }
      ∧ ((s.awaiting tag n).dueServe.serve).flush own =
        { u with
          link := { (ownFirst own msgs).foldl Link.accept (s.awaiting tag n).link with noticeSeq := u.link.noticeSeq } } := by
  intro u
  have hclear : (s.awaiting tag n).scratch = .clear := h.1
  let v : State := (s.awaiting tag n).dueServe
  have htelling : v.Telling True := by
    refine ⟨fun m hm => ?_, fun _ q hq ref hstate => ?_, fun hnot => absurd trivial hnot⟩
    · have hproduced : v.scratch.produced = [] := congrArg Scratch.produced hclear
      rw [hproduced] at hm
      cases hm
    · obtain ⟨x, hx, rfl⟩ := List.mem_map.mp hq
      show ref.id < s.link.nextId + 1
      split at hstate
      · cases hstate
        exact Nat.lt_succ_self _
      · exact Nat.lt_succ_of_lt (hrequests.2 x hx ref hstate)
  have hv : v.carried = s.awaiting tag n := carried_of_clear (s := s.awaiting tag n) hclear ▸ rfl
  obtain ⟨-, hserved, -⟩ := htelling.serve
  rw [hv] at hserved
  have hlink : v.serve.link = { (s.awaiting tag n).link with noticeSeq := v.serve.link.noticeSeq } := linkKept_serve v
  have hseq : u.link.noticeSeq = v.serve.link.noticeSeq := by
    rw [show u = _ from hserved.symm, carried_noticeSeq]
  have hentered : ∀ msgs : List OutMsg, msgs.foldl Link.accept v.serve.link =
      { msgs.foldl Link.accept (s.awaiting tag n).link with noticeSeq := u.link.noticeSeq } := fun msgs => by
    rw [hlink, foldl_accept_noticeSeq, hseq]
  refine ⟨v.serve.scratch.produced, (hentered _).symm ▸ congrArg State.link hserved.symm, ?_⟩
  rw [← hentered, show u = _ from hserved.symm]
  rfl

/-- The COMMIT completes within its event, as COMMIT_COMPLETION does, and the LABEL comes first (R95, R96, R179). -/
theorem flush_serve_completes {q : Quote} {k : Nat} {x : Slot} {c : CurrentBlock} (hpending : s.quotes.pendingOrder = [])
    (hq : s.quote? n = some q) (hjoined : s.hall.state = .joined) (hroom : s.hall.queue.length < 12)
    (hslot : s.slotOf q.result.letter = some k) (hx : s.alloc.slots[k]? = some x) (hcurrent : x.current = some c)
    (hnext : c.next < 1000) :
    let t := ((s.awaiting tag n).dueServe.serve).flush s.link.nextId
    ∃ u m, exec (.commitCompletion n) (s.awaiting tag n) = .next u ∧ t = { u with link := t.link }
      ∧ s.link.output ++ [m] <+: t.link.output ∧ ∃ label, m.msg = .reply (some s.link.nextId) tag (.label label) := by
  intro t
  have hclear : (s.awaiting tag n).scratch = .clear := h.1
  let v : State := (s.awaiting tag n).dueServe
  let p : Quote := { q with state := .committing (s.nextRef tag) }
  have hp : (s.awaiting tag n).quote? n = some p := quote?_awaiting hq
  have horder : (s.awaiting tag n).quotes.pendingOrder = [n] := by
    show s.quotes.pendingOrder ++ [n] = _
    rw [hpending]
    rfl
  have hserve : v.serve = v.complete p (s.nextRef tag) k c := by
    have hjudged : v.judgeEntry n = v.complete p (s.nextRef tag) k c :=
      judgeEntry_complete (s := v) hp rfl (completable_eq (s := v) (q := p) hjoined hroom hslot hx hcurrent hnext)
    rw [← hjudged, State.serve, show v.quotes.pendingOrder = [n] from horder]
    rfl
  have hv : v.carried = s.awaiting tag n := carried_of_clear (s := s.awaiting tag n) hclear ▸ rfl
  have hcarried : v.serve.carried = (s.awaiting tag n).completed p (s.nextRef tag) k c := by rw [hserve, carried_complete, hv]
  obtain ⟨u, hu, hproduced, hmessages⟩ := produced_complete (q := p) (s := v) hx hjoined (s.nextRef tag) c
  have hnotices : ∀ m ∈ (u.reviewSupply k).scratch.produced, m.isReply = false := by
    refine notices_reviewSupply ?_ ?_ k
    · have hleft : (v.leaving p).quotes.pendingOrder = [] := by
        show (s.awaiting tag n).quotes.pendingOrder.erase q.number = []
        rw [horder, (quote?_spec hq).2]
        simp
      rw [hu]
      exact hleft
    · rw [hproduced, show v.scratch.produced = [] from congrArg Scratch.produced hclear]
      exact fun m hm => absurd hm List.not_mem_nil
  let label : OutMsg := .reply (some s.link.nextId) tag (.label ((v.parcelled p k c).labelOf p c))
  have hfirst : ownFirst s.link.nextId v.serve.scratch.produced = label :: (u.reviewSupply k).scratch.produced := by
    rw [hserve, hmessages]
    exact ownFirst_notices hnotices (answers_iff.mpr ⟨tag, _, rfl⟩)
  refine ⟨((s.awaiting tag n).complete p (s.nextRef tag) k c).flush (s.awaiting tag n).link.nextId, OutEntry.of label,
    exec_commitCompletion hclear hp rfl hjoined hroom hslot hx hcurrent hnext, ?_, ?_, _, rfl⟩
  · rw [flush_complete hclear, ← hcarried]
    rfl
  · have houtput : v.serve.link.output = s.link.output := by rw [linkKept_serve v]; rfl
    have hlink : t.link = (u.reviewSupply k).scratch.produced.foldl Link.accept (v.serve.link.accept label) := by
      show (ownFirst _ v.serve.scratch.produced).foldl Link.accept v.serve.link = _
      rw [hfirst]
      rfl
    rw [hlink, ← houtput]
    exact prefix_foldl_accept _ (v.serve.link.accept label)

end

/-- COMMIT's four tests in their order (R93). -/
theorem takeCommit_refused {s : State} {r : RequestRef} {n : Nat} {q : Quote} (hq : s.quote? n = some q) :
    let exhausted := ((s.slotOf q.result.letter).bind fun k => (s.alloc.slots[k]?).map (·.supply)) = some .exhausted
    (q.state ≠ .opened → s.takeCommit r n = s.refuse r .already)
      ∧ (q.state = .opened → s.hall.state = .muted → s.takeCommit r n = s.refuse r .muted)
      ∧ (q.state = .opened → s.hall.state ≠ .muted → exhausted → s.takeCommit r n = s.refuse r .noNumbers) := by
  intro exhausted
  simp only [State.takeCommit, hq]
  refine ⟨fun hstate => if_pos hstate, fun hstate hmuted => ?_, fun hstate hmuted hexhausted => ?_⟩
  · rw [if_neg (not_not.mpr hstate), if_pos hmuted]
  · rw [if_neg (not_not.mpr hstate), if_neg hmuted, if_pos hexhausted]

/-- A COMMIT that cannot complete at once, by one of the conditions of R96. -/
theorem stuck_awaiting {tag n : Nat} {q : Quote} {s : State} (hq : s.quote? n = some q)
    (h : s.hall.state ≠ .joined ∨ 12 ≤ s.hall.queue.length
      ∨ (s.quotes.pendingOrder = [] ∧
          ((s.slotOf q.result.letter).bind fun k => (s.alloc.slots[k]?).bind (·.current)) = none)) :
    (s.awaiting tag n).Stuck := by
  intro m hm p ref hp _
  by_cases hroom : s.hall.state = .joined ∧ s.hall.queue.length < 12
  · rcases h with h | h | ⟨hpending, hcurrent⟩
    · exact absurd hroom.1 h
    · exact absurd hroom.2 (Nat.not_lt.mpr h)
    · have hmn : m = n := by
        have hm' : m ∈ s.quotes.pendingOrder ++ [n] := hm
        rw [hpending] at hm'
        exact List.mem_singleton.mp hm'
      subst hmn
      obtain rfl : p = { q with state := .committing (s.nextRef tag) } := Option.some.inj (hp.symm.trans (quote?_awaiting hq))
      have hadmits : admits s.hall.queue .normal = true := decide_eq_true hroom.2
      show (if s.hall.state = .joined ∧ admits s.hall.queue .normal = true then _ else _) = _
      rw [if_pos ⟨hroom.1, hadmits⟩]
      cases hslot : s.slotOf q.result.letter with
      | none =>
        have hslot' : (s.awaiting tag m).slotOf q.result.letter = none := hslot
        simp only [hslot']
      | some k =>
        have hslot' : (s.awaiting tag m).slotOf q.result.letter = some k := hslot
        have hnone : (((s.awaiting tag m).alloc.slots[k]?).bind fun x => x.current) = none := by
          rw [hslot] at hcurrent
          exact hcurrent
        simp only [hslot', hnone]
  · refine if_neg fun hboth => hroom ⟨hboth.1, of_decide_eq_true hboth.2⟩

/-- Settles O37: `ownFirst_append`, the tests of COMMIT by `takeCommit_refused`, its acceptance by `exec_commit` and the three
lemmas on the serving it calls for. -/
theorem commitJoinsThePendingOrder : Obligations.CommitJoinsThePendingOrder := by
  refine ⟨?_, fun tag n s h hlow hhigh => ⟨fun hnone => ?_, ?_⟩⟩
  · intro own before mine hbefore
    have hforeign : ∀ m ∈ before, m.answers own = false := fun m hm =>
      Bool.eq_false_iff.mpr fun hanswers => hbefore m hm (answers_iff.mp hanswers)
    exact ⟨ownFirst_foreign own before hforeign, fun m rest hm => ownFirst_append hforeign (answers_iff.mpr hm) rest⟩
  · have hnone' : (s.taken tag 15).quote? n = none := hnone
    refine exec_commit_refused h hlow hhigh ?_
    rw [State.takeCommit, hnone']
  · intro q hq exhausted
    obtain ⟨hnotOpen, hmutedRefused, hexhaustedRefused⟩ := takeCommit_refused (s := s.taken tag 15) (r := s.nextRef tag) hq
    refine ⟨fun hstate => exec_commit_refused h hlow hhigh (hnotOpen hstate),
      fun hstate hmuted => exec_commit_refused h hlow hhigh (hmutedRefused hstate hmuted),
      fun hstate hmuted hexhausted => exec_commit_refused h hlow hhigh (hexhaustedRefused hstate hmuted hexhausted),
      fun hstate hmuted hexhausted hstuck => ?_, ?_, ?_⟩
    · rw [exec_commit h hlow hhigh hq hstate hmuted hexhausted, flush_serve_of_stuck h (stuck_awaiting hq hstuck)]
      rfl
    · intro hstate hexhausted hjoined hroom hpending c hc hnext waiting
      have hmuted : s.hall.state ≠ .muted := by rw [hjoined]; exact StationState.noConfusion
      have hwaiting : waiting = s.awaiting tag n := by rw [State.awaiting, hpending]; rfl
      obtain ⟨k, hslot, hblock⟩ := Option.bind_eq_some_iff.mp hc
      obtain ⟨x, hx, hcurrent⟩ := Option.bind_eq_some_iff.mp hblock
      obtain ⟨u, m, hu, ht, houtput, hlabel⟩ :=
        flush_serve_completes (tag := tag) h hpending hq hjoined hroom hslot hx hcurrent hnext
      exact ⟨_, u, m, exec_commit h hlow hhigh hq hstate hmuted hexhausted, by rw [hwaiting]; exact hu, ht, houtput, hlabel⟩
    · intro hstate hmuted hexhausted hrequests waiting u
      obtain ⟨msgs, hlink, hflush⟩ := flush_serve (tag := tag) (n := n) h hrequests s.link.nextId
      exact ⟨msgs, hlink, by rw [exec_commit h hlow hhigh hq hstate hmuted hexhausted, hflush]; rfl⟩

end Sys2Proof.Machine
end

section
/-! The bounds that every step keeps (log 7, R137, R156, R177, R180): what an operation may do to the fields they stand in, and the
operations that do touch these fields. -/

namespace Sys2Proof.Machine

/-- From `s` to `t` each of the four bounds is kept: on the outstanding list, on the requests still to be answered, on the transmit
queue and on the route rows. -/
structure BoundsKept (s t : State) : Prop where
  outstanding : OutstandingBounded s → OutstandingBounded t
  earlier : RequestsEarlier s → RequestsEarlier t
  queue : QueueOrdered s → QueueOrdered t
  rows : RowsInRange s → RowsInRange t

/-- The outstanding list, the number of the next request, the transmit queue and the route rows. -/
def State.boundFields (s : State) : List Outstanding × Nat × List QueuedFrame × List Row :=
  (s.link.outstanding, s.link.nextId, s.hall.queue, s.bags.rows)

namespace BoundsKept

variable {s t : State}

theorem refl (s : State) : BoundsKept s s := ⟨id, id, id, id⟩

/-- One operation after another. -/
theorem trans {u : State} (h : BoundsKept s t) (h' : BoundsKept t u) : BoundsKept s u :=
  ⟨fun hs => h'.outstanding (h.outstanding hs), fun hs => h'.earlier (h.earlier hs), fun hs => h'.queue (h.queue hs),
    fun hs => h'.rows (h.rows hs)⟩

/-- An operation that changes the quotes, but names no request that waits as a new one. -/
theorem requote (h : BoundsKept s t) {u : State} (hfields : u.boundFields = t.boundFields)
    (hwaiting : ∀ w, u.quotes.waiting = some w → ∃ v, t.quotes.waiting = some v ∧ v.ref = w.ref)
    (hrecords : ∀ q ∈ u.quotes.records, ∀ ref, q.state = .committing ref →
      ∃ p ∈ t.quotes.records, p.state = .committing ref) : BoundsKept s u := by
  obtain ⟨houtstanding, hnext, hqueue, hrows⟩ : u.link.outstanding = t.link.outstanding ∧ u.link.nextId = t.link.nextId
      ∧ u.hall.queue = t.hall.queue ∧ u.bags.rows = t.bags.rows := by
    simpa only [State.boundFields, Prod.mk.injEq] using hfields
  refine h.trans ⟨fun ht => ?_, fun ht => ⟨fun w hw => ?_, fun q hq ref hstate => ?_⟩, fun ht => ?_, fun ht => ?_⟩
  · rwa [OutstandingBounded, houtstanding]
  · obtain ⟨v, hv, href⟩ := hwaiting w hw
    rw [hnext, ← href]
    exact ht.1 v hv
  · obtain ⟨p, hp, hp'⟩ := hrecords q hq ref hstate
    rw [hnext]
    exact ht.2 p hp ref hp'
  · rwa [QueueOrdered, hqueue]
  · rwa [RowsInRange, hrows]

/-- An operation on fields that no bound stands in. -/
theorem beside (h : BoundsKept s t) {u : State} (hfields : u.boundFields = t.boundFields) (hquotes : u.quotes = t.quotes) :
    BoundsKept s u :=
  h.requote hfields (fun w hw => ⟨w, hquotes ▸ hw, rfl⟩) fun q hq _ hstate => ⟨q, hquotes ▸ hq, hstate⟩

/-- A chain of operations keeps what each of them keeps. -/
theorem foldl {α : Type} {f : State → α → State} (h : BoundsKept s t) (hf : ∀ u x, BoundsKept s u → BoundsKept s (f u x))
    (l : List α) : BoundsKept s (l.foldl f t) := by
  induction l generalizing t with
  | nil => exact h
  | cons x l ih => exact ih (hf t x h)

/-- Either branch of a condition. -/
theorem ite {u : State} {c : Prop} [Decidable c] (ht : BoundsKept s t) (hu : BoundsKept s u) :
    BoundsKept s (if c then t else u) := by
  split
  · exact ht
  · exact hu

/-! ### Fields that no bound stands in -/

theorem modifySlot (h : BoundsKept s t) (k : Nat) (f : Slot → Slot) : BoundsKept s (t.modifySlot k f) := h.beside rfl rfl

/-- The hall line controller, but for its queue. -/
theorem onHall (h : BoundsKept s t) (f : Hall → Hall) (hf : ∀ x, (f x).queue = x.queue := by exact fun _ => rfl) : BoundsKept s (t.onHall f) :=
  h.beside (by simp only [State.boundFields, State.onHall, hf]) rfl

theorem modifyPeer (h : BoundsKept s t) (n : Nat) (f : Peer → Peer) : BoundsKept s (t.modifyPeer n f) := h.beside rfl rfl

theorem modifyColumn (h : BoundsKept s t) (station k : Nat) (f : List Nat → List Nat) :
    BoundsKept s (t.modifyColumn station k f) :=
  h.beside rfl rfl

theorem setBank (h : BoundsKept s t) (id : BankId) (b : Bank) : BoundsKept s (t.setBank id b) := by
  cases id <;> exact h.beside rfl rfl

theorem onWeighing (h : BoundsKept s t) (f : Weighing → Weighing) : BoundsKept s (t.onWeighing f) := h.beside rfl rfl

/-- The counter link, but for the outstanding list and the number of the next request. -/
theorem onLink (h : BoundsKept s t) (f : Link → Link)
    (hf : (f t.link).outstanding = t.link.outstanding ∧ (f t.link).nextId = t.link.nextId := by exact ⟨rfl, rfl⟩) :
    BoundsKept s (t.onLink f) :=
  h.beside (by simp only [State.boundFields, State.onLink, hf]) rfl

theorem reply (h : BoundsKept s t) (r : RequestRef) (b : Reply) : BoundsKept s (t.reply r b) := h.beside rfl rfl

theorem done (h : BoundsKept s t) (r : RequestRef) (b : DoneBody) : BoundsKept s (t.done r b) := h.beside rfl rfl

theorem refuse (h : BoundsKept s t) (r : RequestRef) (reason : Reason) : BoundsKept s (t.refuse r reason) := h.beside rfl rfl

theorem notify (h : BoundsKept s t) (n : Notice) : BoundsKept s (t.notify n) := h.beside rfl rfl

theorem dueOffer (h : BoundsKept s t) : BoundsKept s t.dueOffer := h.beside rfl rfl

theorem dueServe (h : BoundsKept s t) : BoundsKept s t.dueServe := h.beside rfl rfl

/-- The messages of an event enter the output queue (R179). -/
theorem flush (h : BoundsKept s t) (own : Nat) : BoundsKept s (t.flush own) := by
  obtain ⟨houtstanding, -, -, hnext⟩ := foldl_accept_outstanding (ownFirst own t.scratch.produced) t.link
  exact h.beside (by simp only [State.boundFields, State.flush, houtstanding, hnext]) rfl

/-! ### The outstanding list (R177, R178, R180) -/

/-- A request that is not turned away joins. -/
theorem join (h : BoundsKept s t) {kind : Nat} (hroom : t.link.full kind = false) (tag : Nat) :
    BoundsKept s (t.onLink (Link.join tag kind)) := by
  refine h.trans ⟨fun ht => ?_, fun ht => ?_, id, id⟩
  · have hlength : (t.onLink (Link.join tag kind)).link.outstanding.length = t.link.outstanding.length + 1 :=
      List.length_append
    by_cases hshort : t.link.outstanding.length < Config.maxOutstanding
    · exact .inl (hlength ▸ hshort)
    · have hfull : decide (Config.maxOutstanding ≤ t.link.outstanding.length) = true := decide_eq_true (Nat.not_lt.mp hshort)
      rw [Link.full, hfull, Bool.true_and, Bool.not_eq_false', Bool.and_eq_true, beq_iff_eq] at hroom
      obtain ⟨hkind, hnone⟩ := hroom
      have height : t.link.outstanding.length ≤ Config.maxOutstanding := by
        rcases ht with ht | ⟨-, o, ho, hrestart⟩
        · exact ht
        · exact absurd hrestart (by simpa using List.all_eq_true.mp hnone o ho)
      refine .inr ⟨?_, { id := t.link.nextId, tag := tag, kind := kind }, List.mem_append_right _ (List.mem_singleton_self _), hkind⟩
      rw [hlength, Nat.le_antisymm height (Nat.not_lt.mp hshort)]
  · exact ⟨fun w hw => Nat.lt_succ_of_lt (ht.1 w hw), fun q hq ref hstate => Nat.lt_succ_of_lt (ht.2 q hq ref hstate)⟩

/-- The request of a transmitted reply leaves. -/
theorem completeMessage (h : BoundsKept s t) : BoundsKept s (t.onLink Link.completeMessage) := by
  have hfilter : ∀ (p : Outstanding → Bool) (l : List Outstanding),
      (l.length ≤ Config.maxOutstanding ∨ l.length = Config.maxOutstanding + 1 ∧ ∃ o ∈ l, o.kind = restartKind) →
      ((l.filter p).length ≤ Config.maxOutstanding
        ∨ (l.filter p).length = Config.maxOutstanding + 1 ∧ ∃ o ∈ l.filter p, o.kind = restartKind) := by
    intro p l hl
    by_cases hall : ∀ o ∈ l, p o = true
    · rwa [List.filter_eq_self.mpr hall]
    · obtain ⟨o, ho, hp⟩ := by simpa only [not_forall] using hall
      have hshorter : (l.filter p).length < l.length := List.length_filter_lt_length_iff_exists.mpr ⟨o, ho, hp⟩
      have hlength : l.length ≤ Config.maxOutstanding + 1 := hl.elim Nat.le_succ_of_le fun h => h.1.le
      exact .inl (Nat.le_of_lt_succ (hshorter.trans_le hlength))
  have hlink : (t.link.completeMessage.outstanding = t.link.outstanding
      ∨ ∃ p, t.link.completeMessage.outstanding = t.link.outstanding.filter p)
      ∧ t.link.completeMessage.nextId = t.link.nextId := by
    unfold Link.completeMessage
    split
    · exact ⟨.inr ⟨_, rfl⟩, rfl⟩
    · exact ⟨.inl rfl, rfl⟩
    · exact ⟨.inl rfl, rfl⟩
  obtain ⟨hlist, hnext⟩ := hlink
  refine h.trans ⟨fun ht => ?_, fun ht => ?_, id, id⟩
  · show _ ≤ _ ∨ _
    rcases hlist with hsame | ⟨p, hp⟩
    · exact hsame ▸ ht
    · exact hp ▸ hfilter p _ ht
  · rw [RequestsEarlier, ← hnext] at ht
    exact ht

/-! ### The transmit queue (R156, R158) -/

/-- A frame of an admitted class enters. -/
theorem enqueue (h : BoundsKept s t) {c : FrameClass} (hadmits : admits t.hall.queue c = true) (body : FrameBody) :
    BoundsKept s (t.enqueue body) := by
  refine h.trans ⟨id, id, fun ht => ⟨?_, pairwise_insertFrame _ _ ht.2⟩, id⟩
  exact (length_insertFrame _ _).trans_le (length_of_admits hadmits)

/-- Frames leave, or get their check. -/
theorem requeue (h : BoundsKept s t) {u : State} (hlink : u.link = t.link) (hquotes : u.quotes = t.quotes) (hbags : u.bags = t.bags)
    (hqueue : (u.hall.queue.map fun q => q.frame.frameClass.rank).Sublist (t.hall.queue.map fun q => q.frame.frameClass.rank)) :
    BoundsKept s u := by
  refine h.trans ⟨fun ht => ?_, fun ht => ?_, fun ht => ⟨?_, ht.2.sublist hqueue⟩, fun ht => ?_⟩
  · rwa [OutstandingBounded, hlink]
  · rwa [RequestsEarlier, hlink, hquotes]
  · have hlength := hqueue.length_le
    rw [List.length_map, List.length_map] at hlength
    exact hlength.trans ht.1
  · rwa [RowsInRange, hbags]

theorem withdraw (h : BoundsKept s t) (body : FrameBody) : BoundsKept s (t.withdraw body) :=
  .ite (h.requeue rfl rfl rfl ((List.eraseP_sublist).map _)) h

/-! ### The route rows (R137) -/

theorem modifyRow (h : BoundsKept s t) (r : Nat) {f : Row → Row} (hf : ∀ x : Row, x.inRange → (f x).inRange) :
    BoundsKept s (t.modifyRow r f) := by
  refine h.trans ⟨id, id, id, fun ht => ⟨(List.length_modify _ _ _).trans ht.1, fun x hx => ?_⟩⟩
  obtain ⟨n, hn⟩ := List.getElem?_of_mem hx
  have hn' : (t.bags.rows.modify r f)[n]? = some x := hn
  rw [List.getElem?_modify, Option.map_eq_map, Option.map_eq_some_iff] at hn'
  obtain ⟨y, hy, hyx⟩ := hn'
  have hin := ht.2 y (List.mem_of_getElem? hy)
  rw [← hyx]
  split
  · exact hf y hin
  · exact hin

end BoundsKept

end Sys2Proof.Machine
end

section
/-! The bounds through the bag table, the quote table, the number allocator, the owed items and the hall line, in the order of the
definitions they speak of. -/

namespace Sys2Proof.Machine

/-! ### One route row (R137) -/

/-- The next bag's sequence lies in its range, whatever the bag (R137). -/
theorem nextBag_range (n : Nat) : 1 ≤ nextBag n ∧ nextBag n ≤ Config.maxBag := by
  have hmax : Config.maxBag = 9999 := rfl
  unfold nextBag
  split <;> omega

namespace Row.inRange

variable {r : Row}

theorem follow (h : r.inRange) (follow : Follow) (owed : Option Nat) : ({ r with follow := follow, owed := owed } : Row).inRange :=
  h

theorem openWith {seq : Nat} (hlow : 1 ≤ seq) (hhigh : seq ≤ Config.maxBag) (w : Nat) (r : Row) : (r.openWith seq w).inRange :=
  ⟨hlow, hhigh, Nat.min_le_right _ _, show 1 ≤ 255 by decide, fun hcount => absurd hcount Nat.one_ne_zero⟩

theorem openEmpty {seq : Nat} (hlow : 1 ≤ seq) (hhigh : seq ≤ Config.maxBag) (r : Row) : (r.openEmpty seq).inRange :=
  ⟨hlow, hhigh, Nat.zero_le _, Nat.zero_le _, fun _ => rfl⟩

theorem add (h : r.inRange) (w : Nat) : (r.add w).inRange := by
  obtain ⟨hlow, hhigh, -⟩ := h
  refine ⟨hlow, hhigh, Nat.min_le_right _ _, Nat.min_le_right _ _, fun hcount => ?_⟩
  have hcount' : min (r.count + 1) 255 = 0 := hcount
  omega

theorem assign (h : r.inRange) (weightLimit itemLimit wa : Nat) : (r.assign weightLimit itemLimit wa).inRange := by
  have ⟨hlow, hhigh, _⟩ := h
  obtain ⟨hnext, hnext'⟩ := nextBag_range r.seq
  refine follow (r := if r.count = 0 then _ else _) ?_ .followed _
  split_ifs
  · exact openWith hlow hhigh wa r
  · exact openWith hnext hnext' wa r
  · exact add h wa

end Row.inRange

namespace BoundsKept

variable {s t : State}

/-! ### The bag table -/

theorem assignBag (h : BoundsKept s t) (route wa : Nat) : BoundsKept s (t.assignBag route wa) :=
  h.modifyRow _ fun _ hx => hx.assign _ _ _

theorem postedAtBags (h : BoundsKept s t) (route bag w : Nat) : BoundsKept s (t.postedAtBags route bag w) := by
  unfold State.postedAtBags
  split
  · rename_i hrange
    obtain ⟨-, hlow, hhigh⟩ := of_decide_eq_true hrange
    cases (t.row route).follow with
    | fresh => exact h.modifyRow _ fun x _ => (Row.inRange.openWith hlow hhigh w x).follow _ _
    | followed =>
      cases judge bag (t.row route).seq with
      | equal => exact h.modifyRow _ fun _ hx => hx.add w
      | ahead => exact h.modifyRow _ fun x _ => Row.inRange.openWith hlow hhigh w x
      | behind => exact h.beside rfl rfl
  · exact h

theorem bagnextHeard (h : BoundsKept s t) (route bag : Nat) : BoundsKept s (t.bagnextHeard route bag) := by
  unfold State.bagnextHeard
  split
  · rename_i hrange
    obtain ⟨-, hlow, hhigh⟩ := of_decide_eq_true hrange
    cases (t.row route).follow with
    | fresh => exact h.modifyRow _ fun x _ => (Row.inRange.openEmpty hlow hhigh x).follow _ _
    | followed =>
      cases judge bag (t.row route).seq with
      | ahead => exact h.modifyRow _ fun x _ => Row.inRange.openEmpty hlow hhigh x
      | equal | behind => exact h
  · exact h

theorem bagClose (h : BoundsKept s t) (r : RequestRef) (route : Nat) : BoundsKept s (t.bagClose r route) := by
  obtain ⟨hlow, hhigh⟩ := nextBag_range (t.row route).seq
  have hclosed := (h.modifyRow route (f := fun x => (x.openEmpty (nextBag (t.row route).seq)).followed)
    fun x _ => (Row.inRange.openEmpty hlow hhigh x).follow _ _).done r (.bagClose route (nextBag (t.row route).seq))
  exact .ite (hclosed.modifyRow _ fun _ hx => hx.follow _ _).dueOffer hclosed

theorem muteBags (h : BoundsKept s t) : BoundsKept s t.muteBags := by
  refine h.trans ⟨id, id, id, fun ht => ⟨(List.length_map _).trans ht.1, fun x hx => ?_⟩⟩
  obtain ⟨y, hy, rfl⟩ := List.mem_map.mp hx
  exact (ht.2 y hy).follow _ _

/-! ### The quote table -/

/-- Quotes age, and a RATE waits longer (R86, R91). -/
theorem elapse (h : BoundsKept s t) (d : Nat) : BoundsKept s (t.elapse d) := by
  refine h.requote rfl (fun w hw => ?_) fun q hq ref hstate => ?_
  · obtain ⟨v, hv, rfl⟩ := Option.map_eq_some_iff.mp hw
    exact ⟨v, hv, rfl⟩
  · obtain ⟨p, hp, rfl⟩ := List.mem_map.mp hq
    refine ⟨p, hp, ?_⟩
    unfold Quote.elapse at hstate
    split at hstate <;> exact hstate

theorem clearWaiting (h : BoundsKept s t) : BoundsKept s t.clearWaiting :=
  h.requote rfl (fun _ hw => absurd hw (Option.some_ne_none _).symm) fun q hq _ hstate => ⟨q, hq, hstate⟩

/-- A quote is stored, OPEN (R89). -/
theorem storeOutcome (h : BoundsKept s t) (r : RequestRef) (outcome : Except Reason RateResult) :
    BoundsKept s (t.storeOutcome r outcome) := by
  unfold State.storeOutcome
  split
  · exact h.refuse _ _
  · split
    · exact h.refuse _ _
    · refine reply (setBank ?_ _ _) _ _
      refine h.requote rfl (fun w hw => ⟨w, hw, rfl⟩) fun q hq ref hstate => ?_
      rcases List.mem_append.mp hq with hq | hq
      · exact ⟨q, hq, hstate⟩
      · obtain rfl := List.mem_singleton.mp hq
        cases hstate

theorem releaseWaiting (h : BoundsKept s t) : BoundsKept s t.releaseWaiting := by
  unfold State.releaseWaiting
  split
  · exact h
  · exact h.clearWaiting.storeOutcome _ _

theorem refuseWaiting (h : BoundsKept s t) (scale : ScaleState) : BoundsKept s (t.refuseWaiting scale) := by
  unfold State.refuseWaiting
  split
  · exact h.clearWaiting.refuse _ _
  · exact h

theorem tellScale (h : BoundsKept s t) (scale : ScaleState) : BoundsKept s (t.tellScale scale) := by
  cases scale with
  | settled => exact h.releaseWaiting
  | empty | range | sensor => exact h.refuseWaiting _
  | noZero | moving => exact h

/-- A quote leaves (R101). -/
theorem leaving (h : BoundsKept s t) (q : Quote) : BoundsKept s (t.leaving q) :=
  h.requote rfl (fun w hw => ⟨w, hw, rfl⟩) fun p hp _ hstate => ⟨p, List.mem_of_mem_eraseP hp, hstate⟩

theorem dropRef (h : BoundsKept s t) (id : BankId) : BoundsKept s (t.dropRef id) := by
  rw [dropRef_eq]
  exact h.setBank _ _

theorem removeQuote (h : BoundsKept s t) (q : Quote) : BoundsKept s (t.removeQuote q) := (h.leaving q).dropRef _

theorem takeCancel (h : BoundsKept s t) (r : RequestRef) (n : Nat) : BoundsKept s (t.takeCancel r n) := by
  unfold State.takeCancel
  split
  · exact h.refuse _ _
  · split
    · exact (h.removeQuote _).done _ _
    · exact ((h.removeQuote _).refuse _ _).done _ _

/-- A COMMIT is refused, and its quote OPEN again (R99, R100). -/
theorem reopen (h : BoundsKept s t) (reason : Reason) (n : Nat) : BoundsKept s (t.reopen reason n) := by
  unfold State.reopen
  split
  · exact h
  · split
    · exact h
    · refine h.requote rfl (fun w hw => ⟨w, hw, rfl⟩) fun q hq ref hstate => ?_
      obtain ⟨p, hp, rfl⟩ := List.mem_map.mp hq
      split at hstate
      · cases hstate
      · exact ⟨p, hp, hstate⟩

theorem refuseNoNumbers (h : BoundsKept s t) (letter : Nat) : BoundsKept s (t.refuseNoNumbers letter) :=
  h.foldl (fun _ n hu => hu.reopen _ n) _

theorem refuseMuted (h : BoundsKept s t) : BoundsKept s t.refuseMuted :=
  h.foldl (fun _ n hu => hu.reopen _ n) _

/-- A RATE waits, whose request has just been taken (R86). -/
theorem takeRate (h : BoundsKept s t) {r : RequestRef} (hr : r.id < t.link.nextId) (body : RateBody) :
    BoundsKept s (t.takeRate r body) := by
  unfold State.takeRate
  split
  · exact h.refuse _ _
  · split
    · exact h.storeOutcome _ _
    · split
      case h_5 => exact h.storeOutcome _ _
      case h_6 =>
        split
        · refine h.trans ⟨id, fun ht => ⟨fun w hw => ?_, ht.2⟩, id, id⟩
          cases hw
          exact hr
        · exact h.refuse _ _
      all_goals exact h.refuse _ _

/-- A COMMIT waits, whose request has just been taken (R94). -/
theorem takeCommit (h : BoundsKept s t) {r : RequestRef} (hr : r.id < t.link.nextId) (n : Nat) :
    BoundsKept s (t.takeCommit r n) := by
  unfold State.takeCommit
  split
  · exact h.refuse _ _
  · split_ifs
    · exact h.refuse _ _
    · exact h.refuse _ _
    · exact h.refuse _ _
    · refine h.trans ⟨id, fun ht => ⟨ht.1, fun q hq ref hstate => ?_⟩, id, id⟩
      obtain ⟨p, hp, rfl⟩ := List.mem_map.mp hq
      split at hstate
      · cases hstate
        exact hr
      · exact ht.2 p hp ref hstate

/-! ### The number allocator -/

theorem reviewSupply (h : BoundsKept s t) (k : Nat) : BoundsKept s (t.reviewSupply k) := by
  unfold State.reviewSupply
  split
  · exact h
  · dsimp only
    split
    · split <;> exact h.beside rfl rfl
    · split
      · exact ((h.modifySlot _ _).notify _).refuseNoNumbers _
      · exact h.beside rfl rfl

theorem testNeed (h : BoundsKept s t) (k : Nat) : BoundsKept s (t.testNeed k) := by
  unfold State.testNeed
  split
  · exact h
  · split
    · split
      · exact h.reviewSupply k
      · exact (h.modifySlot _ _).dueOffer.reviewSupply k
    · exact h

theorem loseClaim (h : BoundsKept s t) (k block : Nat) : BoundsKept s (t.loseClaim k block) := by
  unfold State.loseClaim
  split
  · exact h
  · exact ((((BoundsKept.ite (h.withdraw _) h).withdraw _).modifySlot _ _).reviewSupply k).testNeed k

theorem oweHeld (h : BoundsKept s t) (k block : Nat) : BoundsKept s (t.oweHeld k block) := by
  unfold State.oweHeld
  split
  · exact h
  · exact .ite (h.beside rfl rfl) h

theorem winClaim (h : BoundsKept s t) (k block : Nat) : BoundsKept s (t.winClaim k block) := by
  unfold State.winClaim
  split
  · exact h
  · have hwon := fun f n => (((h.modifySlot k f).notify n).reviewSupply k).testNeed k
    exact .ite (hwon _ _).dueServe (hwon _ _)

theorem logConflict (h : BoundsKept s t) (r : ConflictRecord) : BoundsKept s (t.logConflict r) :=
  .ite (.ite (h.beside rfl rfl) (h.beside rfl rfl)) (h.beside rfl rfl)

theorem logTake (h : BoundsKept s t) (r : RequestRef) : BoundsKept s (t.logTake r) := by
  unfold State.logTake
  split <;> exact h.beside rfl rfl

theorem withdrawBlock (h : BoundsKept s t) (k block : Nat) : BoundsKept s (t.withdrawBlock k block) := by
  unfold State.withdrawBlock
  split
  · exact h
  · have hmoved : ∀ u : State, BoundsKept s u → BoundsKept s (((u.oweHeld k block).reviewSupply k).testNeed k) :=
      fun u hu => ((hu.oweHeld k block).reviewSupply k).testNeed k
    exact hmoved _ (.ite (.ite (h.beside rfl rfl) (h.beside rfl rfl)) (h.beside rfl rfl))

theorem issueSerial (h : BoundsKept s t) (k : Nat) (c : CurrentBlock) : BoundsKept s (t.issueSerial k c) :=
  .ite (((h.modifySlot _ _).testNeed k).reviewSupply k) (((h.modifySlot _ _).dueOffer.testNeed k).reviewSupply k)

theorem markHeard (h : BoundsKept s t) (k : Nat) (kind : FrameKind) (station : Nat) (serial : Option Nat) (block : Nat) :
    BoundsKept s (t.markHeard k kind station serial block) := by
  unfold State.markHeard
  split
  · exact h
  · exact .ite (.ite h (h.beside rfl rfl)) (.ite (h.logConflict _) h)

theorem marksHeard (h : BoundsKept s t) (k : Nat) (kind : FrameKind) (station : Nat) (serial : Option Nat)
    (blocks : List Nat) : BoundsKept s (t.marksHeard k kind station serial blocks) :=
  (h.foldl (fun _ b hu => hu.markHeard k kind station serial b) blocks).reviewSupply k

theorem loseIfClaimed (h : BoundsKept s t) (k : Nat) (blocks : List Nat) : BoundsKept s (t.loseIfClaimed k blocks) := by
  unfold State.loseIfClaimed
  split
  · exact h
  · split
    · exact h
    · exact .ite (h.loseClaim _ _) h

theorem claimHeard (h : BoundsKept s t) (station letter block : Nat) : BoundsKept s (t.claimHeard station letter block) := by
  unfold State.claimHeard
  split
  · exact h
  · rename_i k _
    have hmarked := h.marksHeard k .claim station none [block]
    refine modifyColumn ?_ _ _ _
    split
    · exact hmarked
    · exact .ite (hmarked.loseClaim _ _) (.ite (hmarked.oweHeld _ _) hmarked)

theorem heldHeard (h : BoundsKept s t) (station letter block : Nat) : BoundsKept s (t.heldHeard station letter block) := by
  unfold State.heldHeard
  split
  · exact h
  · rename_i k _
    have hmarked := (h.marksHeard k .held station none [block]).loseIfClaimed k [block]
    refine modifyColumn (foldl ?_ (fun _ _ hu => .ite hu (hu.modifyColumn _ _ _)) _) _ _ _
    split
    · exact hmarked
    · exact .ite ((hmarked.withdrawBlock _ _).logConflict _) hmarked

theorem spentHeard (h : BoundsKept s t) (station letter block : Nat) : BoundsKept s (t.spentHeard station letter block) := by
  unfold State.spentHeard
  split
  · exact h
  · exact ((h.marksHeard _ _ _ _ _).loseIfClaimed _ _).modifyColumn _ _ _

theorem holdsHeard (h : BoundsKept s t) (station letter : Nat) (blocks : List Nat) :
    BoundsKept s (t.holdsHeard station letter blocks) := by
  unfold State.holdsHeard
  split
  · exact h
  · exact ((h.marksHeard _ _ _ _ _).loseIfClaimed _ _).modifyColumn _ _ _

theorem postedHeard (h : BoundsKept s t) (station letter serial : Nat) :
    BoundsKept s (t.postedHeard station letter serial) := by
  have hchecked : ∀ (k : Nat) (u : State), BoundsKept s u → BoundsKept s (u.checkPosted k station letter serial) := fun k u hu => by
    unfold State.checkPosted
    dsimp only
    split
    · exact hu
    · exact .ite ((hu.logConflict _).withdrawBlock _ _) (.ite hu (hu.logConflict _))
  unfold State.postedHeard
  split
  · exact h
  · exact hchecked _ _ ((h.marksHeard _ _ _ _ _).loseIfClaimed _ _)

theorem mapLoad (h : BoundsKept s t) (r : RequestRef) (letter startBlock : Nat) (span : List Bool) :
    BoundsKept s (t.mapLoad r letter startBlock span) := by
  unfold State.mapLoad
  split
  · exact h.refuse _ _
  · split
    · exact h.refuse _ _
    · split
      case h_1 | h_2 => exact h.refuse _ _
      all_goals
        split
        · exact h
        · exact ((h.modifySlot _ _).done _ _).reviewSupply _

theorem muteNumbers (h : BoundsKept s t) : BoundsKept s t.muteNumbers := by
  refine foldl (h.beside ?_ ?_) (fun _ k hu => hu.reviewSupply k) _ <;> rfl

/-! ### Owed items -/

/-- An item that is admitted enters (R156, R157). -/
theorem offerItem (h : BoundsKept s t) (i : OwedItem) : BoundsKept s (t.offerItem i) := by
  unfold State.offerItem
  split
  · rename_i hadmits
    have hentered := h.enqueue hadmits (t.itemBody i)
    cases i with
    | bagnext r b => exact hentered.modifyRow _ fun _ hx => hx.follow _ _
    | held k b | claim k b | join | holds k | spent k b | cutover v => exact hentered.beside rfl rfl
  · exact h

theorem offerOwed (h : BoundsKept s t) : BoundsKept s t.offerOwed :=
  .ite (h.foldl (fun _ i hu => hu.offerItem i) _) h

theorem offerSlot (h : BoundsKept s t) (k : Nat) : BoundsKept s (t.offerSlot k) := by
  unfold State.offerSlot
  split
  · exact h
  · exact h.foldl (fun _ i hu => hu.offerItem i) _

/-! ### The hall line -/

/-- Muting empties the queue (R169). -/
theorem enterMuted (h : BoundsKept s t) (sender : Nat) (kind : Option FrameKind) :
    BoundsKept s (t.enterMuted sender kind) := by
  have hemptied : ∀ u : State, u.link = t.link → u.quotes = t.quotes → u.bags = t.bags → u.hall.queue = [] →
      BoundsKept s u.muteBags.muteNumbers := fun u hlink hquotes hbags hqueue =>
    (h.requeue hlink hquotes hbags (by rw [hqueue]; exact List.nil_sublist _)).muteBags.muteNumbers
  exact (((hemptied _ (by rfl) (by rfl) (by rfl) (by rfl)).onHall _).notify _).refuseMuted

theorem joinHall (h : BoundsKept s t) (group : Nat) : BoundsKept s (t.joinHall group) := by
  have hkept := h.onHall fun x => { x with peers := x.peers.map (Peer.keepGroup group) }
  exact .ite ((hkept.enterMuted _ _).modifyPeer _ _)
    ((hkept.modifyPeer _ _).onHall _).dueOffer

theorem failAttempt (h : BoundsKept s t) (f : Frame) : BoundsKept s (t.failAttempt f) :=
  .ite (((h.onHall _).onHall _).notify _) (h.onHall _)

/-- A frame has been sent, and leaves (R158, R163). -/
theorem transmitted (h : BoundsKept s t) (f : Frame) (acknowledged : Bool) : BoundsKept s (t.transmitted f acknowledged) := by
  have hsent : ∀ u : State, BoundsKept s u → BoundsKept s (u.frameSent f) := fun u hu => by
    unfold State.frameSent State.claimSent
    split
    · split
      · exact hu
      · exact hu.modifySlot _ _
    · refine hu.onHall _ fun x => ?_
      split <;> rfl
    all_goals exact hu
  exact dueServe (dueOffer (hsent _ (h.requeue (by rfl) (by rfl) (by rfl) (by exact List.eraseP_sublist.map _))))

theorem endCensus (h : BoundsKept s t) : BoundsKept s t.endCensus :=
  (foldl ((h.onHall _).notify _) (fun _ k hu => hu.testNeed k) _).dueServe

end BoundsKept

end Sys2Proof.Machine
end

section
/-! The bounds through completions and the end of an event, the tariff store, the scale, the counter link, the heard frames and
every command. -/

namespace Sys2Proof.Machine

/-- The drawing of the serial leaves the transmit queue as it is (R97). -/
theorem drawSerial_hall (k : Nat) (c : CurrentBlock) (s : State) : (s.drawSerial k c).1.hall = s.hall := by
  have hdrawn := congrArg State.hall (drawSerial_spec k c s).1
  rw [State.serialDrawn, needTested_resupplied_frame] at hdrawn
  exact hdrawn

namespace BoundsKept

variable {s t : State}

/-! ### Completions and the end of an event -/

/-- A completion posts its parcel while there is room (R96, R97). -/
theorem complete (h : BoundsKept s t) {q : Quote} {k : Nat} {c : CurrentBlock} (hcan : t.completable q = some (k, c))
    (commit : RequestRef) : BoundsKept s (t.complete q commit k c) := by
  have hadmits : admits t.hall.queue .normal = true := by
    by_contra hnot
    rw [State.completable, if_neg fun hboth => hnot hboth.2] at hcan
    cases hcan
  have hdrawn : ∀ u : State, BoundsKept s u → BoundsKept s (u.drawSerial k c).1 := fun u hu =>
    ((hu.beside (u := { u with scratch := { u.scratch with offerDue := false } }) rfl rfl).issueSerial k c).beside rfl rfl
  have hposted : BoundsKept s (t.parcelled q k c) := by
    have hbagged := (hdrawn _ (h.leaving q)).assignBag q.result.route q.result.wa
    have hhall : ((((t.leaving q).drawSerial k c).1).assignBag q.result.route q.result.wa).hall = t.hall :=
      drawSerial_hall k c (t.leaving q)
    have hentered := fun body => hbagged.enqueue (c := .normal) (by rw [hhall]; exact hadmits) body
    exact .ite ((hentered _).offerSlot k) (hentered _)
  rw [complete_eq]
  exact (hposted.reply _ _).dropRef _

theorem judgeEntry (h : BoundsKept s t) (n : Nat) : BoundsKept s (t.judgeEntry n) := by
  rcases judgeEntry_cases t n with hnot | ⟨q, ref, k, c, hq, hstate, hcan⟩
  · rwa [judgeEntry_not hnot]
  · rw [judgeEntry_complete hq hstate hcan]
    exact h.complete hcan ref

theorem serve (h : BoundsKept s t) : BoundsKept s t.serve := h.foldl (fun _ n hu => hu.judgeEntry n) _

/-- What an event makes due, and its messages (R95, R157, R179). -/
theorem finish (h : BoundsKept s t) (own : Nat) (order : RoomOrder) : BoundsKept s (t.finish own order) := by
  have hserve : ∀ u : State, BoundsKept s u → BoundsKept s u.serveIfDue := fun _ hu => .ite hu.serve hu
  have hoffer : ∀ u : State, BoundsKept s u → BoundsKept s u.offerIfDue := fun _ hu => .ite hu.offerOwed hu
  cases order with
  | servingFirst => exact (hoffer _ (hserve _ h)).flush own
  | owedFirst => exact (hserve _ (hoffer _ h)).flush own

/-! ### The tariff store -/

theorem withCursor (h : BoundsKept s t) (c : Cursor) : BoundsKept s (t.withCursor c) := h.beside rfl rfl

theorem failLoad (h : BoundsKept s t) (id : BankId) (r : RequestRef) (detail : LoadDetail) :
    BoundsKept s (t.failLoad id r detail) :=
  ((h.withCursor _).setBank _ _).reply _ _

theorem load (h : BoundsKept s t) (id : BankId) (r : RequestRef) (bank : Bank) (cursor : Cursor) :
    BoundsKept s (t.load id r bank cursor) :=
  ((h.withCursor _).setBank _ _).done _ _

theorem bankOpen (h : BoundsKept s t) (r : RequestRef) (bank openDefault : Nat) : BoundsKept s (t.bankOpen r bank openDefault) := by
  unfold State.bankOpen
  split
  · exact h.refuse _ _
  · exact .ite (h.refuse _ _) (.ite (((h.withCursor _).setBank _ _).done _ _) (h.refuse _ _))

theorem loadCell (h : BoundsKept s t) (r : RequestRef) (letter zone bandCount : Nat) :
    BoundsKept s (t.loadCell r letter zone bandCount) := by
  unfold State.loadCell
  split
  · exact h.refuse _ _
  · dsimp only
    split
    · exact h.refuse _ _
    · exact .ite (h.refuse _ _) (.ite (h.failLoad _ _ _) (.ite (h.failLoad _ _ _) (h.load _ _ _ _)))

theorem loadBand (h : BoundsKept s t) (r : RequestRef) (u p0 i sw p1 : Nat) : BoundsKept s (t.loadBand r u p0 i sw p1) := by
  unfold State.loadBand
  split
  · exact h.refuse _ _
  · refine .ite (h.refuse _ _) ?_
    split
    · exact h.failLoad _ _ _
    · exact .ite (h.failLoad _ _ _) (h.load _ _ _ _)

theorem loadZone (h : BoundsKept s t) (r : RequestRef) (low high zone route flags : Nat) :
    BoundsKept s (t.loadZone r low high zone route flags) := by
  unfold State.loadZone
  split
  · exact h.refuse _ _
  · exact .ite (h.refuse _ _) (.ite (h.failLoad _ _ _) (.ite (h.failLoad _ _ _) (h.load _ _ _ _)))

theorem loadSurch (h : BoundsKept s t) (r : RequestRef)
    (letter oversize irregular remoteRate insuranceUnit insurancePrice : Nat) :
    BoundsKept s (t.loadSurch r letter oversize irregular remoteRate insuranceUnit insurancePrice) := by
  unfold State.loadSurch
  split
  · exact h.refuse _ _
  · dsimp only
    split
    · exact h.refuse _ _
    · exact .ite (h.refuse _ _) (.ite (h.failLoad _ _ _) (h.load _ _ _ _))

theorem bankClose (h : BoundsKept s t) (r : RequestRef) (version count sum : Nat) :
    BoundsKept s (t.bankClose r version count sum) := by
  unfold State.bankClose
  split
  · exact h.refuse _ _
  · exact .ite (h.failLoad _ _ _) (.ite (h.failLoad _ _ _) (((h.withCursor _).setBank _ _).done _ _))

theorem activate (h : BoundsKept s t) (id : BankId) (cause : ActivationCause) : BoundsKept s (t.activate id cause) :=
  .ite (((h.setBank _ _).setBank _ _).notify _) ((h.setBank _ _).notify _)

theorem swap (h : BoundsKept s t) (r : RequestRef) (bank scope : Nat) : BoundsKept s (t.swap r bank scope) := by
  unfold State.swap
  split
  · exact h.refuse _ _
  · refine .ite (h.refuse _ _) ?_
    split
    case h_5 =>
      have hactivated := fun body id cause => (h.done r body).activate id cause
      exact .ite (dueOffer ((hactivated _ _ _).beside rfl rfl)) (hactivated _ _ _)
    all_goals exact h.refuse _ _

theorem cutoverHeard (h : BoundsKept s t) (station v : Nat) : BoundsKept s (t.cutoverHeard station v) := by
  refine .ite h ?_
  split
  · exact (h.beside (u := { t with draws := t.draws + 1 }) rfl rfl).activate _ _
  · exact h.notify _

/-- A RESTART forgets every request that waits (R105). -/
theorem takeRestart (h : BoundsKept s t) (r : RequestRef) : BoundsKept s (t.takeRestart r) := by
  obtain ⟨a, b, hrestarted⟩ := restarted_eq t
  have hkept : BoundsKept s t.restarted := by
    rw [hrestarted]
    exact h.requote rfl (fun _ hw => absurd hw (Option.some_ne_none _).symm) fun _ hq => absurd hq List.not_mem_nil
  exact hkept.done r _

/-! ### The scale -/

theorem halfComplete (h : BoundsKept s t) (cfg : Setup) (hsensor : t.weighing.scale ≠ .sensor) :
    BoundsKept s (t.halfComplete cfg) := by
  have hdecided : BoundsKept s (t.halfDecided cfg) := h.beside rfl rfl
  rw [halfComplete_eq cfg hsensor]
  exact .ite hdecided (hdecided.tellScale _)

theorem validSample (h : BoundsKept s t) (cfg : Setup) (counts : List Int) : BoundsKept s (t.validSample cfg counts) := by
  by_cases hsensor : t.weighing.scale = .sensor
  · rw [validSample_sensor cfg counts hsensor]
    exact .ite (h.onWeighing _) (h.onWeighing _)
  · rw [validSample_ring cfg counts hsensor]
    refine .ite (h.onWeighing _) (halfComplete ((h.onWeighing _).onWeighing _) cfg ?_)
    have hfull : ∀ x, ((t.weighing.sampled x).completeHalf cfg).scale = t.weighing.scale := fun x => by
      rw [completeHalf_sampled]
    simpa only [State.onWeighing_weighing, hfull] using hsensor

theorem invalidSequence (h : BoundsKept s t) : BoundsKept s t.invalidSequence := by
  by_cases hshort : t.weighing.scale = .sensor ∨ t.weighing.invalidRun + 1 < 64
  · rw [invalidSequence_short hshort]
    exact .ite (h.onWeighing _) (h.onWeighing _)
  · rw [not_or, Nat.not_lt] at hshort
    rw [invalidSequence_sensor hshort.1 hshort.2]
    exact (h.onWeighing _).tellScale _

theorem sequenceEnd (h : BoundsKept s t) (counts : List Int) (reference : Int) : BoundsKept s (t.sequenceEnd counts reference) := by
  have hnoted : BoundsKept s t.weightNotice := .ite (h.beside rfl rfl) (h.beside rfl rfl)
  unfold State.sequenceEnd
  split
  · exact h
  · exact .ite ((hnoted.onWeighing _).validSample _ _) (hnoted.onWeighing _).invalidSequence

theorem takeZero (h : BoundsKept s t) (r : RequestRef) : BoundsKept s (t.takeZero r) := by
  unfold State.takeZero
  split
  case h_1 | h_2 =>
    exact .ite (done (.ite ((h.onWeighing _).onWeighing _) (((h.onWeighing _).onWeighing _).tellScale _)) _ _)
      (h.refuse _ _)
  all_goals exact h.refuse _ _

/-! ### The counter link -/

theorem takeStart (h : BoundsKept s t) (r : RequestRef) (b : StartBody) : BoundsKept s (t.takeStart r b) := by
  have hconfigured : BoundsKept s (t.configure (startSetup b)) := h.beside rfl rfl
  exact .ite ((hconfigured.joinHall b.group).done _ _) (h.refuse _ _)

theorem takeStatus (h : BoundsKept s t) (r : RequestRef) (sect : Nat) : BoundsKept s (t.takeStatus r sect) := by
  unfold State.takeStatus
  split
  · exact h.done _ _
  · exact h.refuse _ _

/-- A request after START that has just been taken, handed to its owner (R181). -/
theorem handRequest (h : BoundsKept s t) {r : RequestRef} (hr : r.id < t.link.nextId) (request : Request) :
    BoundsKept s (t.handRequest r request) := by
  have hrefused : BoundsKept s (t.refuse r .badRequest) := h.refuse _ _
  cases request with
  | start body => exact h.refuse _ _
  | status sect => exact h.takeStatus _ _
  | restart => exact h.takeRestart r
  | zero => exact h.takeZero r
  | mapLoad letter startBlock span => exact .ite (h.mapLoad _ _ _ _) hrefused
  | logTake => exact h.logTake _
  | bankOpen bank openDefault => exact h.bankOpen _ _ _
  | cell letter zone bandCount => exact h.loadCell _ _ _ _
  | band u p0 i sw p1 => exact h.loadBand _ _ _ _ _ _
  | zone low high zone route flags => exact h.loadZone _ _ _ _ _ _
  | surch letter oversize irregular remoteRate unit price => exact h.loadSurch _ _ _ _ _ _ _
  | bankClose version count sum => exact h.bankClose _ _ _ _
  | swap bank scope => exact h.swap _ _ _
  | rate body => exact .ite (h.takeRate hr body) hrefused
  | commit number => exact .ite (h.takeCommit hr _) hrefused
  | cancel number => exact .ite (h.takeCancel _ _) hrefused
  | bagClose route => exact .ite (h.bagClose _ _) hrefused
  | unknown kind => exact hrefused

/-- A request before START (R181). -/
theorem handEarly (h : BoundsKept s t) (r : RequestRef) (request : Request) : BoundsKept s (t.handEarly r request) := by
  cases request with
  | start body => exact h.takeStart _ _
  | status sect => exact h.takeStatus _ _
  | _ => exact h.refuse _ _

/-- A request joins the outstanding list unless it is turned away (R177). -/
theorem takeRequest (h : BoundsKept s t) (tag : Nat) (request : Request) : BoundsKept s (t.takeRequest tag request) := by
  unfold State.takeRequest
  split
  · exact .ite (h.onLink _) (h.beside rfl rfl)
  · rename_i hroom
    have hjoined := h.join (Bool.not_eq_true _ ▸ hroom) tag
    exact .ite (hjoined.handRequest (Nat.lt_succ_self _) _) (hjoined.handEarly _ _)

theorem takeWhole (h : BoundsKept s t) (tag : Nat) (request : Request) : BoundsKept s (takeWhole tag request t) :=
  (h.takeRequest tag request).finish _ _

/-- The last byte of a message brings its request, the others the parser (R175). -/
theorem takeByte (h : BoundsKept s t) (byte : Byte) (framingError : Bool) : BoundsKept s (t.takeByte byte framingError) := by
  unfold State.takeByte
  dsimp only
  split
  · exact .ite (h.onLink _) h
  · exact .ite (h.onLink _) (.ite (h.onLink _) (.ite (h.onLink _) (h.onLink _)))
  · refine .ite (h.onLink _) (h.onLink _ ?_)
    split <;> exact ⟨rfl, rfl⟩
  · exact .ite (h.onLink _) (.ite (h.onLink _) (.ite ((h.onLink _).takeRequest _ _) (h.onLink _)))

/-! ### The hall line -/

/-- A frame is handed to its owners (8.2). -/
theorem hand (h : BoundsKept s t) (f : Frame) : BoundsKept s (t.hand f) := by
  unfold State.hand
  split
  · exact .ite (dueOffer (h.beside rfl rfl)) h
  · exact h.holdsHeard _ _ _
  · exact h
  · exact h.claimHeard _ _ _
  · exact h.heldHeard _ _ _
  · exact h.spentHeard _ _ _
  · exact (h.postedAtBags _ _ _).postedHeard _ _ _
  · exact h.bagnextHeard _ _
  · exact h.cutoverHeard _ _

theorem hearFrame (h : BoundsKept s t) (f : Frame) (order : RoomOrder) : BoundsKept s (hearFrame f order t) := by
  have hack : BoundsKept s (t.acknowledge true) := h.onHall _
  have hcredited : BoundsKept s ((t.acknowledge true).credit f) := hack.modifyPeer _ _
  refine finish ?_ _ _
  exact .ite hcredited (.ite hack (.ite (.ite hack (hack.enterMuted _ _)) (hcredited.hand f)))

end BoundsKept

/-! ### The commands and the step -/

/-- Every command keeps the bounds. -/
theorem boundsKept_of_exec {s t : State} (i : Instr) (hexec : exec i s = .next t) : BoundsKept s t := by
  have h := BoundsKept.refl s
  have hlater := fun d => h.elapse d
  cases i with
  | powerOnReset straps =>
    cases hexec
    have hreset : BoundsKept s State.reset :=
      ⟨fun _ => .inl (by decide), fun _ => requestsEarlier_reset, fun _ => ⟨by decide, .nil⟩, fun _ => rowsInRange_reset⟩
    exact hreset.beside rfl rfl
  | start tag body | status tag sect | restart tag | zero tag | mapLoad tag letter startBlock span | logTake tag
  | bankOpen tag bank openDefault | cell tag letter zone bandCount | band tag u p0 i sw p1
  | zone tag low high zone route flags | surch tag letter oversize irregular remoteRate unit price
  | bankClose tag version count sum | swap tag bank scope | rate tag body | commit tag number | cancel tag number
  | bagClose tag route | unknownRequestKind tag kind =>
    cases hexec
    exact h.takeWhole _ _
  | heardClaim station group letter block order | heardHeld station group letter block order
  | heardSpent station group letter block order | heardHolds station group letter blocks order
  | heardPosted station group letter serial route bag weight order | heardJoin station group office
  | heardBagnext station group route bag | heardCutover station group version | heardAlive station group =>
    cases hexec
    exact h.hearFrame _ _
  | linkMessageDiscard =>
    cases hexec
    exact .ite h (h.onLink _)
  | gapTimerExpiry =>
    cases hexec
    exact .ite h ((hlater _).onLink _)
  | messageTransmissionBegin =>
    cases hexec
    refine h.onLink _ ?_
    unfold Link.beginMessage
    split <;> exact ⟨rfl, rfl⟩
  | messageTransmissionComplete =>
    cases hexec
    exact h.completeMessage
  | sampleSequenceStart =>
    cases hexec
    exact .ite (h.onWeighing _) h
  | sequenceEnd counts reference =>
    cases hexec
    exact (h.sequenceEnd counts reference).finish _ _
  | waitingRateRelease =>
    cases hexec
    exact .ite (h.releaseWaiting.finish _ _) h
  | waitingRateScaleRefusal =>
    cases hexec
    exact .ite ((h.refuseWaiting _).finish _ _) h
  | settleWaitTimerExpiry =>
    simp only [exec, execSettleWaitTimerExpiry] at hexec
    split at hexec <;> cases hexec
    · exact h
    · exact ((hlater _).clearWaiting.refuse _ _).finish _ _
  | gateSample level | gateLevelAccepted level =>
    cases hexec
    exact .ite (h.beside rfl rfl) h
  | encoderCount direction widthBlocked heightBlocked =>
    simp only [exec, execEncoderCount] at hexec
    split at hexec <;> cases hexec
    · exact h
    · exact h.beside rfl rfl
  | encoderError =>
    cases hexec
    exact .ite (h.beside rfl rfl) h
  | stallTimerExpiry =>
    cases hexec
    exact .ite ((hlater _).beside (u := State.onGauge _ _) rfl rfl) h
  | quoteExpiry number =>
    simp only [exec, execQuoteExpiry] at hexec
    split at hexec
    · cases hexec
      exact h
    · split at hexec <;> cases hexec
      · exact (hlater _).removeQuote _
      · exact h
  | commitCompletion number =>
    cases hexec
    exact (h.judgeEntry number).finish _ _
  | holdoffExpiry slot order =>
    simp only [exec, execHoldoffExpiry] at hexec
    split at hexec
    · cases hexec
      exact h
    · split at hexec <;> cases hexec
      · exact ((hlater _).winClaim _ _).finish _ _
      all_goals exact h
  | frameDiscard levels =>
    simp only [exec, execFrameDiscard] at hexec
    split at hexec <;> cases hexec
    · exact h.beside rfl rfl
    · exact h
  | owedItemEntry =>
    cases hexec
    exact h.offerOwed
  | attemptBegin =>
    cases hexec
    refine .ite ?_ h
    split
    · exact h
    · rename_i q rest hqueue
      exact h.requeue rfl rfl rfl (by rw [hqueue]; exact List.Sublist.refl _)
  | arbitrationLost field =>
    simp only [exec, execArbitrationLost] at hexec
    split at hexec <;> cases hexec
    · exact h
    · exact .ite (h.beside rfl rfl) h
  | failedAttempt =>
    simp only [exec, execFailedAttempt] at hexec
    split at hexec <;> cases hexec
    · exact h
    · exact (h.failAttempt _).finish _ _
  | transmitCompletion acknowledged order =>
    simp only [exec, execTransmitCompletion] at hexec
    split at hexec <;> cases hexec
    · exact h
    · exact (h.transmitted _ _).finish _ _
  | censusTimerExpiry order =>
    simp only [exec, execCensusTimerExpiry] at hexec
    split at hexec <;> cases hexec
    · exact h
    · exact (hlater _).endCensus.finish _ _
  | silenceTimerExpiry =>
    cases hexec
    have hrestarted := fun d => (hlater d).onHall fun x => { x with silence := 0 }
    refine .ite ?_ h
    dsimp only
    split
    · rename_i hadmits
      exact (hrestarted _).enqueue hadmits.2 _
    · exact hrestarted _
  | livenessSilent station =>
    simp only [exec, execLivenessSilent] at hexec
    split at hexec
    · cases hexec
      exact h
    · split at hexec <;> cases hexec
      · exact (hlater _).modifyPeer _ _
      · exact h
  | byteReceived byte framingError =>
    cases hexec
    exact (h.takeByte byte framingError).finish _ _

end Sys2Proof.Machine
end

section
/-! Between two events nothing is left produced or due (log 8), and so every step keeps the bounds. -/

namespace Sys2Proof.Machine

namespace ScratchClear

variable {s t : State}

/-- Either branch of a condition. -/
theorem ite {c : Prop} [Decidable c] (hs : ScratchClear s) (ht : ScratchClear t) : ScratchClear (if c then s else t) := by
  split
  · exact hs
  · exact ht

theorem finish (own : Nat) (order : RoomOrder) (s : State) : ScratchClear (s.finish own order) := finish_scratch own order s

/-- A quote leaves outside the serving of the pending order (R91). -/
theorem removeQuote (h : ScratchClear s) (q : Quote) : ScratchClear (s.removeQuote q) := by
  rw [State.removeQuote, dropRef_eq, ScratchClear, State.setBank_scratch]
  exact h

theorem offerOwed (h : ScratchClear s) : ScratchClear s.offerOwed := by
  refine .ite ?_ h
  rw [ScratchClear, scratch_foldl_offerItem]
  exact h

/-- Every command either ends its event, which clears the scratch, or neither produces a message nor makes anything due. -/
theorem of_exec (h : ScratchClear s) (i : Instr) (hexec : exec i s = .next t) : ScratchClear t := by
  cases i with
  | powerOnReset straps =>
    cases hexec
    exact rfl
  | start tag body | status tag sect | restart tag | zero tag | mapLoad tag letter startBlock span | logTake tag
  | bankOpen tag bank openDefault | cell tag letter zone bandCount | band tag u p0 i sw p1
  | zone tag low high zone route flags | surch tag letter oversize irregular remoteRate unit price
  | bankClose tag version count sum | swap tag bank scope | rate tag body | commit tag number | cancel tag number
  | bagClose tag route | unknownRequestKind tag kind =>
    cases hexec
    exact .finish _ _ _
  | heardClaim station group letter block order | heardHeld station group letter block order
  | heardSpent station group letter block order | heardHolds station group letter blocks order
  | heardPosted station group letter serial route bag weight order | heardJoin station group office
  | heardBagnext station group route bag | heardCutover station group version | heardAlive station group =>
    cases hexec
    exact .finish _ _ _
  | sequenceEnd | commitCompletion | byteReceived =>
    cases hexec
    exact .finish _ _ _
  | waitingRateRelease | waitingRateScaleRefusal =>
    cases hexec
    exact .ite (.finish _ _ _) h
  | linkMessageDiscard | gapTimerExpiry =>
    cases hexec
    exact .ite h h
  | messageTransmissionBegin | messageTransmissionComplete =>
    cases hexec
    exact h
  | sampleSequenceStart | gateSample | gateLevelAccepted | encoderError | stallTimerExpiry =>
    cases hexec
    exact .ite h h
  | settleWaitTimerExpiry =>
    simp only [exec, execSettleWaitTimerExpiry] at hexec
    split at hexec <;> cases hexec
    · exact h
    · exact .finish _ _ _
  | encoderCount direction widthBlocked heightBlocked =>
    simp only [exec, execEncoderCount] at hexec
    split at hexec <;> cases hexec <;> exact h
  | quoteExpiry number =>
    simp only [exec, execQuoteExpiry] at hexec
    split at hexec
    · cases hexec
      exact h
    · split at hexec <;> cases hexec
      · exact removeQuote (s := s.elapse _) h _
      · exact h
  | holdoffExpiry slot order =>
    simp only [exec, execHoldoffExpiry] at hexec
    split at hexec
    · cases hexec
      exact h
    · split at hexec <;> cases hexec
      · exact .finish _ _ _
      all_goals exact h
  | frameDiscard levels =>
    simp only [exec, execFrameDiscard] at hexec
    split at hexec <;> cases hexec <;> exact h
  | owedItemEntry =>
    cases hexec
    exact h.offerOwed
  | attemptBegin =>
    cases hexec
    refine .ite ?_ h
    split <;> exact h
  | arbitrationLost field =>
    simp only [exec, execArbitrationLost] at hexec
    split at hexec <;> cases hexec
    · exact h
    · exact .ite h h
  | failedAttempt =>
    simp only [exec, execFailedAttempt] at hexec
    split at hexec <;> cases hexec
    · exact h
    · exact .finish _ _ _
  | transmitCompletion acknowledged order =>
    simp only [exec, execTransmitCompletion] at hexec
    split at hexec <;> cases hexec
    · exact h
    · exact .finish _ _ _
  | censusTimerExpiry order =>
    simp only [exec, execCensusTimerExpiry] at hexec
    split at hexec <;> cases hexec
    · exact h
    · exact .finish _ _ _
  | silenceTimerExpiry =>
    cases hexec
    exact .ite (.ite h h) h
  | livenessSilent station =>
    simp only [exec, execLivenessSilent] at hexec
    split at hexec
    · cases hexec
      exact h
    · split at hexec <;> cases hexec <;> exact h

end ScratchClear

/-- Settles O56: a step takes one command, or lets a millisecond pass. -/
theorem stepKeepsTheBounds : Obligations.StepKeepsTheBounds := by
  intro s t hstep
  have hkept : (ScratchClear s → ScratchClear t) ∧ BoundsKept s t := by
    unfold step at hstep
    split at hstep
    · cases hstep
      exact ⟨id, (BoundsKept.refl s).elapse 1⟩
    · rename_i c rest _
      exact ⟨fun h => ScratchClear.of_exec (s := { s with pending := rest }) h c hstep,
        ((BoundsKept.refl s).beside (u := { s with pending := rest }) rfl rfl).trans (boundsKept_of_exec c hstep)⟩
  obtain ⟨hclear, houtstanding, hearlier, hqueue, hrows⟩ := hkept
  exact ⟨hclear, houtstanding, hearlier, hqueue, hrows⟩

end Sys2Proof.Machine
end

section
/-! Which operations leave the number allocator as it is, in the order of the definitions they speak of: the frame that the
soundness of the product slots needs. -/

namespace Sys2Proof.Machine

/-- A chain of operations leaves the allocator that each of them leaves. -/
theorem alloc_foldl {α : Type} {f : State → α → State} (hf : ∀ s x, (f s x).alloc = s.alloc) (l : List α) (s : State) :
    (l.foldl f s).alloc = s.alloc := by
  induction l generalizing s with
  | nil => rfl
  | cons x l ih => exact (ih _).trans (hf s x)

/-! ### Messages and the bag table -/

@[simp] theorem alloc_done (r : RequestRef) (b : DoneBody) (s : State) : (s.done r b).alloc = s.alloc := rfl

@[simp] theorem alloc_refuse (r : RequestRef) (reason : Reason) (s : State) : (s.refuse r reason).alloc = s.alloc := rfl

@[simp] theorem alloc_postedAtBags (route bag w : Nat) (s : State) : (s.postedAtBags route bag w).alloc = s.alloc := by
  unfold State.postedAtBags
  split
  · split
    · rfl
    · split <;> rfl
  · rfl

@[simp] theorem alloc_bagnextHeard (route bag : Nat) (s : State) : (s.bagnextHeard route bag).alloc = s.alloc := by
  unfold State.bagnextHeard
  split
  · split
    · rfl
    · split <;> rfl
  · rfl

@[simp] theorem alloc_bagClose (r : RequestRef) (route : Nat) (s : State) : (s.bagClose r route).alloc = s.alloc := by
  unfold State.bagClose
  dsimp only
  split <;> rfl

/-! ### The tariff store -/

@[simp] theorem alloc_dropRef (id : BankId) (s : State) : (s.dropRef id).alloc = s.alloc := by
  rw [dropRef_eq, State.setBank_alloc]

@[simp] theorem alloc_failLoad (id : BankId) (r : RequestRef) (detail : LoadDetail) (s : State) :
    (s.failLoad id r detail).alloc = s.alloc := by
  simp [State.failLoad]

@[simp] theorem alloc_load (id : BankId) (r : RequestRef) (bank : Bank) (cursor : Cursor) (s : State) :
    (s.load id r bank cursor).alloc = s.alloc := by
  simp [State.load]

@[simp] theorem alloc_bankOpen (r : RequestRef) (bank openDefault : Nat) (s : State) :
    (s.bankOpen r bank openDefault).alloc = s.alloc := by
  unfold State.bankOpen
  split
  · rfl
  · split_ifs <;> simp

@[simp] theorem alloc_loadCell (r : RequestRef) (letter zone bandCount : Nat) (s : State) :
    (s.loadCell r letter zone bandCount).alloc = s.alloc := by
  unfold State.loadCell
  split
  · rfl
  · dsimp only
    split
    · rfl
    · split_ifs <;> simp

@[simp] theorem alloc_loadBand (r : RequestRef) (u p0 i sw p1 : Nat) (s : State) :
    (s.loadBand r u p0 i sw p1).alloc = s.alloc := by
  unfold State.loadBand
  split
  · rfl
  · dsimp only
    split
    · rfl
    · split
      · simp
      · split_ifs <;> simp

@[simp] theorem alloc_loadZone (r : RequestRef) (low high zone route flags : Nat) (s : State) :
    (s.loadZone r low high zone route flags).alloc = s.alloc := by
  unfold State.loadZone
  split
  · rfl
  · dsimp only
    split_ifs <;> simp

@[simp] theorem alloc_loadSurch (r : RequestRef)
    (letter oversize irregular remoteRate insuranceUnit insurancePrice : Nat) (s : State) :
    (s.loadSurch r letter oversize irregular remoteRate insuranceUnit insurancePrice).alloc = s.alloc := by
  unfold State.loadSurch
  split
  · rfl
  · dsimp only
    split
    · rfl
    · split_ifs <;> simp

@[simp] theorem alloc_bankClose (r : RequestRef) (version count sum : Nat) (s : State) :
    (s.bankClose r version count sum).alloc = s.alloc := by
  unfold State.bankClose
  split
  · rfl
  · dsimp only
    split_ifs <;> simp

@[simp] theorem alloc_activate (id : BankId) (cause : ActivationCause) (s : State) :
    (s.activate id cause).alloc = s.alloc := by
  unfold State.activate
  dsimp only
  split <;> simp

@[simp] theorem alloc_swap (r : RequestRef) (bank scope : Nat) (s : State) : (s.swap r bank scope).alloc = s.alloc := by
  unfold State.swap
  split
  · rfl
  · split
    · rfl
    · split
      case h_5 =>
        dsimp only
        split <;> simp
      all_goals rfl

@[simp] theorem alloc_cutoverHeard (station v : Nat) (s : State) : (s.cutoverHeard station v).alloc = s.alloc := by
  unfold State.cutoverHeard
  split
  · rfl
  · split <;> simp

/-! ### The quote table -/

@[simp] theorem alloc_storeOutcome (r : RequestRef) (outcome : Except Reason RateResult) (s : State) :
    (s.storeOutcome r outcome).alloc = s.alloc := by
  unfold State.storeOutcome
  split
  · rfl
  · split <;> simp [State.takeRef]

@[simp] theorem alloc_takeRate (r : RequestRef) (body : RateBody) (s : State) : (s.takeRate r body).alloc = s.alloc := by
  unfold State.takeRate
  split
  · rfl
  · split
    · simp
    · split
      case h_5 => simp
      case h_6 => split <;> rfl
      all_goals rfl

@[simp] theorem alloc_releaseWaiting (s : State) : s.releaseWaiting.alloc = s.alloc := by
  unfold State.releaseWaiting
  split <;> simp

@[simp] theorem alloc_refuseWaiting (scale : ScaleState) (s : State) : (s.refuseWaiting scale).alloc = s.alloc := by
  unfold State.refuseWaiting
  split <;> rfl

@[simp] theorem alloc_tellScale (scale : ScaleState) (s : State) : (s.tellScale scale).alloc = s.alloc := by
  cases scale <;> simp [State.tellScale]

@[simp] theorem alloc_removeQuote (q : Quote) (s : State) : (s.removeQuote q).alloc = s.alloc := by simp [State.removeQuote]

@[simp] theorem alloc_takeCancel (r : RequestRef) (number : Nat) (s : State) : (s.takeCancel r number).alloc = s.alloc := by
  unfold State.takeCancel
  split
  · rfl
  · split <;> simp

@[simp] theorem alloc_reopen (reason : Reason) (s : State) (number : Nat) : (s.reopen reason number).alloc = s.alloc := by
  rcases committing_or number s with hnone | ⟨q, ref, hq, hstate⟩
  · rw [reopen_notCommitting reason hnone]
  · rw [reopen_committing reason hq hstate]
    rfl

@[simp] theorem alloc_refuseMuted (s : State) : s.refuseMuted.alloc = s.alloc := alloc_foldl (alloc_reopen .muted) _ s

@[simp] theorem alloc_takeCommit (r : RequestRef) (number : Nat) (s : State) : (s.takeCommit r number).alloc = s.alloc := by
  unfold State.takeCommit
  split
  · rfl
  · split_ifs <;> rfl

/-! ### The scale -/

@[simp] theorem alloc_enterScale (new : ScaleState) (s : State) : (s.enterScale new).alloc = s.alloc := by
  unfold State.enterScale
  dsimp only
  split <;> simp

theorem alloc_halfComplete (cfg : Setup) {s : State} (hsensor : s.weighing.scale ≠ .sensor) :
    (s.halfComplete cfg).alloc = s.alloc := by
  have hdecided : (s.halfDecided cfg).alloc = s.alloc := rfl
  rw [halfComplete_eq cfg hsensor]
  split <;> simp [hdecided]

@[simp] theorem alloc_validSample (cfg : Setup) (counts : List Int) (s : State) :
    (s.validSample cfg counts).alloc = s.alloc := by
  by_cases hsensor : s.weighing.scale = .sensor
  · rw [validSample_sensor cfg counts hsensor]
    split <;> rfl
  · rw [validSample_ring cfg counts hsensor]
    split
    · rfl
    · dsimp only
      rw [alloc_halfComplete]
      · rfl
      · simpa only [State.onWeighing_weighing, completeHalf_sampled] using hsensor

@[simp] theorem alloc_invalidSequence (s : State) : s.invalidSequence.alloc = s.alloc := by
  by_cases hshort : s.weighing.scale = .sensor ∨ s.weighing.invalidRun + 1 < 64
  · rw [invalidSequence_short hshort]
    split <;> rfl
  · rw [not_or, Nat.not_lt] at hshort
    rw [invalidSequence_sensor hshort.1 hshort.2, alloc_tellScale]
    rfl

@[simp] theorem alloc_sequenceEnd (counts : List Int) (reference : Int) (s : State) :
    (s.sequenceEnd counts reference).alloc = s.alloc := by
  have hnoted : s.weightNotice.alloc = s.alloc := by
    unfold State.weightNotice
    dsimp only
    split <;> rfl
  unfold State.sequenceEnd
  split
  · rfl
  · dsimp only
    split <;> simp [hnoted]

@[simp] theorem alloc_takeZero (r : RequestRef) (s : State) : (s.takeZero r).alloc = s.alloc := by
  unfold State.takeZero
  split
  case h_1 | h_2 => split <;> simp
  all_goals rfl

/-! ### Requests, the hall line and the gauge -/

@[simp] theorem alloc_takeStatus (r : RequestRef) (sect : Nat) (s : State) : (s.takeStatus r sect).alloc = s.alloc := by
  unfold State.takeStatus
  split <;> rfl

@[simp] theorem alloc_takeRestart (r : RequestRef) (s : State) : (s.takeRestart r).alloc = s.alloc := by
  obtain ⟨a, b, hrestarted⟩ := restarted_eq s
  exact (congrArg State.alloc hrestarted :)

@[simp] theorem alloc_failAttempt (f : Frame) (s : State) : (s.failAttempt f).alloc = s.alloc := by
  unfold State.failAttempt
  dsimp only
  split <;> rfl

/-- The conflict log is apart from the slots (R130). -/
@[simp] theorem slots_logConflict (r : ConflictRecord) (s : State) : (s.logConflict r).alloc.slots = s.alloc.slots := by
  unfold State.logConflict
  split
  · dsimp only
    split <;> rfl
  · rfl

@[simp] theorem slots_logTake (r : RequestRef) (s : State) : (s.logTake r).alloc.slots = s.alloc.slots := by
  unfold State.logTake
  split <;> rfl

end Sys2Proof.Machine
end

section
/-! One product slot: what R110 asks of it and R111 of its supply state, through everything an event can do to a slot. -/

namespace Sys2Proof.Machine

/-! ### The supply state and the search (R111, R113) -/

/-- The supply state is the one that the map, the holdings and the claim give (R111). -/
def Slot.Supplied (x : Slot) : Prop := x.supply = x.supplyOf

/-- A re-evaluation of a slot whose supply state is current changes nothing (R111). -/
theorem reviewSupply_supplied {k : Nat} {s : State} (h : ∀ x, s.alloc.slots[k]? = some x → x.Supplied) :
    s.reviewSupply k = s := by
  cases hx : s.alloc.slots[k]? with
  | none => simp only [State.reviewSupply, hx]
  | some x =>
    have hsupply : x.supply = x.supplyOf := h x hx
    rw [reviewSupply_quiet hx (fun hnew => hnew.2 (hsupply.trans hnew.1)) (.inr fun hnew => hnew.2 (hsupply.trans hnew.1))]
    exact modifySlot_self hx (congrArg (fun v => { x with supply := v }) hsupply.symm)

/-- Of the allocator, a re-evaluation touches the slot's supply state alone (R111). -/
theorem slots_reviewSupply (k : Nat) (s : State) :
    (s.reviewSupply k).alloc.slots = (s.modifySlot k Slot.resupply).alloc.slots := by
  rw [← carried_alloc, carried_reviewSupply, alloc_resupplied]
  rfl

/-- A claim that holds a block is a claim (R113). -/
theorem Claim.ne_none_of_block {c : Claim} {b : Nat} (h : c.block? = some b) : c ≠ .none := fun hc => by
  rw [hc] at h
  cases h

/-! ### What every event keeps of a slot -/

/-- From `x` to `y` no mark is cleared, the window's start and the letter stay (R108), and what R110 asks is kept. -/
structure Slot.Follows (x y : Slot) : Prop where
  marks : ∀ n : Nat, x.marks[n]? = some true → y.marks[n]? = some true
  first : y.first = x.first
  letter : y.letter = x.letter
  sound : x.sound → y.sound

namespace Slot.Follows

variable {x y z : Slot}

theorem refl (x : Slot) : x.Follows x := ⟨fun _ => id, rfl, rfl, id⟩

theorem trans (h : x.Follows y) (h' : y.Follows z) : x.Follows z :=
  ⟨fun n hn => h'.marks n (h.marks n hn), h'.first.trans h.first, h'.letter.trans h.letter, fun hx => h'.sound (h.sound hx)⟩

/-- Where the map stays, a slot follows when it is sound. -/
theorem of_sound (hmarks : y.marks = x.marks := by rfl) (hfirst : y.first = x.first := by rfl)
    (hletter : y.letter = x.letter := by rfl) (h : x.sound → y.sound) : x.Follows y :=
  ⟨fun _ => hmarks ▸ id, hfirst, hletter, h⟩

/-- Marks are set, and nothing else changes (R108, R110). -/
theorem of_markedOn (h : x.MarkedOn y) : x.Follows y := by
  refine ⟨h.kept, h.first, h.letter, fun ⟨hlength, hheld, hclaim, hdistinct, hreserve, hleft, hoff⟩ => ?_⟩
  have hkeeps : ∀ b, x.keeps b → y.keeps b := fun b ⟨hwindow, hmarked⟩ =>
    ⟨by rw [Slot.inWindow, h.first, h.count]; exact hwindow, h.marked hmarked⟩
  have hblocks : y.heldBlocks = x.heldBlocks := by rw [Slot.heldBlocks, h.current, h.reserve]; rfl
  rw [← hblocks] at hheld hclaim hdistinct
  rw [← h.current, ← h.claim] at hoff
  rw [← h.current, ← h.reserve, ← h.claim] at hreserve
  rw [← h.claim] at hclaim
  rw [← h.current] at hleft
  rw [← h.enabled] at hoff
  exact ⟨by rw [h.length, h.enabled, h.count]; exact hlength, fun b hb => hkeeps b (hheld b hb),
    fun b hb => ⟨hkeeps b (hclaim b hb).1, (hclaim b hb).2⟩, hdistinct, hreserve, hleft, hoff⟩

/-- What is owed and the search cursor have no part in it. -/
theorem owing (x : Slot) (cursor : Nat) (supply : Supply) (owedHeld owedSpent : List Nat) (holdsOwed : Bool) :
    x.Follows { x with
      cursor := cursor, supply := supply, owedHeld := owedHeld, owedSpent := owedSpent, holdsOwed := holdsOwed } :=
  of_sound (h := id)

/-- The claim ends, or another claim state holds its block (R114, R115, R117). -/
theorem reclaim (x : Slot) {c : Claim} (hc : c = .none ∨ c.block? = x.claim.block?) : x.Follows { x with claim := c } := by
  refine of_sound (h := fun ⟨hlength, hheld, hclaim, hdistinct, hreserve, hleft, hoff⟩ => ?_)
  have hnone : x.claim = .none → c = .none := fun hx => by
    rcases hc with hc | hc
    · exact hc
    · rw [hx] at hc
      cases c <;> cases hc
      rfl
  refine ⟨hlength, hheld, fun b hb => ?_, hdistinct, fun hr => ?_, hleft, fun he => ?_⟩
  · rcases hc with hc | hc
    · have hb : c.block? = some b := hb
      rw [hc] at hb
      cases hb
    · exact hclaim b (hc ▸ hb)
  · exact ⟨(hreserve hr).1, hnone (hreserve hr).2⟩
  · exact ⟨(hoff he).1, hnone (hoff he).2⟩

/-- A needed claim is made for a free block, which is marked (R112, R113). -/
theorem claiming {lowWater b : Nat} (hneed : x.needsClaim lowWater = true) (hsearch : x.search = some b) :
    x.Follows { x.setMark b with claim := .owed b } := by
  obtain ⟨henabled, hreserve, -, -⟩ := (needsClaim_iff x lowWater).mp hneed
  obtain ⟨n, rfl, hn, hfree⟩ := search_spec x b hsearch
  have hmarked := of_markedOn (Slot.MarkedOn.setMark (x.first + n) x)
  refine ⟨hmarked.marks, rfl, rfl, fun hx => ?_⟩
  obtain ⟨hlength, hheld, -, hdistinct, -, hleft, -⟩ := hmarked.sound hx
  obtain ⟨hlength', hheld', -⟩ := hx
  have hroom : n < x.marks.length := by rwa [hlength', if_pos henabled]
  have hunmarked : x.marked (x.first + n) = false := by
    rw [Slot.marked, Nat.add_sub_cancel_left, List.getD_eq_getElem _ _ hroom, ← List.getD_eq_getElem _ true hroom, hfree]
  refine ⟨hlength, hheld, fun b hb => ?_, hdistinct, fun hr => absurd hreserve hr, hleft, fun he => ?_⟩
  · cases hb
    have hwindow : x.inWindow (x.first + n) = true := decide_eq_true ⟨Nat.le_add_right _ _, Nat.add_lt_add_left hn _⟩
    refine ⟨⟨hwindow, marked_setMark_self _ x ?_⟩, fun hmem => ?_⟩
    · rwa [Nat.add_sub_cancel_left]
    · have hmarked' := (hheld' _ hmem).2
      rw [hunmarked] at hmarked'
      cases hmarked'
  · have he : x.enabled = false := he
    rw [henabled] at he
    cases he

/-- A claimed block becomes the current block of a slot that has none (R110, R119). -/
theorem winCurrent {b : Nat} (hclaimed : x.claim.block? = some b) (hcurrent : x.current = none) (cursor : Nat) :
    x.Follows { x with current := some { block := b, next := 0 }, claim := .none, cursor := cursor } := by
  refine of_sound (h := fun ⟨hlength, _, hkept, _, hreserve, _, hoff⟩ => ?_)
  have hclaim := Claim.ne_none_of_block hclaimed
  have hnone : x.reserve = none := of_not_not fun hr => (hreserve hr).1 hcurrent
  have hblocks :
      Slot.heldBlocks { x with current := some { block := b, next := 0 }, claim := .none, cursor := cursor } = [b] := by
    rw [Slot.heldBlocks, hnone]
    rfl
  refine ⟨hlength, fun c hc => ?_, fun _ hc => (nomatch hc), hblocks ▸ List.nodup_singleton b, fun hr => absurd hnone hr,
    fun c hc => ?_, fun he => absurd (hoff he).2 hclaim⟩
  · obtain rfl := List.mem_singleton.mp (hblocks ▸ hc)
    exact (hkept c hclaimed).1
  · cases hc
    exact Nat.zero_lt_succ _

/-- A claimed block becomes the reserve beside a current block (R110, R119). -/
theorem winReserve {b : Nat} (hclaimed : x.claim.block? = some b) {c : CurrentBlock} (hcurrent : x.current = some c)
    (cursor : Nat) : x.Follows { x with reserve := some b, claim := .none, cursor := cursor } := by
  refine of_sound (h := fun ⟨hlength, hheld, hkept, _, hreserve, hleft, hoff⟩ => ?_)
  have hclaim := Claim.ne_none_of_block hclaimed
  have hnone : x.reserve = none := of_not_not fun hr => hclaim (hreserve hr).2
  have hold : x.heldBlocks = [c.block] := by
    rw [Slot.heldBlocks, hnone, hcurrent]
    rfl
  have hblocks : Slot.heldBlocks { x with reserve := some b, claim := .none, cursor := cursor } = [c.block, b] := by
    rw [Slot.heldBlocks, hcurrent]
    rfl
  obtain ⟨hkeeps, hfresh⟩ := hkept b hclaimed
  rw [hold, List.mem_singleton] at hfresh
  refine ⟨hlength, fun d hd => ?_, fun _ hd => (nomatch hd), ?_,
    fun _ => ⟨fun h => Option.some_ne_none c (hcurrent.symm.trans h), rfl⟩, hleft, fun he => absurd (hoff he).2 hclaim⟩
  · rw [hblocks, List.mem_cons, List.mem_singleton] at hd
    rcases hd with rfl | rfl
    · exact hheld _ (hold ▸ List.mem_singleton_self _)
    · exact hkeeps
  · rw [hblocks, List.nodup_cons, List.mem_singleton]
    exact ⟨Ne.symm hfresh, List.nodup_singleton b⟩

/-- A claim is won (R119). -/
theorem winning {b : Nat} (hclaimed : x.claim.block? = some b) (cursor : Nat) :
    x.Follows (if x.current.isNone then
        { x with current := some { block := b, next := 0 }, claim := .none, cursor := cursor }
      else { x with reserve := some b, claim := .none, cursor := cursor }) := by
  split
  · rename_i hcurrent
    exact winCurrent hclaimed (Option.isNone_iff_eq_none.mp hcurrent) cursor
  · rename_i hcurrent
    obtain ⟨c, hc⟩ := Option.ne_none_iff_exists'.mp fun h => hcurrent (Option.isNone_iff_eq_none.mpr h)
    exact winReserve hclaimed hc cursor

/-- Blocks leave the holdings, or the current one moves on to its next serial (R110, R123, R124). -/
theorem releasing {current : Option CurrentBlock} {reserve : Option Nat}
    (hheld : ((current.map (·.block)).toList ++ reserve.toList).Sublist x.heldBlocks)
    (hreserve : reserve ≠ none → x.reserve ≠ none ∧ current ≠ none)
    (hleft : ∀ c, current = some c → c.next < Config.blockSize) :
    x.Follows { x with current := current, reserve := reserve } := by
  refine of_sound (h := fun ⟨hlength, hkeeps, hclaim, hdistinct, hbeside, _, hoff⟩ => ?_)
  refine ⟨hlength, fun b hb => hkeeps b (hheld.subset hb), fun b hb => ?_, hdistinct.sublist hheld, fun hr => ?_, hleft,
    fun he => ⟨?_, (hoff he).2⟩⟩
  · obtain ⟨hkeeps, hfresh⟩ := hclaim b hb
    exact ⟨hkeeps, fun h => hfresh (hheld.subset h)⟩
  · obtain ⟨hr, hc⟩ := hreserve hr
    exact ⟨hc, (hbeside hr).2⟩
  · have hnone := (hoff he).1
    have hreserve' : x.reserve = none := of_not_not fun hr => (hbeside hr).1 hnone
    rw [Slot.heldBlocks, hnone, hreserve'] at hheld
    obtain ⟨hempty, -⟩ := List.append_eq_nil_iff.mp (List.sublist_nil.mp hheld)
    cases current with
    | none => rfl
    | some c => cases hempty

/-- The reserve leaves (R123). -/
theorem dropReserve (x : Slot) : x.Follows { x with reserve := none } := by
  refine of_sound (h := fun hx => ?_)
  obtain ⟨-, -, -, -, -, hleft, -⟩ := id hx
  exact (releasing ((List.append_nil _).symm ▸ List.sublist_append_left _ _) (fun h => absurd rfl h) hleft).sound hx

/-- The current block leaves, and a reserve is promoted (R110). -/
theorem promote (x : Slot) : x.Follows x.promote := by
  refine releasing ?_ (fun h => absurd rfl h) fun c hc => ?_
  · have hblocks : ((x.reserve.map fun b => ({ block := b, next := 0 } : CurrentBlock)).map (·.block)).toList =
        x.reserve.toList := by
      cases x.reserve <;> rfl
    rw [hblocks, Option.toList_none, List.append_nil]
    exact List.sublist_append_right _ _
  · obtain ⟨b, -, rfl⟩ := Option.map_eq_some_iff.mp hc
    exact Nat.zero_lt_succ _

/-- The current block issues a serial, or has issued its last one (R124, R125). -/
theorem issued {c : CurrentBlock} (hcurrent : x.current = some c) : x.Follows (x.issued c) := by
  unfold Slot.issued
  split
  · rename_i hleft
    refine releasing ?_ (fun hr => ⟨hr, Option.some_ne_none _⟩) fun d hd => ?_
    · rw [Slot.heldBlocks, hcurrent]
      exact List.Sublist.refl _
    · cases hd
      exact hleft
  · exact (promote x).trans (owing _ _ _ _ _ _)

/-- A muting ends an unsent claim (R133). -/
theorem muting (x : Slot) : x.Follows x.muted := by
  refine (reclaim x (c := x.muted.claim) ?_).trans (owing _ _ _ _ _ _)
  unfold Slot.muted
  cases x.claim <;> simp

/-- Items have entered the queue, and the claim holds the block it held (R114, R157). -/
theorem of_unowed (h : y.unowed = x.unowed) (hclaim : y.claim.block? = x.claim.block?) : x.Follows y := by
  have hy : y = { x with
      claim := y.claim, owedHeld := y.owedHeld, owedSpent := y.owedSpent, holdsOwed := y.holdsOwed } :=
    (congrArg (fun z : Slot => { z with
      claim := y.claim, owedHeld := y.owedHeld, owedSpent := y.owedSpent, holdsOwed := y.holdsOwed }) h :)
  rw [hy]
  exact (reclaim x (.inr hclaim)).trans (owing _ _ _ _ _ _)

end Slot.Follows

/-- Another claim state that holds the same block gives the same supply state (R111). -/
theorem supplyOf_reclaim (x : Slot) {c : Claim} (hc : c.block? = x.claim.block?) :
    Slot.supplyOf { x with claim := c } = x.supplyOf := by
  have hnone : (c = .none) = (x.claim = .none) := by
    cases c <;> cases hclaim : x.claim <;> rw [hclaim] at hc <;> cases hc <;> simp
  rw [supplyOf_table, supplyOf_table x]
  simp only [hnone]

/-- The entry of items leaves a supply state current (R111, R157). -/
theorem Slot.Supplied.of_unowed {x y : Slot} (hx : x.Supplied) (h : y.unowed = x.unowed)
    (hclaim : y.claim.block? = x.claim.block?) : y.Supplied := by
  have hsupply : y.supply = x.supply := (congrArg Slot.supply h :)
  have hsame : y.supplyOf = Slot.supplyOf { x with claim := y.claim } :=
    (congrArg (fun z : Slot => Slot.supplyOf { z with claim := y.claim }) h :)
  rw [Slot.Supplied, hsupply, hsame, supplyOf_reclaim x hclaim]
  exact hx

end Sys2Proof.Machine
end

section
/-! What every event keeps of the product slots: each slot follows from the one before, and keeps its supply state current
(R108, R110, R111). -/

namespace Sys2Proof.Machine

/-- From `s` to `t` there are the same slots, each as `Slot.Follows` says; where `P` holds of its index, a supply state that was
current is current. Within an operation `P` leaves out the slot whose re-evaluation is still to come. -/
structure SlotsKept (P : Nat → Prop) (s t : State) : Prop where
  length : t.alloc.slots.length = s.alloc.slots.length
  slot : ∀ (k : Nat) (x : Slot), s.alloc.slots[k]? = some x →
    ∃ y, t.alloc.slots[k]? = some y ∧ x.Follows y ∧ (P k → x.Supplied → y.Supplied)

namespace SlotsKept

variable {P Q : Nat → Prop} {s t u : State}

/-- Every slot of `t` is there in `s`. -/
theorem slot_before (h : SlotsKept P s t) {k : Nat} {y : Slot} (hy : t.alloc.slots[k]? = some y) :
    ∃ x, s.alloc.slots[k]? = some x ∧ x.Follows y ∧ (P k → x.Supplied → y.Supplied) := by
  obtain ⟨hlt, -⟩ := List.getElem?_eq_some_iff.mp hy
  have hx : s.alloc.slots[k]? = some _ := List.getElem?_eq_getElem (hlt.trans_eq h.length)
  obtain ⟨z, hz, hkept⟩ := h.slot k _ hx
  obtain rfl : z = y := Option.some.inj (hz.symm.trans hy)
  exact ⟨_, hx, hkept⟩

theorem slotsSound (h : SlotsKept P s t) (hs : SlotsSound s) : SlotsSound t := fun y hy => by
  obtain ⟨k, hk⟩ := List.getElem?_of_mem hy
  obtain ⟨x, hx, hfollows, -⟩ := h.slot_before hk
  exact hfollows.sound (hs x (List.mem_of_getElem? hx))

theorem suppliesCurrent (h : SlotsKept P s t) (hP : ∀ k, k < s.alloc.slots.length → P k) (hs : SuppliesCurrent s) :
    SuppliesCurrent t := fun y hy => by
  obtain ⟨k, hk⟩ := List.getElem?_of_mem hy
  obtain ⟨x, hx, -, hsupplied⟩ := h.slot_before hk
  obtain ⟨hlt, -⟩ := List.getElem?_eq_some_iff.mp hx
  exact hsupplied (hP k hlt) (hs x (List.mem_of_getElem? hx))

theorem refl (P : Nat → Prop) (s : State) : SlotsKept P s s := ⟨rfl, fun _ x hx => ⟨x, hx, .refl x, fun _ => id⟩⟩

/-- One operation after another. -/
theorem trans (h : SlotsKept P s t) (h' : SlotsKept P t u) : SlotsKept P s u := by
  refine ⟨h'.length.trans h.length, fun k x hx => ?_⟩
  obtain ⟨y, hy, hxy, hsupplied⟩ := h.slot k x hx
  obtain ⟨z, hz, hyz, hsupplied'⟩ := h'.slot k y hy
  exact ⟨z, hz, hxy.trans hyz, fun hk hx => hsupplied' hk (hsupplied hk hx)⟩

theorem mono (h : SlotsKept P s t) (hQ : ∀ k, Q k → P k) : SlotsKept Q s t := by
  refine ⟨h.length, fun k x hx => ?_⟩
  obtain ⟨y, hy, hxy, hsupplied⟩ := h.slot k x hx
  exact ⟨y, hy, hxy, fun hk => hsupplied (hQ k hk)⟩

/-- An operation beside the slots. -/
theorem beside (h : SlotsKept P s t) (hslots : u.alloc.slots = t.alloc.slots) : SlotsKept P s u :=
  ⟨hslots ▸ h.length, hslots ▸ h.slot⟩

/-- An operation beside the allocator. -/
theorem besideAlloc (h : SlotsKept P s t) (halloc : u.alloc = t.alloc) : SlotsKept P s u :=
  h.beside (congrArg Allocator.slots halloc)

/-- Either branch of a condition. -/
theorem ite {c : Prop} [Decidable c] (ht : SlotsKept P s t) (hu : SlotsKept P s u) : SlotsKept P s (if c then t else u) := by
  split
  · exact ht
  · exact hu

/-- A chain of operations keeps what each of them keeps. -/
theorem foldl {α : Type} {f : State → α → State} (h : SlotsKept P s t)
    (hf : ∀ v x, SlotsKept P s v → SlotsKept P s (f v x)) (l : List α) : SlotsKept P s (l.foldl f t) := by
  induction l generalizing t with
  | nil => exact h
  | cons x l ih => exact ih (hf t x h)

/-- Every slot changes alike. -/
theorem mapSlots (h : SlotsKept P s t) {f : Slot → Slot} (hslots : u.alloc.slots = t.alloc.slots.map f)
    (hf : ∀ x : Slot, x.Follows (f x)) (hQ : ∀ k, Q k → P k ∧ ∀ x : Slot, x.Supplied → (f x).Supplied) :
    SlotsKept Q s u := by
  refine ⟨by rw [hslots, List.length_map, h.length], fun k x hx => ?_⟩
  obtain ⟨y, hy, hxy, hsupplied⟩ := h.slot k x hx
  refine ⟨f y, by rw [hslots, List.getElem?_map, hy]; rfl, hxy.trans (hf y), fun hk hx => ?_⟩
  obtain ⟨hP, hsame⟩ := hQ k hk
  exact hsame y (hsupplied hP hx)

/-! ### One slot -/

/-- One slot changes; unless its supply state stays current, that is left out. -/
theorem modifySlot (h : SlotsKept P s t) (k : Nat) {f : Slot → Slot}
    (hf : ∀ x, t.alloc.slots[k]? = some x → x.Follows (f x))
    (hQ : ∀ j, Q j → P j ∧ (j = k → ∀ x, t.alloc.slots[k]? = some x → x.Supplied → (f x).Supplied)) :
    SlotsKept Q s (t.modifySlot k f) := by
  refine ⟨(length_modifySlot k f t).trans h.length, fun j x hx => ?_⟩
  obtain ⟨y, hy, hxy, hsupplied⟩ := h.slot j x hx
  rw [slots_modifySlot, hy]
  split_ifs with hj
  · subst hj
    refine ⟨f y, rfl, hxy.trans (hf y hy), fun hk hx => ?_⟩
    obtain ⟨hP, hsame⟩ := hQ k hk
    exact hsame rfl y hy (hsupplied hP hx)
  · exact ⟨y, rfl, hxy, fun hk => hsupplied (hQ j hk).1⟩

/-- One slot changes, and its re-evaluation is still to come. -/
theorem modifySlotBut (h : SlotsKept P s t) (k : Nat) {f : Slot → Slot}
    (hf : ∀ x, t.alloc.slots[k]? = some x → x.Follows (f x)) : SlotsKept (fun j => P j ∧ j ≠ k) s (t.modifySlot k f) :=
  h.modifySlot k hf fun _ hj => ⟨hj.1, fun heq => absurd heq hj.2⟩

/-- One slot changes in what neither the holdings nor the supply state depend on. -/
theorem modifySlotOwing (h : SlotsKept P s t) (k : Nat) {f : Slot → Slot} (hf : ∀ x : Slot, x.Follows (f x))
    (hsupply : ∀ x : Slot, x.Supplied → (f x).Supplied) : SlotsKept P s (t.modifySlot k f) :=
  h.modifySlot k (fun x _ => hf x) fun _ hj => ⟨hj, fun _ x _ => hsupply x⟩

/-- The claim of one slot goes on to another state (R114, R115). -/
theorem reclaimSlot (h : SlotsKept P s t) (k : Nat) {c : Slot → Claim}
    (hc : ∀ x, t.alloc.slots[k]? = some x → (c x).block? = x.claim.block?) :
    SlotsKept P s (t.modifySlot k fun x => { x with claim := c x }) :=
  h.modifySlot k (fun x hx => .reclaim x (.inr (hc x hx))) fun _ hj =>
    ⟨hj, fun _ x hx hsupplied => hsupplied.trans (supplyOf_reclaim x (hc x hx)).symm⟩

/-- The supply state of a slot is re-evaluated (R111). -/
theorem reviewed (h : SlotsKept P s t) (k : Nat) (hQ : ∀ j, Q j → j ≠ k → P j) : SlotsKept Q s (t.reviewSupply k) := by
  refine ⟨by rw [slots_reviewSupply, length_modifySlot, h.length], fun j x hx => ?_⟩
  obtain ⟨y, hy, hxy, hsupplied⟩ := h.slot j x hx
  rw [slots_reviewSupply, slots_modifySlot, hy]
  split_ifs with hj
  · exact ⟨y.resupply, rfl, hxy.trans (.of_markedOn (.resupply y)), fun _ _ => rfl⟩
  · exact ⟨y, rfl, hxy, fun hk => hsupplied (hQ j hk (Ne.symm hj))⟩

end SlotsKept

end Sys2Proof.Machine
end

section
/-! The product slots through the number allocator, the owed items and the hall line, in the order of the definitions they speak
of. -/

namespace Sys2Proof.Machine

namespace SlotsKept

variable {P Q : Nat → Prop} {s t u : State}

/-! ### Beside the slots -/

theorem notify (h : SlotsKept P s t) (n : Notice) : SlotsKept P s (t.notify n) := h.beside rfl

theorem reply (h : SlotsKept P s t) (r : RequestRef) (b : Reply) : SlotsKept P s (t.reply r b) := h.beside rfl

theorem done (h : SlotsKept P s t) (r : RequestRef) (b : DoneBody) : SlotsKept P s (t.done r b) := h.beside rfl

theorem refuse (h : SlotsKept P s t) (r : RequestRef) (reason : Reason) : SlotsKept P s (t.refuse r reason) := h.beside rfl

theorem dueOffer (h : SlotsKept P s t) : SlotsKept P s t.dueOffer := h.beside rfl

theorem dueServe (h : SlotsKept P s t) : SlotsKept P s t.dueServe := h.beside rfl

theorem modifyColumn (h : SlotsKept P s t) (station k : Nat) (f : List Nat → List Nat) :
    SlotsKept P s (t.modifyColumn station k f) :=
  h.beside rfl

theorem onHall (h : SlotsKept P s t) (f : Hall → Hall) : SlotsKept P s (t.onHall f) := h.beside rfl

theorem withdraw (h : SlotsKept P s t) (body : FrameBody) : SlotsKept P s (t.withdraw body) :=
  h.besideAlloc (alloc_withdraw body t)

theorem logConflict (h : SlotsKept P s t) (r : ConflictRecord) : SlotsKept P s (t.logConflict r) :=
  h.beside (slots_logConflict r t)

/-! ### Supply and need (R111 to R113) -/

/-- The supply state of the slot that was left out is current again (R111). -/
theorem reviewSupply {k : Nat} (h : SlotsKept (fun j => P j ∧ j ≠ k) s t) : SlotsKept P s (t.reviewSupply k) :=
  h.reviewed k fun _ hj hne => ⟨hj, hne⟩

theorem testNeed (h : SlotsKept P s t) (k : Nat) : SlotsKept P s (t.testNeed k) := by
  unfold State.testNeed
  split
  · exact h
  · rename_i x hx
    split
    · rename_i hneed
      split
      · exact h.reviewed k fun _ hj _ => hj
      · rename_i b hsearch
        have hclaimed := h.modifySlotBut k (f := fun y => { y.setMark b with claim := .owed b }) fun y hy => by
          obtain rfl : x = y := Option.some.inj (hx.symm.trans hy)
          exact .claiming hneed.2 hsearch
        exact hclaimed.dueOffer.reviewSupply
    · exact h

/-! ### Claims (R115 to R119) -/

theorem loseClaim (h : SlotsKept P s t) (k block : Nat) : SlotsKept P s (t.loseClaim k block) := by
  unfold State.loseClaim
  split
  · exact h
  · rename_i x _
    have hwithdrawn : SlotsKept P s ((if x.claim = .queued block then t.withdraw (.claim x.letter block) else t).withdraw
        (.held x.letter block)) := withdraw (.ite (h.withdraw _) h) _
    have hended := hwithdrawn.modifySlotBut k
      (f := fun y => { y with claim := .none, owedHeld := y.owedHeld.erase block, cursor := y.after block })
      fun y _ => (Slot.Follows.reclaim y (.inl rfl)).trans (.owing _ _ _ _ _ _)
    exact hended.reviewSupply.testNeed k

theorem oweHeld (h : SlotsKept P s t) (k block : Nat) : SlotsKept P s (t.oweHeld k block) := by
  unfold State.oweHeld
  split
  · exact h
  · have howed := h.modifySlotOwing k (f := fun x => { x with owedHeld := x.owedHeld ++ [block] })
      (fun x => .owing x _ _ _ _ _) fun _ => id
    exact .ite howed.dueOffer h

/-- A claim in HOLDOFF is won: its block was claimed (R119). -/
theorem winClaim (h : SlotsKept P s t) {k block : Nat}
    (hclaimed : ∀ x, t.alloc.slots[k]? = some x → x.claim.block? = some block) : SlotsKept P s (t.winClaim k block) := by
  unfold State.winClaim
  split
  · exact h
  · have hwon := h.modifySlotBut k fun x hx => Slot.Follows.winning (hclaimed x hx) (x.after block)
    have hreviewed := fun n => (hwon.notify n).reviewSupply.testNeed k
    exact .ite (hreviewed _).dueServe (hreviewed _)

/-! ### Withdrawal and serials (R110, R123 to R125) -/

theorem withdrawBlock (h : SlotsKept P s t) (k block : Nat) : SlotsKept P s (t.withdrawBlock k block) := by
  unfold State.withdrawBlock
  split
  · exact h
  · have hreviewed : ∀ v : State, SlotsKept (fun j => P j ∧ j ≠ k) s v →
        SlotsKept P s (((v.oweHeld k block).reviewSupply k).testNeed k) := fun v hv =>
      (hv.oweHeld k block).reviewSupply.testNeed k
    have hpromoted := h.modifySlotBut k (f := Slot.promote) fun x _ => .promote x
    exact hreviewed _ (.ite (.ite hpromoted.dueServe hpromoted) (h.modifySlotBut k fun x _ => .dropReserve x))

/-- The current block of the slot issues a serial (R124). -/
theorem issueSerial (h : SlotsKept P s t) {k : Nat} {c : CurrentBlock}
    (hcurrent : ∀ x, t.alloc.slots[k]? = some x → x.current = some c) : SlotsKept P s (t.issueSerial k c) := by
  have hissued := h.modifySlotBut k fun x hx => Slot.Follows.issued (hcurrent x hx)
  rw [issueSerial_eq]
  exact reviewSupply ((SlotsKept.ite hissued hissued.dueOffer).testNeed k)

/-! ### Heard frames (R116 to R129) -/

theorem markHeard (h : SlotsKept (fun j => P j ∧ j ≠ k) s t) (kind : FrameKind) (station : Nat) (serial : Option Nat)
    (block : Nat) : SlotsKept (fun j => P j ∧ j ≠ k) s (t.markHeard k kind station serial block) := by
  unfold State.markHeard
  split
  · exact h
  · have hmarked := (h.modifySlotBut k fun x _ => .of_markedOn (.setMark block x)).mono (Q := fun j => P j ∧ j ≠ k)
      fun _ hj => ⟨hj, hj.2⟩
    exact .ite (.ite h (hmarked.notify _)) (.ite (h.logConflict _) h)

theorem marksHeard (h : SlotsKept P s t) (k : Nat) (kind : FrameKind) (station : Nat) (serial : Option Nat)
    (blocks : List Nat) : SlotsKept P s (t.marksHeard k kind station serial blocks) :=
  reviewSupply ((h.mono fun _ hj => hj.1).foldl (fun _ b hv => hv.markHeard kind station serial b) blocks)

theorem loseIfClaimed (h : SlotsKept P s t) (k : Nat) (blocks : List Nat) : SlotsKept P s (t.loseIfClaimed k blocks) := by
  unfold State.loseIfClaimed
  split
  · exact h
  · split
    · exact h
    · exact .ite (h.loseClaim _ _) h

theorem claimHeard (h : SlotsKept P s t) (station letter block : Nat) : SlotsKept P s (t.claimHeard station letter block) := by
  unfold State.claimHeard
  split
  · exact h
  · rename_i k _
    have hmarked := h.marksHeard k .claim station none [block]
    refine modifyColumn ?_ _ _ _
    split
    · exact hmarked
    · exact .ite (hmarked.loseClaim _ _) (.ite (hmarked.oweHeld _ _) hmarked)

theorem heldHeard (h : SlotsKept P s t) (station letter block : Nat) : SlotsKept P s (t.heldHeard station letter block) := by
  unfold State.heldHeard
  split
  · exact h
  · rename_i k _
    have hmarked := (h.marksHeard k .held station none [block]).loseIfClaimed k [block]
    refine modifyColumn (foldl ?_ (fun _ _ hv => .ite hv (hv.modifyColumn _ _ _)) _) _ _ _
    split
    · exact hmarked
    · exact .ite ((hmarked.withdrawBlock _ _).logConflict _) hmarked

theorem spentHeard (h : SlotsKept P s t) (station letter block : Nat) : SlotsKept P s (t.spentHeard station letter block) := by
  unfold State.spentHeard
  split
  · exact h
  · exact ((h.marksHeard _ _ _ _ _).loseIfClaimed _ _).modifyColumn _ _ _

theorem holdsHeard (h : SlotsKept P s t) (station letter : Nat) (blocks : List Nat) :
    SlotsKept P s (t.holdsHeard station letter blocks) := by
  unfold State.holdsHeard
  split
  · exact h
  · exact ((h.marksHeard _ _ _ _ _).loseIfClaimed _ _).modifyColumn _ _ _

theorem postedHeard (h : SlotsKept P s t) (station letter serial : Nat) :
    SlotsKept P s (t.postedHeard station letter serial) := by
  have hchecked : ∀ (k : Nat) (v : State), SlotsKept P s v → SlotsKept P s (v.checkPosted k station letter serial) := by
    intro k v hv
    unfold State.checkPosted
    dsimp only
    split
    · exact hv
    · exact .ite ((hv.logConflict _).withdrawBlock _ _) (.ite hv (hv.logConflict _))
  unfold State.postedHeard
  split
  · exact h
  · exact hchecked _ _ ((h.marksHeard _ _ _ _ _).loseIfClaimed _ _)

theorem joinHeard (h : SlotsKept P s t) : SlotsKept P s t.joinHeard := by
  have howed : ∀ v : State,
      v.alloc.slots = (t.alloc.slots.map fun k => if k.enabled then { k with holdsOwed := true } else k) →
      SlotsKept P s v := fun v hv => by
    refine h.mapSlots hv (fun x => ?_) fun _ hj => ⟨hj, fun x hx => ?_⟩
    · split
      · exact .owing x _ _ _ _ _
      · exact .refl x
    · split <;> exact hx
  exact .ite (howed _ rfl) h

/-- The marks of a MAPLOAD (R109). -/
theorem mapLoad (h : SlotsKept P s t) (r : RequestRef) (letter startBlock : Nat) (span : List Bool) :
    SlotsKept P s (t.mapLoad r letter startBlock span) := by
  have hmarked : ∀ (blocks : List Nat) (x : Slot), x.Follows (blocks.foldl (fun y b => y.setMark b) x) := by
    intro blocks
    induction blocks with
    | nil => exact .refl
    | cons b bs ih => exact fun x => (Slot.Follows.of_markedOn (.setMark b x)).trans (ih _)
  unfold State.mapLoad
  split
  · exact h.refuse _ _
  · split
    · exact h.refuse _ _
    · split
      case h_1 | h_2 => exact h.refuse _ _
      all_goals
        split
        · exact h
        · exact ((h.modifySlotBut _ fun x _ => hmarked _ x).done _ _).reviewSupply

/-! ### Time and muting (R115, R133) -/

theorem elapse (h : SlotsKept P s t) (d : Nat) : SlotsKept P s (t.elapse d) :=
  h.mapSlots rfl (fun x => .reclaim x (.inr (block_elapse d x.claim))) fun _ hj =>
    ⟨hj, fun x hx => hx.trans (supplyOf_reclaim x (block_elapse d x.claim)).symm⟩

/-- A muting re-evaluates the supply states of the first eight slots (R111, R133, R169). -/
theorem enterMuted (h : SlotsKept P s t) (hP : ∀ j, P j → j < Config.slots) (sender : Nat) (kind : Option FrameKind) :
    SlotsKept P s (t.enterMuted sender kind) := by
  have hreviewed : ∀ (ks : List Nat) (v : State), SlotsKept (fun j => P j ∧ j ∉ ks) s v →
      SlotsKept P s (ks.foldl (fun w k => w.reviewSupply k) v) := by
    intro ks
    induction ks with
    | nil => exact fun v hv => hv.mono fun _ hj => ⟨hj, List.not_mem_nil⟩
    | cons k ks ih =>
      exact fun v hv => ih _ (hv.reviewed k fun j hj hne => ⟨hj.1, List.not_mem_cons_of_ne_of_not_mem hne hj.2⟩)
  have hmuted : SlotsKept P s (t.reviewed Config.slots) := onHall (hreviewed (List.range Config.slots) _
    (h.mapSlots (u := t.silenced) rfl Slot.Follows.muting fun j hj => absurd (List.mem_range.mpr (hP j hj.1)) hj.2)) _
  rw [enterMuted_eq]
  exact (hmuted.notify _).besideAlloc (alloc_refuseMuted _)

/-! ### Owed items (R157) -/

/-- Owed items enter the queue. -/
theorem entered (h : SlotsKept P s t) (hentered : EntryKept t u) : SlotsKept P s u := by
  refine h.trans ⟨hentered.length, fun k x hx => ?_⟩
  obtain ⟨y, hy, hunowed⟩ := hentered.slot hx
  have hclaim : y.claim.block? = x.claim.block? := by
    rcases hentered.claims k x y hx hy with hsame | ⟨b, howed, hqueued⟩
    · rw [hsame]
    · rw [howed, hqueued]
      rfl
  exact ⟨y, hy, .of_unowed hunowed hclaim, fun _ hsupplied => hsupplied.of_unowed hunowed hclaim⟩

theorem offerOwed (h : SlotsKept P s t) : SlotsKept P s t.offerOwed := by
  obtain ⟨_, hoffered, -⟩ := offered_owedItems t.owedItems (s := t) rfl
  exact .ite (h.entered hoffered.kept) h

theorem offerSlot (h : SlotsKept P s t) (k : Nat) : SlotsKept P s (t.offerSlot k) := by
  have hoffered := SlotOffered.offerSlot k t
  refine h.trans ⟨?_, fun j x hx => ?_⟩
  · unfold State.offerSlot
    split
    · rfl
    · exact length_foldl_offerItem _ t
  · by_cases hj : k = j
    · subst hj
      obtain ⟨y, hy, hunowed, hclaim, -⟩ := hoffered.slot x hx
      exact ⟨y, hy, .of_unowed hunowed hclaim, fun _ hsupplied => hsupplied.of_unowed hunowed hclaim⟩
    · exact ⟨x, (hoffered.others j hj).trans hx, .refl x, fun _ => id⟩

end SlotsKept

end Sys2Proof.Machine
end

section
/-! START (R107, R153, R182): the slots it configures, and the station that joins the hall or is MUTED. -/

namespace Sys2Proof.Machine

/-! ### The configured slots (R107) -/

/-- A slot that is sound, with a current supply state, and to which a muting does nothing. -/
structure Slot.Fresh (x : Slot) : Prop where
  sound : x.sound
  supplied : x.Supplied
  muted : x.muted = x

/-- A configured product slot is fresh where its window has a block (R107, R110, R111). -/
theorem fresh_configured {p : Product} (hcount : 1 ≤ p.count) : (Slot.configured p).Fresh := by
  unfold Slot.configured
  split
  · refine ⟨⟨List.length_replicate, fun _ hb => absurd hb List.not_mem_nil, fun _ hb => (nomatch hb), List.nodup_nil,
      fun h => absurd rfl h, fun _ hc => (nomatch hc), fun _ => ⟨rfl, rfl⟩⟩, ?_, rfl⟩
    rw [Slot.Supplied, supplyOf_table]
    simp [Nat.ne_of_gt hcount]
  · exact ⟨⟨rfl, fun _ hb => absurd hb List.not_mem_nil, fun _ hb => (nomatch hb), List.nodup_nil, fun h => absurd rfl h,
      fun _ hc => (nomatch hc), fun _ => ⟨rfl, rfl⟩⟩, rfl, rfl⟩

/-- An accepted START configures fresh slots (R107, R182). -/
theorem fresh_started {b : StartBody} (hgood : startGood b = true) :
    ∀ x ∈ (startSetup b).products.map Slot.configured, x.Fresh := fun x hx => by
  obtain ⟨-, -, hproducts, -⟩ := (startGood_iff b).mp hgood
  obtain ⟨p, hp, rfl⟩ := List.mem_map.mp hx
  obtain ⟨r, hr, rfl⟩ := List.mem_map.mp hp
  obtain ⟨-, -, -, ⟨hcount, -⟩, -⟩ := (productGood_iff r).mp (hproducts r hr)
  exact fresh_configured hcount

/-- Muting finds nothing to end in fresh slots and no supply state to change (R111, R133). -/
theorem reviewed_fresh {s : State} (h : ∀ x ∈ s.alloc.slots, x.Fresh) (n : Nat) :
    s.silenced.alloc = s.alloc ∧ s.reviewed n = s.silenced.onHall fun x => { x with failures := 0, lineFault := false } := by
  have hslots : s.alloc.slots.map Slot.muted = s.alloc.slots :=
    (List.map_congr_left fun x hx => (h x hx).muted).trans (List.map_id _)
  have hreviews : ∀ ks : List Nat, ks.foldl (fun t k => t.reviewSupply k) s.silenced = s.silenced := by
    intro ks
    induction ks with
    | nil => rfl
    | cons k ks ih =>
      have hsame : s.silenced.reviewSupply k = s.silenced := reviewSupply_supplied fun x hx =>
        (h x (hslots ▸ List.mem_of_getElem? hx)).supplied
      rw [List.foldl_cons, hsame, ih]
  refine ⟨congrArg (fun l => { s.alloc with slots := l }) hslots, ?_⟩
  rw [State.reviewed, hreviews]

/-- The acceptance of START at the controller leaves fresh slots as they are (R153). -/
theorem alloc_joinHall {s : State} (h : ∀ x ∈ s.alloc.slots, x.Fresh) (group : Nat) :
    (s.joinHall group).alloc = s.alloc := by
  have hmuted : ∀ (u : State) (sender : Nat), u.alloc = s.alloc → (u.enterMuted sender none).alloc = s.alloc :=
    fun u sender hu => by
      obtain ⟨hsilenced, hreviewed⟩ := reviewed_fresh (s := u) (hu ▸ h) Config.slots
      rw [enterMuted_eq, State.mutedBy, alloc_refuseMuted, hreviewed]
      exact hsilenced.trans hu
  unfold State.joinHall
  dsimp only
  split
  · rw [State.modifyPeer_alloc]
    exact hmuted (s.onHall _) _ rfl
  · rfl

/-- An accepted START leaves the slots as it has configured them (R107, R182). -/
theorem alloc_takeStart {b : StartBody} (hgood : startGood b = true) (r : RequestRef) (s : State) :
    (s.takeStart r b).alloc = { s.alloc with slots := (startSetup b).products.map Slot.configured } := by
  have hjoined := alloc_joinHall (s := s.configure (startSetup b)) (fresh_started hgood) b.group
  rw [State.takeStart, if_pos hgood, alloc_done, hjoined]
  rfl

/-! ### The event of START (R153, R182) -/

/-- START has been accepted by every block but the controller, which has done step 1 of R153. -/
def State.configuredBy (b : StartBody) (s : State) : State :=
  (s.configure (startSetup b)).onHall fun h => { h with peers := h.peers.map (Peer.keepGroup b.group) }

/-- A START that is taken ends as its acceptance at the controller and DONE say (R182). -/
theorem exec_start_accepted {tag : Nat} {body : StartBody} {s : State} (hsetup : s.setup = none)
    (hroom : s.link.full 1 = false) (hgood : startGood body = true) {u : State}
    (hjoined : ((s.taken tag 1).configure (startSetup body)).joinHall body.group = u) :
    exec (.start tag body) s =
      .next ((u.done (s.nextRef tag) (.start u.hall.station u.hall.state)).finish s.link.nextId .owedFirst) := by
  have hunstarted : ¬ s.started = true := by simp [State.started, hsetup]
  have howner : (s.taken tag 1).handEarly (s.nextRef tag) (.start body) =
      u.done (s.nextRef tag) (.start u.hall.station u.hall.state) := by
    show State.takeStart _ _ _ = _
    rw [State.takeStart, if_pos hgood, hjoined]
  rw [exec_request rfl, takeWhole_taken tag (.start body) s hroom, if_neg hunstarted]
  exact congrArg (fun v : State => Host.Outcome.next (v.finish s.link.nextId .owedFirst)) howner

/-- Fresh slots, rows without a BAGNEXT and no owed CUTOVER: the JOIN is all that is owed (R153, R157). -/
theorem owedItems_join {s : State} (hslots : ∀ x ∈ s.alloc.slots, x.Fresh) (hcutover : s.tariff.owedCutover = none)
    (hrows : ∀ r ∈ s.bags.rows, r.owed = none) (hjoin : s.hall.owedJoin = true) : s.owedItems = [.join] := by
  have hnone : ∀ {α : Type} {g : Nat → α → List OwedItem} {l : List α}, (∀ x ∈ l, ∀ k, g k x = []) → perIndex g l = [] :=
    fun {_ g l} hg => List.eq_nil_iff_forall_not_mem.mpr fun i hi => by
      obtain ⟨k, x, hx, hmem⟩ := (mem_perIndex g l i).mp hi
      rw [hg x (List.mem_of_getElem? hx) k] at hmem
      exact List.not_mem_nil hmem
  have howes : ∀ x ∈ s.alloc.slots, x.owedHeld = [] ∧ x.owedClaim = [] ∧ x.holdsOwed = false ∧ x.owedSpent = [] := by
    intro x hx
    have hmuted := (hslots x hx).muted
    have hclaim : x.muted.owedClaim = [] := by
      unfold Slot.owedClaim Slot.muted
      cases x.claim <;> rfl
    exact ⟨(congrArg Slot.owedHeld hmuted).symm, hmuted ▸ hclaim, (congrArg Slot.holdsOwed hmuted).symm,
      (congrArg Slot.owedSpent hmuted).symm⟩
  have hheld : perIndex heldOf s.alloc.slots = [] := hnone fun x hx _ => by
    obtain ⟨hx, -⟩ := howes x hx
    rw [heldOf, hx, List.map_nil]
  have hclaim : perIndex claimOf s.alloc.slots = [] := hnone fun x hx _ => by
    obtain ⟨-, hx, -⟩ := howes x hx
    rw [claimOf, hx, List.map_nil]
  have hholds : perIndex holdsOf s.alloc.slots = [] := hnone fun x hx _ => by
    obtain ⟨-, -, hx, -⟩ := howes x hx
    rw [holdsOf, hx, if_neg Bool.false_ne_true]
  have hspent : perIndex spentOf s.alloc.slots = [] := hnone fun x hx _ => by
    obtain ⟨-, -, -, hx⟩ := howes x hx
    rw [spentOf, hx, List.map_nil]
  have hbagnext : perIndex bagnextOf s.bags.rows = [] := hnone fun r hr _ => by
    rw [bagnextOf, hrows r hr, Option.toList_none, List.map_nil]
  rw [owedItems_eq, itemsOwed, hheld, hclaim, hholds, hspent, hbagnext, hcutover, hjoin]
  rfl

/-- A station whose own number has not been heard in the group joins (R153). -/
theorem joinHall_joining {b : StartBody} {s : State}
    (hpeer : ∀ p, s.hall.peers[s.hall.station]? = some p → p.liveness = .live → p.lastGroup ≠ some b.group) :
    (s.configure (startSetup b)).joinHall b.group =
      (((s.configuredBy b).modifyPeer s.hall.station Peer.forget).onHall fun h =>
        { h with state := .joining, owedJoin := true, silence := 0 }).dueOffer := by
  refine if_neg fun hlive => ?_
  have hlive : ((s.hall.peers.map (Peer.keepGroup b.group))[s.hall.station]?).map (·.liveness) = some .live := hlive
  rw [List.getElem?_map, Option.map_map, Option.map_eq_some_iff] at hlive
  obtain ⟨p, hp, hlive⟩ := hlive
  by_cases hgroup : p.lastGroup = some b.group
  · rw [Function.comp_apply, Peer.keepGroup, if_pos hgroup] at hlive
    exact hpeer p hp hlive hgroup
  · rw [Function.comp_apply, Peer.keepGroup, if_neg hgroup] at hlive
    cases hlive

/-- A station whose own number has been heard in the group is MUTED (R153, R169). -/
theorem joinHall_muted {b : StartBody} {p : Peer} {s : State} (hgood : startGood b = true)
    (hpending : s.quotes.pendingOrder = []) (hp : s.hall.peers[s.hall.station]? = some p) (hlive : p.liveness = .live)
    (hgroup : p.lastGroup = some b.group) :
    (s.configure (startSetup b)).joinHall b.group =
      ((((s.configuredBy b).silenced.onHall fun h => { h with failures := 0, lineFault := false }).notify
        (.muted s.hall.station s.hall.station none)).modifyPeer s.hall.station Peer.forget) := by
  have hkept : ((s.hall.peers.map (Peer.keepGroup b.group))[s.hall.station]?).map (·.liveness) = some .live := by
    rw [List.getElem?_map, hp, Option.map_some, Peer.keepGroup, if_pos hgroup, Option.map_some, hlive]
  obtain ⟨-, hreviewed⟩ := reviewed_fresh (s := s.configuredBy b) (fresh_started hgood) Config.slots
  have hnone : ∀ u : State, u.quotes.pendingOrder = [] → u.refuseMuted = u := fun u hu => by
    rw [State.refuseMuted, hu, List.foldl_nil]
  have hmuted : (s.configuredBy b).enterMuted s.hall.station none =
      ((s.configuredBy b).silenced.onHall fun h => { h with failures := 0, lineFault := false }).notify
        (.muted s.hall.station s.hall.station none) := by
    rw [enterMuted_eq, State.mutedBy, hreviewed, hnone]
    · rfl
    · exact hpending
  rw [← hmuted]
  exact if_pos hkept

/-- The JOIN, alone owed, enters an empty queue (R153, R157). -/
theorem offerOwed_join {s : State} (howed : s.owedItems = [.join]) (hsends : s.sends = true) (hqueue : s.hall.queue = []) :
    s.offerOwed = { s with
      hall := { s.hall with
        queue := [{ frame := s.buildFrame (.join ((s.setup.map (·.office)).getD 0)), check := none }]
        owedJoin := false } } := by
  have hadmits : admits s.hall.queue OwedItem.join.frameClass = true := by
    rw [hqueue]
    rfl
  rw [State.offerOwed, if_pos hsends, howed, List.foldl_cons, List.foldl_nil, State.offerItem, if_pos hadmits, State.settleItem,
    State.enqueue_hall, hqueue]
  rfl

/-- The reply to START, when its event has produced nothing else, at the counter link (R178, R179). -/
theorem flush_done_link {tag kind : Nat} {b : DoneBody} {s u : State} (hclear : s.scratch = .clear)
    (hproduced : u.scratch.produced = s.scratch.produced) (hlink : u.link = (s.taken tag kind).link) :
    ((u.done (s.nextRef tag) b).flush s.link.nextId).link = (s.answered tag kind (.done b)).link := by
  have hreply : (u.done (s.nextRef tag) b).scratch.produced = [.reply (some s.link.nextId) tag (.done b)] := by
    show u.scratch.produced ++ _ = _
    rw [hproduced, hclear]
    rfl
  rw [State.flush_link, hreply, ownFirst_single]
  exact congrArg (fun l : Link => l.accept (.reply (some s.link.nextId) tag (.done b))) hlink

/-- The reply to START that mutes the station comes before the MUTED notice (R169, R179). -/
theorem flush_notify_done_link {tag kind : Nat} {n : Notice} {b : DoneBody} {s u : State} (hclear : s.scratch = .clear)
    (hproduced : u.scratch.produced = s.scratch.produced ++ [.notice s.link.noticeSeq n])
    (hlink : u.link = { (s.taken tag kind).link with noticeSeq := (s.link.noticeSeq + 1) % 256 }) :
    ((u.done (s.nextRef tag) b).flush s.link.nextId).link = ((s.answered tag kind (.done b)).noticed n).link := by
  have hproduced : (u.done (s.nextRef tag) b).scratch.produced =
      [.notice s.link.noticeSeq n, .reply (some s.link.nextId) tag (.done b)] := by
    show u.scratch.produced ++ _ = _
    rw [hproduced, hclear]
    rfl
  have hfirst : ownFirst s.link.nextId [.notice s.link.noticeSeq n, .reply (some s.link.nextId) tag (.done b)] =
      [.reply (some s.link.nextId) tag (.done b), .notice s.link.noticeSeq n] := by
    simp [ownFirst, OutMsg.answers, OutMsg.isReply]
  have hseq : ((s.answered tag kind (.done b)).link).noticeSeq = s.link.noticeSeq := by
    obtain ⟨-, -, hseq, -⟩ := foldl_accept_outstanding [.reply (some s.link.nextId) tag (.done b)] (s.taken tag kind).link
    exact hseq
  have hdone : (u.done (s.nextRef tag) b).link = { (s.taken tag kind).link with noticeSeq := (s.link.noticeSeq + 1) % 256 } :=
    hlink
  rw [State.flush_link, hproduced, hfirst, hdone, foldl_accept_noticeSeq, ← hseq]
  rfl

/-- The peers after the acceptance of START, but for the station's own entry (R153). -/
def State.groupPeers (group : Nat) (s : State) : List Peer :=
  s.hall.peers.map fun p =>
    if p.lastGroup = some group then p else { p with liveness := .absent, ageMs := 0, office := none }

/-- The whole event of a START by which the station joins the hall (R153, R182). -/
theorem exec_start_joins {tag : Nat} {body : StartBody} {s : State} (hclear : s.scratch = .clear) (hsetup : s.setup = none)
    (hroom : s.link.full 1 = false) (hgood : startGood body = true) (hqueue : s.hall.queue = [])
    (hcutover : s.tariff.owedCutover = none) (hrows : ∀ r ∈ s.bags.rows, r.owed = none)
    (hpeer : ∀ p, s.hall.peers[s.hall.station]? = some p → p.liveness = .live → p.lastGroup ≠ some body.group) :
    exec (.start tag body) s = .next
      { s with
        setup := some (startSetup body)
        alloc := { s.alloc with slots := (startSetup body).products.map Slot.configured }
        hall :=
        { s.hall with
          state := .joining, silence := 0, owedJoin := false
          queue := [{ frame := { station := s.hall.station, group := body.group, body := .join body.office }, check := none }]
          peers := (s.groupPeers body.group).modify s.hall.station Peer.forget }
        link := (s.answered tag 1 (.done (.start s.hall.station .joining))).link, scratch := .clear } := by
  obtain ⟨u, hu⟩ : ∃ u : State, u =
      ((((s.taken tag 1).configuredBy body).modifyPeer s.hall.station Peer.forget).onHall fun h =>
        { h with state := .joining, owedJoin := true, silence := 0 }).dueOffer := ⟨_, rfl⟩
  have hjoined : ((s.taken tag 1).configure (startSetup body)).joinHall body.group = u := by
    rw [hu]
    exact joinHall_joining (s := s.taken tag 1) hpeer
  obtain ⟨hstation, hstate⟩ : u.hall.station = s.hall.station ∧ u.hall.state = .joining := by
    rw [hu]
    exact ⟨rfl, rfl⟩
  have hlink : ((u.done (s.nextRef tag) (.start s.hall.station .joining)).flush s.link.nextId).link =
      (s.answered tag 1 (.done (.start s.hall.station .joining))).link :=
    flush_done_link hclear (by rw [hu]; rfl) (by rw [hu]; rfl)
  have howed : ((u.done (s.nextRef tag) (.start s.hall.station .joining)).flush s.link.nextId).owedItems = [.join] :=
    owedItems_join (by rw [hu]; exact fresh_started hgood) (by rw [hu]; exact hcutover) (by rw [hu]; exact hrows)
      (by rw [hu]; rfl)
  rw [exec_start_accepted hsetup hroom hgood hjoined, hstation, hstate,
    finish_offer _ _ (by rw [hu]; rfl) (by rw [hu]; exact congrArg Scratch.serveDue hclear),
    offerOwed_join howed (by rw [hu]; rfl) (by rw [hu]; exact hqueue), hlink, hu]
  rfl

/-- The whole event of a START that mutes the station (R153, R169, R182). -/
theorem exec_start_mutes {tag : Nat} {body : StartBody} {p : Peer} {s : State} (hclear : s.scratch = .clear)
    (hsetup : s.setup = none) (hroom : s.link.full 1 = false) (hgood : startGood body = true)
    (hpending : s.quotes.pendingOrder = []) (hp : s.hall.peers[s.hall.station]? = some p) (hlive : p.liveness = .live)
    (hgroup : p.lastGroup = some body.group) :
    exec (.start tag body) s = .next
      { s with
        setup := some (startSetup body)
        alloc := { s.alloc with slots := (startSetup body).products.map Slot.configured }
        tariff := { s.tariff with owedCutover := none }
        bags := { s.bags with rows := s.bags.rows.map fun r => { r with owed := none } }
        hall :=
        { s.hall with
          state := .muted, census := none, queue := [], attempt := none, owedJoin := false, silence := 0, failures := 0
          lineFault := false, peers := (s.groupPeers body.group).modify s.hall.station Peer.forget }
        link := ((s.answered tag 1 (.done (.start s.hall.station .muted))).noticed
          (.muted s.hall.station s.hall.station none)).link
        scratch := .clear } := by
  obtain ⟨u, hu⟩ : ∃ u : State, u = ((((s.taken tag 1).configuredBy body).silenced.onHall fun h =>
      { h with failures := 0, lineFault := false }).notify (.muted s.hall.station s.hall.station none)).modifyPeer
        s.hall.station Peer.forget := ⟨_, rfl⟩
  have hmuted : ((s.taken tag 1).configure (startSetup body)).joinHall body.group = u := by
    rw [hu]
    exact joinHall_muted (s := s.taken tag 1) hgood hpending hp hlive hgroup
  obtain ⟨hstation, hstate⟩ : u.hall.station = s.hall.station ∧ u.hall.state = .muted := by
    rw [hu]
    exact ⟨rfl, rfl⟩
  have hlink : ((u.done (s.nextRef tag) (.start s.hall.station .muted)).flush s.link.nextId).link =
      ((s.answered tag 1 (.done (.start s.hall.station .muted))).noticed (.muted s.hall.station s.hall.station none)).link :=
    flush_notify_done_link hclear (by rw [hu]; rfl) (by rw [hu]; rfl)
  have halloc : u.alloc = { s.alloc with slots := (startSetup body).products.map Slot.configured } := by
    obtain ⟨hsilenced, -⟩ := reviewed_fresh (s := (s.taken tag 1).configuredBy body) (fresh_started hgood) Config.slots
    rw [hu]
    exact hsilenced
  have hend : (u.done (s.nextRef tag) (.start s.hall.station .muted)).flush s.link.nextId =
      { u with
        link := ((u.done (s.nextRef tag) (.start s.hall.station .muted)).flush s.link.nextId).link, scratch := .clear } := rfl
  rw [exec_start_accepted hsetup hroom hgood hmuted, hstation, hstate,
    finish_quiet _ _ _ (by rw [hu]; exact congrArg Scratch.offerDue hclear)
      (by rw [hu]; exact congrArg Scratch.serveDue hclear),
    hend, hlink]
  have hparts : u = { u with alloc := { s.alloc with slots := (startSetup body).products.map Slot.configured } } := by
    rw [← halloc]
  rw [hparts, hu]
  rfl

/-- Settles O13: START configures the slots as `Slot.configured` says, and the station joins (`exec_start_joins`) or is MUTED
(`exec_start_mutes`). -/
theorem startConfiguresAndJoins : Obligations.StartConfiguresAndJoins := by
  refine ⟨fun body => rfl, fun p => ⟨fun henabled => if_pos henabled, fun hdisabled => ?_⟩, ?_, ?_⟩
  · rw [Slot.configured, if_neg (Bool.eq_false_iff.mp hdisabled)]
    exact ⟨rfl, rfl, rfl, rfl, rfl, rfl, rfl, rfl, rfl, rfl, rfl, rfl⟩
  · intro tag body s hclear hsetup hroom hgood _ hqueue hcutover hrows hpeer
    exact ⟨_, exec_start_joins hclear hsetup hroom hgood hqueue hcutover hrows hpeer,
      rfl, rfl, rfl, rfl, rfl, rfl, rfl, rfl, rfl, rfl, rfl, rfl, rfl⟩
  · intro tag body p s hclear hsetup hroom hgood _ hpending hp hlive hgroup
    have hown : ((s.groupPeers body.group).modify s.hall.station Peer.forget)[s.hall.station]? =
        some { p with liveness := .absent, ageMs := 0, office := none } := by
      rw [List.getElem?_modify, State.groupPeers, List.getElem?_map, hp, Option.map_some, if_pos hgroup]
      exact congrArg some (if_pos rfl)
    exact ⟨_, exec_start_mutes hclear hsetup hroom hgood hpending hp hlive hgroup,
      rfl, rfl, rfl, rfl, rfl, rfl, hown, rfl, rfl, rfl, rfl⟩

end Sys2Proof.Machine
end

section
/-! The product slots through completions and the end of an event, the hall line, the requests and every command (R107, R108,
R110, R111). -/

namespace Sys2Proof.Machine

/-- A quote that can complete draws from the current block of its product's slot (R96). -/
theorem completable_current {s : State} {q : Quote} {k : Nat} {c : CurrentBlock} (h : s.completable q = some (k, c)) :
    ∀ x, s.alloc.slots[k]? = some x → x.current = some c := by
  intro x hx
  unfold State.completable at h
  split at h
  · split at h
    · cases h
    · rename_i j _
      split at h
      · cases h
      · rename_i d hd
        split at h
        · cases h
          rwa [hx] at hd
        · cases h
  · cases h

namespace SlotsKept

variable {P : Nat → Prop} {s t : State}

/-! ### Completions and the end of an event -/

/-- A completion draws a serial, and what that made owed is offered (R97). -/
theorem complete (h : SlotsKept P s t) {q : Quote} {k : Nat} {c : CurrentBlock} (hcan : t.completable q = some (k, c))
    (commit : RequestRef) : SlotsKept P s (t.complete q commit k c) := by
  have hdrawn : SlotsKept P s ((t.leaving q).drawSerial k c).1 := by
    have hleft : SlotsKept P s { t.leaving q with scratch := { t.scratch with offerDue := false } } := h.beside rfl
    exact (hleft.issueSerial (completable_current hcan)).beside rfl
  have hposted : SlotsKept P s (t.parcelled q k c) := by
    have hentered : ∀ body, SlotsKept P s
        ((((t.leaving q).drawSerial k c).1.assignBag q.result.route q.result.wa).enqueue body) := fun _ => hdrawn.beside rfl
    exact .ite ((hentered _).offerSlot k) (hentered _)
  rw [complete_eq]
  exact (hposted.reply _ _).besideAlloc (alloc_dropRef _ _)

theorem judgeEntry (h : SlotsKept P s t) (n : Nat) : SlotsKept P s (t.judgeEntry n) := by
  rcases judgeEntry_cases t n with hnot | ⟨q, ref, k, c, hq, hstate, hcan⟩
  · rwa [judgeEntry_not hnot]
  · rw [judgeEntry_complete hq hstate hcan]
    exact h.complete hcan ref

/-- What an event makes due, and its messages (R95, R157, R179). -/
theorem finish (h : SlotsKept P s t) (own : Nat) (order : RoomOrder) : SlotsKept P s (t.finish own order) := by
  have hserve : ∀ v : State, SlotsKept P s v → SlotsKept P s v.serveIfDue := fun _ hv =>
    .ite (hv.foldl (fun _ n hw => hw.judgeEntry n) _) hv
  have hoffer : ∀ v : State, SlotsKept P s v → SlotsKept P s v.offerIfDue := fun _ hv => .ite hv.offerOwed hv
  cases order with
  | servingFirst => exact (hoffer _ (hserve _ h)).beside rfl
  | owedFirst => exact (hserve _ (hoffer _ h)).beside rfl

/-! ### The hall line -/

/-- A frame is handed to its owners (8.2). -/
theorem hand (h : SlotsKept P s t) (f : Frame) : SlotsKept P s (t.hand f) := by
  unfold State.hand
  split
  · exact h.joinHeard
  · exact h.holdsHeard _ _ _
  · exact h
  · exact h.claimHeard _ _ _
  · exact h.heldHeard _ _ _
  · exact h.spentHeard _ _ _
  · exact (h.besideAlloc (alloc_postedAtBags _ _ _ t)).postedHeard _ _ _
  · exact h.besideAlloc (alloc_bagnextHeard _ _ t)
  · exact h.besideAlloc (alloc_cutoverHeard _ _ t)

theorem hearFrame (h : SlotsKept P s t) (hP : ∀ j, P j → j < Config.slots) (f : Frame) (order : RoomOrder) :
    SlotsKept P s (hearFrame f order t) := by
  have hack : SlotsKept P s (t.acknowledge true) := h.beside rfl
  have hcredited : SlotsKept P s ((t.acknowledge true).credit f) := h.beside rfl
  refine finish ?_ _ _
  exact .ite hcredited (.ite hack (.ite (.ite hack (hack.enterMuted hP _ _)) (hcredited.hand f)))

/-- A CLAIM that has been sent goes into HOLDOFF (R115, R163). -/
theorem transmitted (h : SlotsKept P s t) (f : Frame) (acknowledged : Bool) : SlotsKept P s (t.transmitted f acknowledged) := by
  have hsent : ∀ v : State, SlotsKept P s v → SlotsKept P s (v.frameSent f) := fun v hv => by
    unfold State.frameSent State.claimSent
    split
    · rename_i letter block _
      split
      · exact hv
      · have hclaim : ∀ x : Slot,
            (if x.claim = .queued block then { x with claim := .holdoff block Config.holdoffMs } else x) =
              { x with claim := if x.claim = .queued block then .holdoff block Config.holdoffMs else x.claim } := fun x => by
          split <;> rfl
        simp only [hclaim]
        refine hv.reclaimSlot _ fun x _ => ?_
        split
        · rename_i hqueued
          rw [hqueued]
          rfl
        · rfl
    · exact hv.beside rfl
    all_goals exact hv
  exact (hsent _ (h.onHall _)).dueOffer.dueServe

theorem endCensus (h : SlotsKept P s t) : SlotsKept P s t.endCensus :=
  (foldl ((h.onHall _).notify _) (fun _ k hw => hw.testNeed k) _).dueServe

/-! ### The requests -/

/-- A request after START, handed to its owner (R181). -/
theorem handRequest (h : SlotsKept P s t) (r : RequestRef) (request : Request) : SlotsKept P s (t.handRequest r request) := by
  have hrefused : SlotsKept P s (t.refuse r .badRequest) := h.refuse _ _
  cases request with
  | mapLoad letter startBlock span => exact .ite (h.mapLoad _ _ _ _) hrefused
  | logTake => exact h.beside (slots_logTake r t)
  | rate body => exact .ite (h.besideAlloc (alloc_takeRate _ _ t)) hrefused
  | commit number => exact .ite (h.besideAlloc (alloc_takeCommit _ _ t)) hrefused
  | cancel number => exact .ite (h.besideAlloc (alloc_takeCancel _ _ t)) hrefused
  | bagClose route => exact .ite (h.besideAlloc (alloc_bagClose _ _ t)) hrefused
  | start | unknown => exact h.refuse _ _
  | status sect => exact h.besideAlloc (alloc_takeStatus _ _ t)
  | restart => exact h.besideAlloc (alloc_takeRestart _ t)
  | zero => exact h.besideAlloc (alloc_takeZero _ t)
  | bankOpen bank openDefault => exact h.besideAlloc (alloc_bankOpen _ _ _ t)
  | cell letter zone bandCount => exact h.besideAlloc (alloc_loadCell _ _ _ _ t)
  | band u p0 i sw p1 => exact h.besideAlloc (alloc_loadBand _ _ _ _ _ _ t)
  | zone low high zone route flags => exact h.besideAlloc (alloc_loadZone _ _ _ _ _ _ t)
  | surch letter oversize irregular remoteRate unit price => exact h.besideAlloc (alloc_loadSurch _ _ _ _ _ _ _ t)
  | bankClose version count sum => exact h.besideAlloc (alloc_bankClose _ _ _ _ t)
  | swap bank scope => exact h.besideAlloc (alloc_swap _ _ _ t)

end SlotsKept

/-! ### Slots afresh (R107, R134) -/

/-- The slots are sound and their supply states current, whatever they were before; and eight where `eight` holds. -/
structure SlotsRenewed (eight : Prop) (t : State) : Prop where
  sound : SlotsSound t
  current : SuppliesCurrent t
  length : eight → t.alloc.slots.length = 8

/-- What every slot keeps leaves them so. -/
theorem SlotsRenewed.kept {eight : Prop} {t u : State} (h : SlotsRenewed eight t) (hkept : SlotsKept (fun _ => True) t u) :
    SlotsRenewed eight u :=
  ⟨hkept.slotsSound h.sound, hkept.suppliesCurrent (fun _ _ => trivial) h.current, fun he => hkept.length.trans (h.length he)⟩

/-- A START has the eight product records of its layout (R195). -/
def EightProducts : Request → Prop
  | .start body => body.products.length = 8
  | _ => True

/-- A request keeps the slots, unless it is the START of a part without configuration, which configures them afresh. -/
theorem slots_takeRequest (P : Nat → Prop) (tag : Nat) (request : Request) (s : State) :
    SlotsKept P s (s.takeRequest tag request)
      ∨ s.setup = none ∧ SlotsRenewed (EightProducts request) (s.takeRequest tag request) := by
  have h := SlotsKept.refl P s
  unfold State.takeRequest
  split
  · exact .inl (.ite (h.beside rfl) (h.beside rfl))
  · have hjoined : SlotsKept P s (s.onLink (Link.join tag request.kind)) := h.beside rfl
    dsimp only
    split
    · exact .inl (hjoined.handRequest _ _)
    · rename_i hstarted
      have hsetup : s.setup = none := by simpa [State.started] using hstarted
      cases request with
      | start body =>
        by_cases hgood : startGood body = true
        · refine .inr ⟨hsetup, ?_⟩
          have hslots : (((s.onLink (Link.join tag 1)).takeStart { id := s.link.nextId, tag := tag } body).alloc.slots) =
              (startSetup body).products.map Slot.configured := congrArg Allocator.slots (alloc_takeStart hgood _ _)
          refine ⟨fun x hx => ?_, fun x hx => ?_, fun height => ?_⟩
          · exact (fresh_started hgood x (hslots ▸ hx)).sound
          · exact (fresh_started hgood x (hslots ▸ hx)).supplied
          · rw [State.handEarly, Request.kind, hslots, List.length_map]
            exact (List.length_map _).trans height
        · refine .inl ?_
          rw [State.handEarly, State.takeStart, if_neg hgood]
          exact hjoined.refuse _ _
      | status sect => exact .inl (hjoined.besideAlloc (alloc_takeStatus _ _ _))
      | _ => exact .inl (hjoined.refuse _ _)

/-- The taking of a request and the end of its event. -/
theorem slots_takeWhole (P : Nat → Prop) (tag : Nat) (request : Request) (s : State) :
    SlotsKept P s (takeWhole tag request s)
      ∨ s.setup = none ∧ SlotsRenewed (EightProducts request) (takeWhole tag request s) :=
  (slots_takeRequest P tag request s).imp (fun h => h.finish _ _) fun ⟨hsetup, h⟩ =>
    ⟨hsetup, h.kept ((SlotsKept.refl _ _).finish _ _)⟩

/-- A received message is a START of eight product records, or another request (R195). -/
theorem eightProducts_receivedRequest (declared : Nat) (received : List Byte) :
    EightProducts (receivedRequest declared received).2 := by
  unfold receivedRequest requestOfBody
  split <;> trivial

/-- A byte keeps the slots, unless it is the last of a START's message (R175). -/
theorem slots_takeByte (P : Nat → Prop) (byte : Byte) (framingError : Bool) (s : State) :
    SlotsKept P s (s.takeByte byte framingError)
      ∨ s.setup = none ∧ SlotsRenewed True (s.takeByte byte framingError) := by
  have h := SlotsKept.refl P s
  have hlink : ∀ f : Link → Link, SlotsKept P s (s.onLink f) := fun _ => h.beside rfl
  unfold State.takeByte
  dsimp only
  split
  · exact .inl (.ite (hlink _) h)
  · exact .inl (.ite (hlink _) (.ite (hlink _) (.ite (hlink _) (hlink _))))
  · exact .inl (.ite (hlink _) (hlink _))
  · split
    · exact .inl (hlink _)
    · split
      · exact .inl (hlink _)
      · split
        · have height := eightProducts_receivedRequest s.link.declared (s.link.hold byte).received
          refine (slots_takeRequest P _ _ (s.onLink Link.hunting)).imp (hlink _).trans fun ⟨hsetup, hrenewed⟩ =>
            ⟨hsetup, ?_⟩
          exact ⟨hrenewed.sound, hrenewed.current, fun _ => hrenewed.length height⟩
        · exact .inl (hlink _)

/-! ### The commands -/

/-- Power-on makes eight slots that are OFF (R134). -/
theorem slotsRenewed_powerOn (eight : Prop) (straps : Nat) (pending : List Instr) (draws : Nat) :
    SlotsRenewed eight { State.powerOn straps pending with draws := draws } :=
  ⟨fun _ hx => List.eq_of_mem_replicate hx ▸ Slot.sound_off, fun _ hx => List.eq_of_mem_replicate hx ▸ rfl, fun _ => rfl⟩

/-- A command keeps the slots, unless it is POWER_ON_RESET or makes the START of a part without configuration, which make
them afresh. -/
theorem slots_of_exec {s t : State} (i : Instr) (hexec : exec i s = .next t) :
    SlotsKept (· < Config.slots) s t
      ∨ ((∃ straps, i = .powerOnReset straps) ∨ s.setup = none) ∧ SlotsRenewed (i.wf = true) t := by
  have h := SlotsKept.refl (· < Config.slots) s
  have hlater := fun d => h.elapse d
  cases i with
  | powerOnReset straps =>
    cases hexec
    exact .inr ⟨.inl ⟨straps, rfl⟩, slotsRenewed_powerOn _ _ _ _⟩
  | start tag body =>
    cases hexec
    refine (slots_takeWhole _ tag (.start body) s).imp id fun ⟨hsetup, hrenewed⟩ => ⟨.inr hsetup, ?_⟩
    refine ⟨hrenewed.sound, hrenewed.current, fun hwf => hrenewed.length ?_⟩
    simp only [Instr.wf, Instr.request?, Request.wf, StartBody.wf, Bool.and_eq_true, decide_eq_true_eq] at hwf
    obtain ⟨-, ⟨-, height⟩, -⟩ := hwf
    exact height
  | status tag sect | restart tag | zero tag | mapLoad tag letter startBlock span | logTake tag
  | bankOpen tag bank openDefault | cell tag letter zone bandCount | band tag u p0 i sw p1
  | zone tag low high zone route flags | surch tag letter oversize irregular remoteRate unit price
  | bankClose tag version count sum | swap tag bank scope | rate tag body | commit tag number | cancel tag number
  | bagClose tag route | unknownRequestKind tag kind =>
    cases hexec
    exact (slots_takeWhole _ _ _ s).imp id fun ⟨hsetup, hrenewed⟩ =>
      ⟨.inr hsetup, hrenewed.sound, hrenewed.current, fun _ => hrenewed.length trivial⟩
  | byteReceived byte framingError =>
    cases hexec
    refine (slots_takeByte _ byte framingError s).imp (fun hkept => hkept.finish _ _) fun ⟨hsetup, hrenewed⟩ =>
      ⟨.inr hsetup, ?_⟩
    obtain ⟨hsound, hcurrent, hlength⟩ := hrenewed.kept ((SlotsKept.refl _ _).finish s.link.nextId .owedFirst)
    exact ⟨hsound, hcurrent, fun _ => hlength trivial⟩
  | heardClaim station group letter block order | heardHeld station group letter block order
  | heardSpent station group letter block order | heardHolds station group letter blocks order
  | heardPosted station group letter serial route bag weight order | heardJoin station group office
  | heardBagnext station group route bag | heardCutover station group version | heardAlive station group =>
    cases hexec
    exact .inl (h.hearFrame (fun _ => id) _ _)
  | linkMessageDiscard | gateSample | gateLevelAccepted | sampleSequenceStart | encoderError =>
    cases hexec
    exact .inl (.ite (h.beside rfl) (h.beside rfl))
  | messageTransmissionBegin | messageTransmissionComplete =>
    cases hexec
    exact .inl (h.beside rfl)
  | gapTimerExpiry =>
    cases hexec
    exact .inl (.ite h ((hlater _).beside rfl))
  | stallTimerExpiry =>
    cases hexec
    exact .inl (.ite ((hlater _).beside rfl) h)
  | sequenceEnd counts reference =>
    cases hexec
    exact .inl ((h.besideAlloc (alloc_sequenceEnd counts reference s)).finish _ _)
  | waitingRateRelease =>
    cases hexec
    exact .inl (.ite ((h.besideAlloc (alloc_releaseWaiting s)).finish _ _) h)
  | waitingRateScaleRefusal =>
    cases hexec
    exact .inl (.ite ((h.besideAlloc (alloc_refuseWaiting _ s)).finish _ _) h)
  | settleWaitTimerExpiry =>
    simp only [exec, execSettleWaitTimerExpiry] at hexec
    split at hexec <;> cases hexec
    · exact .inl h
    · exact .inl (((hlater _).beside (u := State.refuse _ _ (State.clearWaiting _)) rfl).finish _ _)
  | encoderCount direction widthBlocked heightBlocked =>
    simp only [exec, execEncoderCount] at hexec
    split at hexec <;> cases hexec
    · exact .inl h
    · exact .inl (h.beside rfl)
  | quoteExpiry number =>
    simp only [exec, execQuoteExpiry] at hexec
    split at hexec
    · cases hexec
      exact .inl h
    · split at hexec <;> cases hexec
      · exact .inl ((hlater _).besideAlloc (alloc_removeQuote _ _))
      · exact .inl h
  | commitCompletion number =>
    cases hexec
    exact .inl ((h.judgeEntry number).finish _ _)
  | holdoffExpiry slot order =>
    simp only [exec, execHoldoffExpiry] at hexec
    split at hexec
    · cases hexec
      exact .inl h
    · rename_i x hx
      split at hexec <;> cases hexec
      · rename_i block remaining hclaim
        refine .inl (((hlater remaining).winClaim fun y hy => ?_).finish _ _)
        rw [elapse_slots, hx] at hy
        cases hy
        exact (block_elapse _ _).trans (by rw [hclaim]; rfl)
      all_goals exact .inl h
  | frameDiscard levels =>
    simp only [exec, execFrameDiscard] at hexec
    split at hexec <;> cases hexec
    · exact .inl (h.beside rfl)
    · exact .inl h
  | owedItemEntry =>
    cases hexec
    exact .inl h.offerOwed
  | attemptBegin =>
    cases hexec
    refine .inl (.ite ?_ h)
    split <;> exact h.beside rfl
  | arbitrationLost field =>
    simp only [exec, execArbitrationLost] at hexec
    split at hexec <;> cases hexec
    · exact .inl h
    · exact .inl (.ite (h.beside rfl) h)
  | failedAttempt =>
    simp only [exec, execFailedAttempt] at hexec
    split at hexec <;> cases hexec
    · exact .inl h
    · exact .inl ((h.besideAlloc (alloc_failAttempt _ s)).finish _ _)
  | transmitCompletion acknowledged order =>
    simp only [exec, execTransmitCompletion] at hexec
    split at hexec <;> cases hexec
    · exact .inl h
    · exact .inl ((h.transmitted _ _).finish _ _)
  | censusTimerExpiry order =>
    simp only [exec, execCensusTimerExpiry] at hexec
    split at hexec <;> cases hexec
    · exact .inl h
    · exact .inl ((hlater _).endCensus.finish _ _)
  | silenceTimerExpiry =>
    cases hexec
    exact .inl (.ite (.ite ((hlater _).beside rfl) ((hlater _).beside rfl)) h)
  | livenessSilent station =>
    simp only [exec, execLivenessSilent] at hexec
    split at hexec
    · cases hexec
      exact .inl h
    · split at hexec <;> cases hexec
      · exact .inl ((hlater _).beside rfl)
      · exact .inl h

/-- A step keeps the slots or makes them afresh: a millisecond moves a holdoff alone (R115). -/
theorem slots_of_step {s t : State} (hstep : step s = .next t) :
    SlotsKept (· < Config.slots) s t
      ∨ ((∃ straps rest, s.pending = .powerOnReset straps :: rest) ∨ s.setup = none)
        ∧ SlotsRenewed (s.pending.all Instr.wf = true) t := by
  have h := SlotsKept.refl (· < Config.slots) s
  unfold step at hstep
  split at hstep
  · cases hstep
    exact .inl (h.elapse 1)
  · rename_i c rest hpending
    have hrest : SlotsKept (· < Config.slots) s { s with pending := rest } := h.beside rfl
    rcases slots_of_exec c hstep with hkept | ⟨hafresh, hrenewed⟩
    · exact .inl (hrest.trans hkept)
    · refine .inr ⟨hafresh.imp (fun ⟨straps, hc⟩ => ⟨straps, rest, hc ▸ hpending⟩) id, hrenewed.sound, hrenewed.current,
        fun hwf => hrenewed.length ?_⟩
      rw [hpending, List.all_cons, Bool.and_eq_true] at hwf
      exact hwf.1

/-- Settles O57: a step keeps every slot, sound and with a current supply state, or makes the slots afresh. -/
theorem stepKeepsHoldingsInTheWindow : Obligations.StepKeepsHoldingsInTheWindow := by
  intro s t hsound hstep
  rcases slots_of_step hstep with hkept | ⟨-, hrenewed⟩
  · refine ⟨hkept.slotsSound hsound, fun height => ⟨hkept.suppliesCurrent fun k hk => ?_, fun _ => hkept.length.trans height⟩⟩
    exact hk.trans_eq height
  · exact ⟨hrenewed.sound, fun _ => ⟨fun _ => hrenewed.current, hrenewed.length⟩⟩

/-- Settles O60: a step of a configured part that takes no POWER_ON_RESET keeps every slot, and no kept slot loses a mark. -/
theorem marksAreNeverCleared : Obligations.MarksAreNeverCleared := by
  intro s t hstep hsetup hreset k n x hx hmark
  rcases slots_of_step hstep with hkept | ⟨⟨straps, rest, hpending⟩ | hnone, -⟩
  · obtain ⟨y, hy, hfollows, -⟩ := hkept.slot k x hx
    exact ⟨y, hy, hfollows.marks n hmark, hfollows.first, hfollows.letter⟩
  · exact absurd hpending (hreset straps rest)
  · exact absurd hnone hsetup

end Sys2Proof.Machine
end

section
/-! A heard JOIN and a heard ALIVE (R128, R133, R157, R165). -/

namespace Sys2Proof.Machine

/-- A heard JOIN reaches the allocator, its sender's office recorded (R128, R165). -/
theorem hear_join {station group : Nat} {s : State} (hheard : HeardFromPeer station group s) (office : Nat) :
    (s.acknowledge true).hear { station := station, group := group, body := .join office } =
      ((s.heardBy station group).modifyPeer station fun p => { p with office := some office }).joinHeard := by
  obtain ⟨-, hstate, hgroup, hother⟩ := hheard
  have hcredit : (s.acknowledge true).credit { station := station, group := group, body := .join office } =
      (s.heardBy station group).modifyPeer station fun p => { p with office := some office } := by
    have htwice := List.modify_modify_eq (l := s.hall.peers) (i := station)
      (f := fun p : Peer => { p with liveness := .live, ageMs := 0, lastGroup := some group })
      (g := fun p : Peer => { p with office := some office })
    simp only [State.heardBy, State.modifyPeer, State.onHall, htwice]
    rfl
  have hunstarted : ¬ (s.acknowledge true).hall.state = .starting := hstate
  have hsame : ¬ ((s.acknowledge true).setup.map (·.group)) ≠ some group := not_not_intro hgroup
  have hforeign : ¬ station = (s.acknowledge true).hall.station := hother
  rw [State.hear, if_neg hunstarted, if_neg hsame, if_neg hforeign, hcredit]
  rfl

/-- An event that has produced nothing and makes an offering due ends with that offering (R157). -/
theorem finish_dueOffer (own : Nat) (order : RoomOrder) {s : State} (h : s.scratch = .clear) :
    s.dueOffer.finish own order = s.offerOwed := by
  have hflush : s.dueOffer.flush own = s := by
    cases s
    simp only at h
    subst h
    rfl
  rw [finish_offer own order (s := s.dueOffer) rfl (congrArg Scratch.serveDue h), hflush]

/-- Settles O47: an ALIVE has no owner, and a JOIN reaches the allocator (`hear_join`), which owes HOLDS and has them offered
but in MUTED. -/
theorem heardJoinAndAlive : Obligations.HeardJoinAndAlive := by
  intro station group office s hheard
  have hclear : (s.heardBy station group).scratch = .clear := hheard.1
  refine ⟨?_, ?_⟩
  · have halive : (s.acknowledge true).hear { station := station, group := group, body := .alive } = s.heardBy station group :=
      hear_fromPeer hheard FrameKind.noConfusion
    show Host.Outcome.next (State.finish _ _ _) = _
    rw [halive, finish_clear _ _ _ hclear]
  · intro h
    have hscratch : h.scratch = .clear := hclear
    have hjoin : exec (.heardJoin station group office) s = .next (h.joinHeard.finish s.link.nextId .owedFirst) :=
      congrArg (fun u : State => Host.Outcome.next (u.finish s.link.nextId .owedFirst)) (hear_join hheard office)
    rw [hjoin, State.joinHeard]
    by_cases hmuted : s.hall.state = .muted
    · have hnot : ¬ h.mayOwe = true := fun howes => of_decide_eq_true howes hmuted
      rw [if_neg hnot, if_pos hmuted, finish_clear _ _ _ hscratch]
    · have howes : h.mayOwe = true := decide_eq_true hmuted
      rw [if_pos howes, if_neg hmuted]
      exact congrArg Host.Outcome.next (finish_dueOffer _ _ hscratch)

end Sys2Proof.Machine
end
